-- ==== Sys2Proof/Word.lean ====
section
/-! DEFINITION. The words the KH-240 shows on its buses: a byte of a frame and a 32-bit management value. -/

namespace Sys2Proof

/-- One byte of a frame (spec 00 section 6.6). -/
abbrev Byte := BitVec 8

/-- The 32-bit value of a management request or reply (R157, section 12.1). -/
abbrev Word32 := BitVec 32

end Sys2Proof
end

