-- ==== Sys2Proof/Syntax.lean ====
section
/-! DEFINITION. The commands the KH-240 takes, one constructor per row of spec/opcode_table.json, and the frames
and names their operands carry. -/

namespace Sys2Proof

/-- The two CAN ports (spec 00 section 2). -/
inductive Port where
  | v | b
  deriving DecidableEq, Repr

/-- A frame identifier with its format, 11-bit or 29-bit (spec 00 section 6.6). -/
inductive CanId where
  | std (id : BitVec 11)
  | ext (id : BitVec 29)
  deriving DecidableEq, Repr

/-- A classic CAN frame as R1 hands it on: identifier format and identifier, remote flag, data length, data bytes.
A remote frame carries no data bytes (R9). -/
structure Frame where
  id : CanId
  remote : Bool
  dlc : Fin 9
  data : List Byte
  deriving DecidableEq, Repr

/-- The four axle channels C1 to C4 (chapter 3). -/
inductive Chan where
  | c1 | c2 | c3 | c4
  deriving DecidableEq, Repr

/-- The wheel roles WHEEL_1 to WHEEL_6 (chapter 2). -/
inductive Wheel where
  | w1 | w2 | w3 | w4 | w5 | w6
  deriving DecidableEq, Repr

/-- The demand slots A and B (section 7.3). -/
inductive SlotName where
  | a | b
  deriving DecidableEq, Repr

/-- The two curves of the hold calculator (section 4.3). -/
inductive Curve where
  | grade | drum
  deriving DecidableEq, Repr

/-- The commands. The operands of a row are what its rule names: the port of a port event, the signal, channel,
wheel or slot whose timer expires, the index, field and value of a management request (section 12.1). -/
inductive Instr where
  | powerOnReset
  | powerLoss
  | warmReset
  | keyFall
  | keyRise
  | wake
  | frameReceived (port : Port) (frame : Frame)
  | receiveError (port : Port)
  | transmitError (port : Port)
  | transmitAttemptStart (port : Port)
  | frameSent (port : Port)
  | recessiveSequence (port : Port)
  | staleTimerExpiry (signal : Fin 20)
  | lossTimerExpiry (signal : Fin 20)
  | reversalWindowExpiry
  | statusStaleExpiry (chan : Chan)
  | statusLossExpiry (chan : Chan)
  | restTimerExpiry (wheel : Wheel)
  | holdLimitExpiry
  | rampTimerExpiry
  | parkConfirmExpiry
  | driverDemandStaleExpiry
  | driverDemandLossExpiry
  | refreshTimerExpiry
  | slotDiscardExpiry (slot : SlotName)
  | buildStage1Expiry
  | buildStage2Expiry
  | levelTimerExpiry
  | cabStatusPeriodExpiry
  | restartTimerExpiry
  | sleepDelayExpiry
  | loadEnd
  | saveComplete
  | read (group index field : Byte)
  | readLostSinceRead (index : Byte)
  | readClearCounter (field : Byte)
  | readClearCheckResult (index field : Byte)
  | writeRouteEntry (index field : Byte) (value : Word32)
  | writeSignalEntry (index field : Byte) (value : Word32)
  | writeChannelEntry (index field : Byte) (value : Word32)
  | writeCurveBreakpoint (curve : Curve) (index field : Byte) (value : Word32)
  | writeSetting (field : Byte) (value : Word32)
  | startCheck
  | abortCheck
  | clearSafeStart
  | save
  | reload
  | restart
  deriving DecidableEq, Repr

end Sys2Proof
end

