-- ==== Sys2Proof/Decode.lean ====
section
/-! DEFINITION. The command that a word spells by the table's bits. spec/opcode_table.json gives bits to no row of
this block, so no word spells a command. -/

namespace Sys2Proof

/-- No row of the table has bits: no word is a command (notes/assumptions/27.md). -/
def decodeTableWord (_nbits _w : Nat) : Option Instr := none

end Sys2Proof
end

