-- ==== Sys2Proof/Machine/Types.lean ====
section
/-! DEFINITION. The records the blocks of the KH-240 own, as plain data. Enumerations list their values in the
order the spec's tables give them, which is the order R174 numbers them in. -/

namespace Sys2Proof.Machine

/-! ### Things kept once per channel, per wheel -/

/-- One value per channel C1 to C4. -/
structure PerChan (α : Type) where
  c1 : α
  c2 : α
  c3 : α
  c4 : α
  deriving DecidableEq, Repr

/-- One value per wheel role WHEEL_1 to WHEEL_6. -/
structure PerWheel (α : Type) where
  w1 : α
  w2 : α
  w3 : α
  w4 : α
  w5 : α
  w6 : α
  deriving DecidableEq, Repr

/-! ### Time and counting -/

/-- A timer that runs: when it was started or restarted, and the duration it was started with, both in ms of the
time base (spec 00 section 6.4). -/
structure Running where
  start : Nat
  dur : Nat
  deriving DecidableEq, Repr

/-- A timer is stopped (none) or running. -/
abbrev Timer := Option Running

/-- A counter: a count of 0..255 and a saturated marker (R21). -/
structure Counter where
  count : BitVec 8
  saturated : Bool
  deriving DecidableEq, Repr

/-- The seventeen counters, in the order of R22's list, which R174 numbers them by. -/
inductive CounterName where
  | vToBDrops | bToVDrops | shedFrames | busOffV | busOffB
  | shortFrames | noDataFields | wheelGlitches | unknownAdverts
  | slotDiscards | slowBuilds | shortChannels
  | escalations | rollaways | secures | unconfirmedSecures | managementDrops
  deriving DecidableEq, Repr

/-- All counters of the part (R21, R22). -/
structure Counters where
  vToBDrops : Counter
  bToVDrops : Counter
  shedFrames : Counter
  busOffV : Counter
  busOffB : Counter
  shortFrames : Counter
  noDataFields : Counter
  wheelGlitches : Counter
  unknownAdverts : Counter
  slotDiscards : Counter
  slowBuilds : Counter
  shortChannels : Counter
  escalations : Counter
  rollaways : Counter
  secures : Counter
  unconfirmedSecures : Counter
  managementDrops : Counter
  deriving DecidableEq, Repr

/-- The age of a record: how recently it was renewed (R31, R49, R116). -/
inductive Age where
  | fresh | held | lost
  deriving DecidableEq, Repr

/-- The state of a checked table (R13, R24, R41, R62). -/
inductive TableState where
  | inForce | suspended
  deriving DecidableEq, Repr

/-! ### Ports and forward queues (chapter 1) -/

/-- The three port states (R4, R5). -/
inductive PortMode where
  | active | passive | offBus
  deriving DecidableEq, Repr

/-- Where a frame in attempt came from (R2, R19, R20). -/
inductive Source where
  | slot (n : SlotName) | control | vToB | reply | cab | bToV
  deriving DecidableEq, Repr

/-- The frame a port is offering to the bus, and its source (R2). -/
structure Attempt where
  source : Source
  frame : Frame
  deriving DecidableEq, Repr

/-- A port controller (section 1.1). Its bus-off event counter stands with the other counters. -/
structure PortCtl where
  txErr : Nat
  rxErr : Nat
  mode : PortMode
  recovery : Nat
  attempt : Option Attempt
  deriving DecidableEq, Repr

/-- The actions of a route entry (R9). -/
inductive Action where
  | pass | passShed | take | merge | channel | manage
  deriving DecidableEq, Repr

/-- A port default action (R12). -/
inductive DefaultAction where
  | pass | drop
  deriving DecidableEq, Repr

/-- A route entry (section 1.2). `ext` is the identifier format, set for 29-bit. -/
structure RouteEntry where
  valid : Bool
  port : Port
  ext : Bool
  id : BitVec 29
  mask : BitVec 29
  action : Action
  alsoPass : Bool
  extract : List (Fin 20)
  deriving DecidableEq, Repr

/-- The route classifier's own values: the table state and the merge identifier in force (section 1.2). -/
structure Route where
  state : TableState
  mergeId : Option CanId
  deriving DecidableEq, Repr

/-! ### Signals (chapter 2) -/

/-- What a signal means (R23, R28); `none` marks an unused entry. -/
inductive Role where
  | none | grade | payload | drumSpeed | engineTorque | gearRatio | reservoir | parkStatus
  | parkReleaseReq | driverPresent | pendantActive | holdInhibit | liftAxle
  | wheel (w : Wheel)
  deriving DecidableEq, Repr

/-- A signal table entry (section 2.1). `big` is the byte order, `dirSub` the direction sub-field's byte position
and bit offset. -/
structure SigEntry where
  role : Role
  bytePos : Nat
  bitOff : Nat
  length : Nat
  big : Bool
  signed : Bool
  gain : Int
  offset : Int
  stale : Nat
  loss : Nat
  dirSub : Option (Nat × Nat)
  deriving DecidableEq, Repr

/-- The direction code of a wheel sample (R29). -/
inductive DirCode where
  | forward | backward | unknown | none
  deriving DecidableEq, Repr

/-- A sample record (section 2.3). -/
structure SampleRecord where
  value : Int
  age : Age
  updated : Bool
  stale : Timer
  loss : Timer
  dir : DirCode
  deriving DecidableEq, Repr

/-- The sign the reversal tracker keeps (R36). -/
inductive Sign where
  | none | positive | negative
  deriving DecidableEq, Repr

/-- The signal block: table state, the bindings of the last valid table, the records, the grade window (oldest
sample first) and the reversal tracker (R24, R30, R34, R36). -/
structure Signals where
  state : TableState
  bindings : Vector Role 20
  records : Vector SampleRecord 20
  window : List Int
  keptSign : Sign
  reversal : Timer
  deriving DecidableEq, Repr

/-! ### Channels (chapter 3) -/

/-- A channel table entry (section 3.1). -/
structure ChanEntry where
  expected : Bool
  frameId : CanId
  acceptId : CanId
  brakeFactor : Nat
  liftable : Bool
  deriving DecidableEq, Repr

/-- Where a channel stands with its modulator (section 3.3). -/
inductive Handshake where
  | absent | listening | accepted | short | fault | lost
  deriving DecidableEq, Repr

/-- An advert's content: channel number, advertised maximum in 4 kPa units, liftable capability, unit revision. -/
structure Advert where
  channel : BitVec 4
  max : Byte
  liftable : Bool
  revision : Byte
  deriving DecidableEq, Repr

/-- The outcome of the path check for a channel (R57). -/
inductive CheckState where
  | unchecked | passed | failed
  deriving DecidableEq, Repr

/-- A channel record (section 3.1). -/
structure ChannelRecord where
  handshake : Handshake
  advert : Option Advert
  count : Nat
  pressure : Nat
  fault : Bool
  age : Age
  stale : Timer
  loss : Timer
  check : CheckState
  lostSinceRead : Bool
  deriving DecidableEq, Repr

/-- The three values worked out from the channel records: usable set, brake factor sum B, lowest advertised
maximum (R54, R55). -/
structure Derived where
  usable : PerChan Bool
  b : Nat
  lowestMax : Option Nat
  deriving DecidableEq, Repr

/-- The channel block (section 3.1). -/
structure Channels where
  state : TableState
  records : PerChan ChannelRecord
  derived : Derived
  deriving DecidableEq, Repr

/-! ### Hold calculator (chapter 4) -/

/-- A breakpoint: abscissa (grade or speed) and ordinate (force or allowance) (section 4.3). -/
structure Breakpoint where
  x : Nat
  y : Nat
  deriving DecidableEq, Repr

/-- The hold result record, in the order of its table (section 4.1). -/
structure HoldResult where
  slopeS : Nat
  payload : Nat
  mass : Nat
  slopeLoad : Nat
  drumAllowance : Nat
  drumLoad : Nat
  load : Nat
  margin : Nat
  force : Nat
  b : Nat
  pRaw : Nat
  pLimit : Nat
  pHold : Nat
  insufficient : Bool
  valid : Bool
  deriving DecidableEq, Repr

/-- The outcome of a drive-away test (R74). -/
inductive DriveOutcome where
  | passUphill | passDownhill | fail
  deriving DecidableEq, Repr

/-- The hold calculator's state (sections 4.1, 4.3, 4.8). -/
structure Calc where
  state : TableState
  payloadUsed : Nat
  record : HoldResult
  lastOutcome : DriveOutcome
  lastForce : Nat
  deriving DecidableEq, Repr

/-! ### Hold supervisor (chapter 5) -/

/-- The seven supervisor states. -/
inductive SupState where
  | unavailable | standby | checking | holding | releasing | securing | secured
  deriving DecidableEq, Repr

/-- The reason codes (section 5.1). -/
inductive Reason where
  | none | config | store | noChannel | safeStart | holdLimit | driverAbsent | pendant | reservoir
  | insufficient | wheelLost | rollaway | keyOff | portBOff | confirm | resetInHold | parkedByDriver
  deriving DecidableEq, Repr

/-- The direction the truck would climb in, or the gear drives in (R74). -/
inductive Heading where
  | forward | backward
  deriving DecidableEq, Repr

/-- The release direction (R89). -/
inductive ReleaseDir where
  | uphill | downhill
  deriving DecidableEq, Repr

/-- The release part of a hold context (R89). -/
structure Release where
  pStart : Nat
  ramp : Running
  dir : ReleaseDir
  deriving DecidableEq, Repr

/-- A wheel entry of a hold context (section 6.1). -/
structure WheelEntry where
  reference : Option Nat
  down : Nat
  up : Nat
  deriving DecidableEq, Repr

/-- The hold context (section 5.2). A wheel without an entry was not bound when the context was made. -/
structure Context where
  uphill : Option Heading
  step : Nat
  holdLimit : Timer
  wheels : PerWheel (Option WheelEntry)
  entryP : Nat
  release : Option Release
  reinforced : Bool
  deriving DecidableEq, Repr

/-- The hold supervisor (chapter 5). -/
structure Sup where
  state : SupState
  reason : Reason
  ctx : Option Context
  handover : Bool
  autoPending : Bool
  deriving DecidableEq, Repr

/-- The hold modes the supervisor hands the merger (R79). -/
inductive HoldMode where
  | none | check | hold | ramp | secure
  deriving DecidableEq, Repr

/-! ### Creep monitor (chapter 6) -/

/-- A wheel's rest timer (section 6.1). -/
inductive RestTimer where
  | stopped
  | running (r : Running)
  | expired
  deriving DecidableEq, Repr

/-- A wheel's tracking record (section 6.1). -/
structure Track where
  watched : Bool
  last : Option Nat
  rest : RestTimer
  still : Bool
  deriving DecidableEq, Repr

/-- The creep monitor: tracking records, whether the rest condition holds, the number of watched wheels. -/
structure Creep where
  wheels : PerWheel Track
  restHolds : Bool
  watchedCount : Nat
  deriving DecidableEq, Repr

/-! ### Demand merger (chapter 7) -/

/-- The states of a demand slot (section 7.3). -/
inductive SlotState where
  | empty | loaded | sending | done
  deriving DecidableEq, Repr

/-- How a slot's attempt ended (R123). -/
inductive SlotOutcome where
  | sent | failed
  deriving DecidableEq, Repr

/-- The load order of a slot (section 7.3). -/
inductive LoadOrder where
  | older | newer
  deriving DecidableEq, Repr

/-- A demand slot (section 7.3). -/
structure Slot where
  state : SlotState
  outcome : Option SlotOutcome
  frame : Option Frame
  order : Option LoadOrder
  discard : Timer
  deriving DecidableEq, Repr

/-- The last driver demand frame taken: identifier and the eight data bytes (section 7.1). -/
structure LastFrame where
  id : CanId
  bytes : List Byte
  deriving DecidableEq, Repr

/-- The driver demand record (section 7.1). -/
structure DriverDemand where
  demands : PerChan Nat
  age : Age
  stale : Timer
  loss : Timer
  last : Option LastFrame
  deriving DecidableEq, Repr

/-- The states of build confirmation (section 7.5). -/
inductive ConfState where
  | idle | stage1 | stage2
  deriving DecidableEq, Repr

/-- The demand merger (chapter 7). `lastComponent` is the hold component each channel carried in the last frame
made (R118). -/
structure Merger where
  driver : DriverDemand
  rolling : BitVec 4
  refresh : Timer
  slotA : Slot
  slotB : Slot
  control : List Frame
  conf : ConfState
  stage : Timer
  confirmLevel : Nat
  mode : HoldMode
  lastComponent : PerChan Nat
  deriving DecidableEq, Repr

/-! ### Park control (chapter 8) -/

/-- Where the spring brake's confirmation stands. -/
inductive ParkConf where
  | idle | waiting | confirmed | overdue
  deriving DecidableEq, Repr

/-- Park control (chapter 8). -/
structure Park where
  prq : Bool
  holdInForce : Bool
  conf : ParkConf
  timer : Timer
  deriving DecidableEq, Repr

/-! ### Path check (chapter 9) -/

/-- The levels of the path check. -/
inductive Level where
  | low | medium | high
  deriving DecidableEq, Repr

/-- The abort causes (R150, R153). -/
inductive AbortCause where
  | driverDemand | park | movement | keyOff | request | reset
  deriving DecidableEq, Repr

/-- How the most recent run finished. -/
inductive LastRun where
  | none | ended | aborted (c : AbortCause)
  deriving DecidableEq, Repr

/-- What became of a level (section 9.1). -/
inductive ResultOutcome where
  | none | pass | fail | notRun
  deriving DecidableEq, Repr

/-- A check result record (section 9.1). -/
structure CheckResult where
  outcome : ResultOutcome
  pressure : Nat
  updated : Bool
  deriving DecidableEq, Repr

/-- The three result records of a channel. -/
structure PerLevel (α : Type) where
  low : α
  medium : α
  high : α
  deriving DecidableEq, Repr

/-- The check sequencer and the twelve result records (section 9.1). -/
structure PathCheck where
  testing : Bool
  chan : Option Chan
  level : Option Level
  settle : Nat
  timer : Timer
  lastRun : LastRun
  results : PerChan (PerLevel CheckResult)
  deriving DecidableEq, Repr

/-! ### Management responder (chapter 10) -/

/-- A reply waiting for Port V. `restart` marks the reply of the RESTART that is pending (R161). -/
structure Reply where
  frame : Frame
  restart : Bool
  deriving DecidableEq, Repr

/-- The cab status slot (R164). -/
inductive CabSlot where
  | empty
  | waiting (f : Frame)
  | sending (f : Frame)
  deriving DecidableEq, Repr

/-- The management responder (chapter 10). -/
structure Responder where
  requests : List Frame
  replies : List Reply
  restartPending : Bool
  restartTimer : Timer
  cab : CabSlot
  renew : Bool
  period : Timer
  deriving DecidableEq, Repr

/-! ### Settings, working copies and the store (chapters 11 and 12) -/

/-- The settings of the part, in the order of section 12.3. Times are in the unit of that table. -/
structure Settings where
  portVDefault : DefaultAction
  portBDefault : DefaultAction
  highWater : Nat
  lowWater : Nat
  reversalWindow : Nat
  statusStale : Nat
  statusLoss : Nat
  checkRequired : Bool
  chassisMass : Nat
  maxPayload : Nat
  maxGross : Nat
  payloadFallStep : Nat
  reversalAllowance : Nat
  baseMargin : Nat
  stepMargin : Nat
  maxServicePressure : Nat
  reservoirReserve : Nat
  holdFloor : Nat
  drivelineFactor : Nat
  releaseMargin : Nat
  downhillTorque : Nat
  entryGrade : Nat
  entryDemand : Nat
  holdLimit : Nat
  rampTime : Nat
  autoCheck : Bool
  restTime : Nat
  creepThreshold : Nat
  demandStale : Nat
  demandLoss : Nat
  refreshInterval : Nat
  slotDiscardTime : Nat
  buildStage1 : Nat
  buildStage2 : Nat
  buildTolerance : Nat
  parkConfirmTime : Nat
  lowLevel : Nat
  mediumLevel : Nat
  highLevel : Nat
  levelTimeout : Nat
  checkTolerance : Nat
  requestId : CanId
  replyId : CanId
  cabStatusId : CanId
  sleepDelay : Nat
  deriving DecidableEq, Repr

/-- The settings and tables a load sets and a save copies: the working copies (R166). -/
structure Working where
  settings : Settings
  routes : Vector RouteEntry 96
  signals : Vector SigEntry 20
  channels : PerChan ChanEntry
  gradeCurve : Vector Breakpoint 8
  drumCurve : Vector Breakpoint 5
  deriving DecidableEq, Repr

/-- The stored image with its length and checksum (R166). -/
structure Image where
  contents : Working
  length : Nat
  checksum : BitVec 16
  deriving DecidableEq, Repr

/-- A pending cell operation (R169). -/
inductive CellOp where
  | none | write | erase
  deriving DecidableEq, Repr

/-- What the store is doing (chapter 11). -/
inductive Operation where
  | idle | loading | saving
  deriving DecidableEq, Repr

/-- How the most recent save ended (R168). -/
inductive LastSave where
  | none | completed | cut
  deriving DecidableEq, Repr

/-- The store (chapter 11). `copy` is the spare area while a save runs (R168). -/
structure Store where
  image : Image
  cell : Bool
  marker : Bool
  pendingCell : CellOp
  imageGood : Bool
  op : Operation
  lastSave : LastSave
  copy : Option Working
  deriving DecidableEq, Repr

/-- Which start is under way (R170): until its load ends, the supervisor has not taken its starting state. -/
inductive StartKind where
  | powerOn | warm
  deriving DecidableEq, Repr

end Sys2Proof.Machine
end

