-- ==== Sys2Proof/Machine/Defaults.lean ====
section
/-! DEFINITION. Default settings, empty tables, and the starting values of the blocks that the spec gives. -/

namespace Sys2Proof.Machine

/-- The same value for each channel. -/
def PerChan.all {α : Type} (x : α) : PerChan α := ⟨x, x, x, x⟩

/-- The same value for each wheel. -/
def PerWheel.all {α : Type} (x : α) : PerWheel α := ⟨x, x, x, x, x, x⟩

/-- Section 12.3, column Default. A bad image gives these (R166). -/
def Settings.default : Settings where
  portVDefault := .drop
  portBDefault := .pass
  highWater := 18
  lowWater := 10
  reversalWindow := 8
  statusStale := 100
  statusLoss := 300
  checkRequired := true
  chassisMass := 1250
  maxPayload := 2000
  maxGross := 6000
  payloadFallStep := 5
  reversalAllowance := 150
  baseMargin := 200
  stepMargin := 150
  maxServicePressure := 650
  reservoirReserve := 100
  holdFloor := 150
  drivelineFactor := 900
  releaseMargin := 100
  downhillTorque := 150
  entryGrade := 30
  entryDemand := 100
  holdLimit := 180
  rampTime := 600
  autoCheck := false
  restTime := 300
  creepThreshold := 4
  demandStale := 100
  demandLoss := 300
  refreshInterval := 20
  slotDiscardTime := 40
  buildStage1 := 150
  buildStage2 := 300
  buildTolerance := 40
  parkConfirmTime := 1500
  lowLevel := 100
  mediumLevel := 300
  highLevel := 500
  levelTimeout := 500
  checkTolerance := 40
  requestId := .std 0x6F0#11
  replyId := .std 0x6F8#11
  cabStatusId := .std 0x6F4#11
  sleepDelay := 2000

/-- An entry of an empty route table: valid clear (R13). DESIGN CHOICE for the other fields, notes/assumptions/10.md. -/
def RouteEntry.blank : RouteEntry := ⟨false, .v, false, 0#29, 0#29, .pass, false, []⟩

/-- An entry of an empty signal table: role NONE (R23). DESIGN CHOICE for the other fields, each at the least value
of its range, notes/assumptions/10.md. -/
def SigEntry.blank : SigEntry := ⟨.none, 0, 0, 1, false, false, 0, 0, 10, 10, none⟩

/-- An entry of an empty channel table: expected clear (R41). DESIGN CHOICE for the other fields,
notes/assumptions/10.md. -/
def ChanEntry.blank : ChanEntry := ⟨false, .std 0#11, .std 0#11, 1, false⟩

/-- What a bad image leaves: default settings, empty tables, curves with every breakpoint at 0 (R166, section 4.3). -/
def Working.blank : Working where
  settings := Settings.default
  routes := Vector.replicate 96 RouteEntry.blank
  signals := Vector.replicate 20 SigEntry.blank
  channels := PerChan.all ChanEntry.blank
  gradeCurve := Vector.replicate 8 ⟨0, 0⟩
  drumCurve := Vector.replicate 5 ⟨0, 0⟩

/-- R21: a counter at power-on. -/
def Counter.zero : Counter := ⟨0#8, false⟩

/-- R21: every counter starts at 0 with its marker clear. -/
def Counters.zero : Counters where
  vToBDrops := Counter.zero
  bToVDrops := Counter.zero
  shedFrames := Counter.zero
  busOffV := Counter.zero
  busOffB := Counter.zero
  shortFrames := Counter.zero
  noDataFields := Counter.zero
  wheelGlitches := Counter.zero
  unknownAdverts := Counter.zero
  slotDiscards := Counter.zero
  slowBuilds := Counter.zero
  shortChannels := Counter.zero
  escalations := Counter.zero
  rollaways := Counter.zero
  secures := Counter.zero
  unconfirmedSecures := Counter.zero
  managementDrops := Counter.zero

/-- R7: a port controller at a start or a wake. -/
def PortCtl.start : PortCtl := ⟨0, 0, .active, 0, none⟩

/-- R38: a sample record at a start, before its entry's direction code is looked at. -/
def SampleRecord.start : SampleRecord := ⟨0, .lost, false, none, none, .unknown⟩

/-- R38: the direction code of a record at a start: none for a WHEEL entry without a direction sub-field, else unknown. -/
def SigEntry.startDir (e : SigEntry) : DirCode :=
  match e.role, e.dirSub with
  | .wheel _, none => .none
  | _, _ => .unknown

/-- R58: a channel record at power-on. -/
def ChannelRecord.blank : ChannelRecord :=
  ⟨.absent, none, 0, 0, false, .lost, none, none, .unchecked, false⟩

/-- R58: no channel usable, B 0. -/
def Derived.none : Derived := ⟨PerChan.all false, 0, Option.none⟩

/-- R65, stage 3: the gross mass used. -/
def grossMass (set : Settings) (payload : Nat) : Nat := min (set.chassisMass + payload) set.maxGross

/-- R61, R77: the record of which only payload used, M and B are worked. -/
def HoldResult.unworked (set : Settings) (payload b : Nat) : HoldResult :=
  ⟨0, payload, grossMass set payload, 0, 0, 0, 0, 0, 0, b, 0, 0, 0, false, false⟩

/-- R77: the calculator's values at a start, its table state kept. -/
def Calc.start (set : Settings) (state : TableState) : Calc :=
  ⟨state, set.maxPayload, HoldResult.unworked set set.maxPayload 0, .fail, 0⟩

/-- R114: the creep monitor at a start. -/
def Creep.start : Creep := ⟨PerWheel.all ⟨false, none, .stopped, false⟩, false, 0⟩

/-- R130: an empty demand slot. -/
def Slot.start : Slot := ⟨.empty, none, none, none, none⟩

/-- R130: the driver demand record at a start. -/
def DriverDemand.start : DriverDemand := ⟨PerChan.all 0, .lost, none, none, none⟩

/-- R130: the demand merger at a start. -/
def Merger.start : Merger where
  driver := DriverDemand.start
  rolling := 0#4
  refresh := none
  slotA := Slot.start
  slotB := Slot.start
  control := []
  conf := .idle
  stage := none
  confirmLevel := 0
  mode := .none
  lastComponent := PerChan.all 0

/-- R140: park control at power-on. -/
def Park.start : Park := ⟨false, false, .idle, none⟩

/-- R153: the path check at power-on. -/
def PathCheck.start : PathCheck where
  testing := false
  chan := none
  level := none
  settle := 0
  timer := none
  lastRun := .none
  results := PerChan.all ⟨⟨.none, 0, false⟩, ⟨.none, 0, false⟩, ⟨.none, 0, false⟩⟩

/-- R165: the management responder at a start or a wake. -/
def Responder.start : Responder := ⟨[], [], false, none, .empty, false, none⟩

end Sys2Proof.Machine
end

