-- ==== Sys2Proof/Machine/State.lean ====
section
/-! DEFINITION. The whole state of the KH-240, and the state right after power-on reset. -/

namespace Sys2Proof.Machine

/-- The part as a whole. INVENTORY.md lists each field with its rule and reset value. `pending` is the queue of
commands waiting and `choices` counts the free choices taken; both are the model's own. -/
structure State where
  pending : List Instr
  choices : Nat
  powered : Bool
  asleep : Bool
  key : Bool
  now : Nat
  start : Option StartKind
  sleepTimer : Timer
  portV : PortCtl
  portB : PortCtl
  route : Route
  vToB : List Frame
  shedding : Bool
  bToV : List Frame
  signals : Signals
  channels : Channels
  calculator : Calc
  sup : Sup
  creep : Creep
  merger : Merger
  park : Park
  path : PathCheck
  resp : Responder
  store : Store
  work : Working
  counters : Counters
  deriving DecidableEq, Repr

/-- The spec names no condition that stops the part, so there is no fault: no meaning answers one. -/
inductive Fault where
  deriving DecidableEq, Repr

/-- Why a command is refused. -/
inductive Refusal where
  /-- Raised by `exec` for a command whose meaning is not written yet; safe: the machine stops. No arm raises it. -/
  | notModelled (mnemonic : String)
  deriving DecidableEq, Repr

/-- Right after POWER_ON_RESET of a part with a blank store: the load has begun and not yet ended (R170). Each value
is the one INVENTORY.md cites for it. -/
def State.reset : State where
  pending := []
  choices := 0
  powered := true
  asleep := false
  key := true
  now := 0
  start := some .powerOn
  sleepTimer := none
  portV := PortCtl.start
  portB := PortCtl.start
  route := ⟨.suspended, none⟩
  vToB := []
  shedding := false
  bToV := []
  signals := ⟨.suspended, Vector.replicate 20 .none, Vector.replicate 20 SampleRecord.start, [], .none, none⟩
  channels := ⟨.suspended, PerChan.all ChannelRecord.blank, Derived.none⟩
  calculator := Calc.start Settings.default .suspended
  sup := ⟨.unavailable, .store, none, false, false⟩
  creep := Creep.start
  merger := Merger.start
  park := Park.start
  path := PathCheck.start
  resp := Responder.start
  store := ⟨⟨Working.blank, 0, 0#16⟩, false, false, .none, false, .loading, .none, none⟩
  work := Working.blank
  counters := Counters.zero

end Sys2Proof.Machine
end

