-- ==== Sys2Proof/Machine/Ops.lean ====
section
/-! DEFINITION. The operations every block uses: per-channel and per-wheel access, timers, counters, rounding, the
forward queues and the control queue. -/

namespace Sys2Proof

/-- The four channels in order. -/
def Chan.all : List Chan := [.c1, .c2, .c3, .c4]

/-- The channel's number, 1 to 4. -/
def Chan.number : Chan → Nat
  | .c1 => 1
  | .c2 => 2
  | .c3 => 3
  | .c4 => 4

/-- The six wheels in order. -/
def Wheel.all : List Wheel := [.w1, .w2, .w3, .w4, .w5, .w6]

/-- The other slot's name. -/
def SlotName.other : SlotName → SlotName
  | .a => .b
  | .b => .a

end Sys2Proof

namespace Sys2Proof.Machine

/-! ### Per channel, per wheel, per level -/

/-- The value of one channel. -/
def PerChan.get {α : Type} (p : PerChan α) : Chan → α
  | .c1 => p.c1
  | .c2 => p.c2
  | .c3 => p.c3
  | .c4 => p.c4

/-- The same values but for one channel. -/
def PerChan.set {α : Type} (p : PerChan α) (c : Chan) (x : α) : PerChan α :=
  match c with
  | .c1 => { p with c1 := x }
  | .c2 => { p with c2 := x }
  | .c3 => { p with c3 := x }
  | .c4 => { p with c4 := x }

/-- A value for each channel. -/
def PerChan.build {α : Type} (f : Chan → α) : PerChan α := ⟨f .c1, f .c2, f .c3, f .c4⟩

/-- The value of one wheel. -/
def PerWheel.get {α : Type} (p : PerWheel α) : Wheel → α
  | .w1 => p.w1
  | .w2 => p.w2
  | .w3 => p.w3
  | .w4 => p.w4
  | .w5 => p.w5
  | .w6 => p.w6

/-- The same values but for one wheel. -/
def PerWheel.set {α : Type} (p : PerWheel α) (w : Wheel) (x : α) : PerWheel α :=
  match w with
  | .w1 => { p with w1 := x }
  | .w2 => { p with w2 := x }
  | .w3 => { p with w3 := x }
  | .w4 => { p with w4 := x }
  | .w5 => { p with w5 := x }
  | .w6 => { p with w6 := x }

/-- A value for each wheel. -/
def PerWheel.build {α : Type} (f : Wheel → α) : PerWheel α :=
  ⟨f .w1, f .w2, f .w3, f .w4, f .w5, f .w6⟩

/-- The value of one level. -/
def PerLevel.get {α : Type} (p : PerLevel α) : Level → α
  | .low => p.low
  | .medium => p.medium
  | .high => p.high

/-- The same values but for one level. -/
def PerLevel.set {α : Type} (p : PerLevel α) (l : Level) (x : α) : PerLevel α :=
  match l with
  | .low => { p with low := x }
  | .medium => { p with medium := x }
  | .high => { p with high := x }

/-! ### Rounding (spec 00 section 6.3) -/

/-- "Rounded up": the least integer not below a / b. -/
def ceilDiv (a b : Nat) : Nat := (a + (b - 1)) / b

/-- "Rounded up" for a signed numerator and a positive denominator. -/
def ceilDivInt (a : Int) (b : Nat) : Int := -((-a) / (b : Int))

/-- "Rounded up to 4 kPa". -/
def roundUp4 (p : Nat) : Nat := ceilDiv p 4 * 4

/-- "Rounded half away from zero": a / 1024 (R28 step 2). -/
def roundHalfAway1024 (a : Int) : Int :=
  if a < 0 then -((((-a).toNat + 512) / 1024 : Nat) : Int) else ((a.toNat + 512) / 1024 : Nat)

/-- A value held to a range. -/
def clampInt (lo hi x : Int) : Int := if x < lo then lo else if hi < x then hi else x

/-! ### Timers (spec 00 section 6.4) -/

/-- When a running timer expires. -/
def Running.due (r : Running) : Nat := r.start + r.dur

/-- The time left on a timer at a time; a stopped timer has none left (R174). -/
def Timer.left (t : Timer) (now : Nat) : Nat :=
  match t with
  | none => 0
  | some r => r.due - now

/-- A timer started now for a duration in ms. -/
def State.timer (s : State) (dur : Nat) : Timer := some ⟨s.now, dur⟩

/-- A timer has expired: the time base has come to its end (notes/assumptions/4.md). -/
def State.reach (s : State) (r : Running) : State := { s with now := max s.now r.due }

/-! ### Counters (R21) -/

/-- R21: an event at a counter. -/
def Counter.bump (c : Counter) : Counter :=
  if c.count = 255#8 then { c with saturated := true } else { c with count := c.count + 1#8 }

/-- One counter of the part. -/
def Counters.get (cs : Counters) : CounterName → Counter
  | .vToBDrops => cs.vToBDrops
  | .bToVDrops => cs.bToVDrops
  | .shedFrames => cs.shedFrames
  | .busOffV => cs.busOffV
  | .busOffB => cs.busOffB
  | .shortFrames => cs.shortFrames
  | .noDataFields => cs.noDataFields
  | .wheelGlitches => cs.wheelGlitches
  | .unknownAdverts => cs.unknownAdverts
  | .slotDiscards => cs.slotDiscards
  | .slowBuilds => cs.slowBuilds
  | .shortChannels => cs.shortChannels
  | .escalations => cs.escalations
  | .rollaways => cs.rollaways
  | .secures => cs.secures
  | .unconfirmedSecures => cs.unconfirmedSecures
  | .managementDrops => cs.managementDrops

/-- The counters with one of them replaced. -/
def Counters.set (cs : Counters) (n : CounterName) (c : Counter) : Counters :=
  match n with
  | .vToBDrops => { cs with vToBDrops := c }
  | .bToVDrops => { cs with bToVDrops := c }
  | .shedFrames => { cs with shedFrames := c }
  | .busOffV => { cs with busOffV := c }
  | .busOffB => { cs with busOffB := c }
  | .shortFrames => { cs with shortFrames := c }
  | .noDataFields => { cs with noDataFields := c }
  | .wheelGlitches => { cs with wheelGlitches := c }
  | .unknownAdverts => { cs with unknownAdverts := c }
  | .slotDiscards => { cs with slotDiscards := c }
  | .slowBuilds => { cs with slowBuilds := c }
  | .shortChannels => { cs with shortChannels := c }
  | .escalations => { cs with escalations := c }
  | .rollaways => { cs with rollaways := c }
  | .secures => { cs with secures := c }
  | .unconfirmedSecures => { cs with unconfirmedSecures := c }
  | .managementDrops => { cs with managementDrops := c }

/-- The counters in the order R174 numbers them. -/
def CounterName.all : List CounterName :=
  [.vToBDrops, .bToVDrops, .shedFrames, .busOffV, .busOffB, .shortFrames, .noDataFields, .wheelGlitches,
   .unknownAdverts, .slotDiscards, .slowBuilds, .shortChannels, .escalations, .rollaways, .secures,
   .unconfirmedSecures, .managementDrops]

/-- R21: one event is counted. -/
def State.count (s : State) (n : CounterName) : State :=
  { s with counters := s.counters.set n (s.counters.get n).bump }

/-! ### What is running -/

/-- The part has power and does not sleep. -/
def State.awake (s : State) : Bool := s.powered && !s.asleep

/-- The part is awake and no start is under way: ports take and send frames, requests are served (R170, R171). -/
def State.running (s : State) : Bool := s.awake && s.start.isNone

/-- R171: a timer that can expire: no timer expires while the part sleeps or has no power. -/
def State.expiring (s : State) (t : Timer) : Timer := if s.awake then t else none

/-- The states in which a hold or its spring brake is in force (R132), which are also those with a refresh timer
(R120). -/
def SupState.isHold : SupState → Bool
  | .holding | .releasing | .securing | .secured => true
  | .unavailable | .standby | .checking => false

/-! ### Ports -/

/-- The controller of a port. -/
def State.port (s : State) : Port → PortCtl
  | .v => s.portV
  | .b => s.portB

/-- The state with one port controller replaced. -/
def State.setPort (s : State) (p : Port) (c : PortCtl) : State :=
  match p with
  | .v => { s with portV := c }
  | .b => { s with portB := c }

/-- The port takes frames and errors: it is not OFF-BUS (R5). -/
def PortCtl.onBus (c : PortCtl) : Bool :=
  match c.mode with
  | .offBus => false
  | .active | .passive => true

/-- R4: the port state of a port that is not OFF-BUS, from its counts. -/
def PortCtl.restate (c : PortCtl) : PortCtl :=
  match c.mode with
  | .offBus => c
  | .active | .passive => { c with mode := if 128 ≤ c.txErr ∨ 128 ≤ c.rxErr then .passive else .active }

/-! ### Forward queues (R15 to R17) and control queue (R125) -/

/-- The size of a forward queue (section 1.3). -/
def forwardSize : Nat := 24

/-- The size of the control, request and reply queues (R125, R155, R156). -/
def shortSize : Nat := 4

/-- R15, R16: a frame offered to the V-to-B queue. -/
def State.offerVToB (s : State) (f : Frame) (sheddable : Bool) : State :=
  if sheddable && s.shedding then s.count .shedFrames
  else if forwardSize ≤ s.vToB.length then s.count .vToBDrops
  else
    let q := s.vToB ++ [f]
    { s with vToB := q, shedding := s.shedding || decide (s.work.settings.highWater ≤ q.length) }

/-- R15: a frame offered to the B-to-V queue. -/
def State.offerBToV (s : State) (f : Frame) : State :=
  if forwardSize ≤ s.bToV.length then s.count .bToVDrops else { s with bToV := s.bToV ++ [f] }

/-- R9: a frame that arrived on a port is offered to the other port's forward queue; shedding is Port V's (R15). -/
def State.forward (s : State) (arrival : Port) (f : Frame) (sheddable : Bool) : State :=
  match arrival with
  | .v => s.offerVToB f sheddable
  | .b => s.offerBToV f

/-- R17, R16: the head of the V-to-B queue is removed. -/
def State.removeVToB (s : State) : State :=
  let q := s.vToB.tail
  { s with vToB := q, shedding := s.shedding && !decide (q.length ≤ s.work.settings.lowWater) }

/-- R125: a frame offered to the control queue joins it or is refused uncounted. -/
def State.offerControl (s : State) (f : Frame) : State :=
  if shortSize ≤ s.merger.control.length then s
  else { s with merger := { s.merger with control := s.merger.control ++ [f] } }

/-! ### The sleep delay timer (R171) -/

/-- R171: the conditions under which the sleep delay timer runs. -/
def State.sleepReady (s : State) : Bool :=
  s.running && !s.key && decide (s.store.op = .idle) &&
    (match s.sup.state with
     | .unavailable | .standby | .secured => true
     | .checking | .holding | .releasing | .securing => false)

/-- R171: the sleep delay timer starts when its conditions come to hold together and stops when one ends. Made at
each change of KEY, of the supervisor's state and of the store's operation. -/
def State.tendSleep (s : State) : State :=
  if s.sleepReady then
    { s with sleepTimer := match s.sleepTimer with
                           | some r => some r
                           | none => s.timer s.work.settings.sleepDelay }
  else { s with sleepTimer := none }

end Sys2Proof.Machine
end

