-- ==== Sys2Proof/Machine/Operands.lean ====
section
/-! DEFINITION. Reading and writing the fields of frames and management values: identifiers, signal fields,
modulator frames, demand frames, requests, replies, the cab status frame (chapters 2 and 12). -/

namespace Sys2Proof.Machine

/-! ### Bytes -/

/-- A data byte; a byte the frame does not carry reads 0. -/
def byteAt (data : List Byte) (k : Nat) : Byte := data.getD k 0#8

/-- A byte of a number, bits above 7 dropped. -/
def byteOf (n : Nat) : Byte := BitVec.ofNat 8 n

/-- Section 12.1: a 32-bit value from four bytes, least significant first. -/
def wordFrom (data : List Byte) (k : Nat) : Word32 :=
  (byteAt data (k + 3)) ++ (byteAt data (k + 2)) ++ (byteAt data (k + 1)) ++ (byteAt data k)

/-- Section 12.1: the four bytes of a value, least significant first. -/
def wordBytes (w : Word32) : List Byte :=
  [w.extractLsb' 0 8, w.extractLsb' 8 8, w.extractLsb' 16 8, w.extractLsb' 24 8]

/-- A number as a management value. -/
def natWord (n : Nat) : Word32 := BitVec.ofNat 32 n

/-- R158: a signed quantity as a 32-bit two's-complement number. -/
def intWord (i : Int) : Word32 := BitVec.ofInt 32 i

/-- R158: a flag reads 0 or 1. -/
def flagWord (b : Bool) : Word32 := if b then 1#32 else 0#32

/-- R174: an absent value reads FFFFFFFFh. -/
def absentWord : Word32 := 0xFFFFFFFF#32

/-- A value that may be absent. -/
def optWord (o : Option Nat) : Word32 :=
  match o with
  | some n => natWord n
  | none => absentWord

/-! ### Identifiers -/

end Sys2Proof.Machine

namespace Sys2Proof

/-- The format of an identifier: set for 29-bit. -/
def CanId.isExt : CanId → Bool
  | .std _ => false
  | .ext _ => true

/-- The identifier's bits, in 29 bits. -/
def CanId.bits : CanId → BitVec 29
  | .std i => i.zeroExtend 29
  | .ext i => i

/-- R174: the compound form of an identifier: format in bit 31, identifier in bits 0 to 28. -/
def CanId.word : CanId → Word32
  | .std i => i.zeroExtend 32
  | .ext i => 0x80000000#32 ||| i.zeroExtend 32

/-- R174: an identifier from its compound form; none where a bit outside the named bits is set or the identifier is
too wide for its format. -/
def CanId.ofWord (w : Word32) : Option CanId :=
  if w &&& 0x60000000#32 ≠ 0#32 then none
  else if w.getLsbD 31 then some (.ext (w.extractLsb' 0 29))
  else if w &&& 0x1FFFF800#32 ≠ 0#32 then none
  else some (.std (w.extractLsb' 0 11))

end Sys2Proof

namespace Sys2Proof.Machine

/-- A route entry's identifier in its format. One that a write of the format left wider than 11 bits gives its low 11
bits. DESIGN CHOICE, notes/assumptions/15.md. -/
def RouteEntry.canId (e : RouteEntry) : CanId :=
  if e.ext then .ext e.id else .std (e.id.extractLsb' 0 11)

/-- R8: a mask of all ones for a format. -/
def fullMask (ext : Bool) : BitVec 29 := if ext then 0x1FFFFFFF#29 else 0x7FF#29

/-- R8: the entry selects the frame by port, format, identifier and mask. Bits that a write of the format left above the
11 of an identifier and mask are compared too, with 0. DESIGN CHOICE, notes/assumptions/15.md. -/
def RouteEntry.matches (e : RouteEntry) (p : Port) (f : Frame) : Bool :=
  e.valid && decide (e.port = p) && (e.ext == f.id.isExt) && ((f.id.bits ^^^ e.id) &&& e.mask == 0#29)

/-! ### Signal fields (R26 to R29) -/

/-- R26: the bytes a field touches, from its least significant one. -/
def SigEntry.bytes (e : SigEntry) : List Nat :=
  (List.range ((e.bitOff + e.length - 1) / 8 + 1)).map fun j => if e.big then e.bytePos - j else e.bytePos + j

/-- R26: the raw field. -/
def SigEntry.raw (e : SigEntry) (data : List Byte) : Nat :=
  (e.bytes.foldr (fun k acc => acc * 256 + (byteAt data k).toNat) 0) / 2 ^ e.bitOff % 2 ^ e.length

/-- Whether the role is one of the WHEEL roles. -/
def Role.isWheel : Role → Bool
  | .wheel _ => true
  | _ => false

/-- R27 test 1: the frame does not reach every byte the field, or a WHEEL entry's direction sub-field, touches. -/
def SigEntry.short (e : SigEntry) (dlc : Nat) : Bool :=
  e.bytes.any (fun k => dlc ≤ k) ||
    (e.role.isWheel && match e.dirSub with
                       | some (b, _) => decide (dlc ≤ b)
                       | none => false)

/-- R27 test 2: every bit of the field is one. -/
def SigEntry.noData (e : SigEntry) (data : List Byte) : Bool := e.raw data == 2 ^ e.length - 1

/-- R28: the range of a role's value; a WHEEL role's is that of its count (R29). -/
def Role.range : Role → Int × Int
  | .grade => (-450, 450)
  | .payload => (0, 20000)
  | .drumSpeed => (-200, 200)
  | .engineTorque => (0, 4000)
  | .gearRatio => (-20000, 20000)
  | .reservoir => (0, 1500)
  | .parkStatus => (0, 3)
  | .parkReleaseReq | .driverPresent | .pendantActive | .holdInhibit | .liftAxle => (0, 1)
  | .wheel _ => (0, 65535)
  | .none => (0, 0)

/-- R28, R29: the value of an extraction. -/
def SigEntry.value (e : SigEntry) (data : List Byte) : Int :=
  let raw := e.raw data
  match e.role with
  | .wheel _ => raw
  | r =>
    let x : Int := if e.signed && decide (2 ^ (e.length - 1) ≤ raw) then (raw : Int) - 2 ^ e.length else raw
    clampInt r.range.1 r.range.2 (roundHalfAway1024 (x * e.gain) + e.offset)

/-- R29: the direction code of an extraction. -/
def SigEntry.dirCode (e : SigEntry) (data : List Byte) : DirCode :=
  match e.role, e.dirSub with
  | .wheel _, some (b, o) =>
    match (byteAt data b).toNat / 2 ^ o % 4 with
    | 1 => .forward
    | 2 => .backward
    | _ => .unknown
  | _, _ => .none

/-! ### Modulator frames (section 12.1) -/

/-- Byte 0, bits 0 to 3: the channel number. -/
def frameChannel (f : Frame) : BitVec 4 := (byteAt f.data 0).extractLsb' 0 4

/-- Byte 0, bits 4 to 7: the kind: 1 advert, 2 status, 3 accept. -/
def frameKind (f : Frame) : BitVec 4 := (byteAt f.data 0).extractLsb' 4 4

/-- An advert's content. -/
def frameAdvert (f : Frame) : Advert :=
  ⟨frameChannel f, byteAt f.data 1, (byteAt f.data 2).getLsbD 0, byteAt f.data 3⟩

/-- R47: the accept frame that echoes an advert on the channel's accept identifier. -/
def acceptFrame (id : CanId) (a : Advert) : Frame :=
  ⟨id, false, 4, [3#4 ++ a.channel, a.max, if a.liftable then 1#8 else 0#8, a.revision]⟩

/-! ### Demand frames (section 12.1) -/

/-- The demand of a channel in a driver demand frame, in kPa (R115). -/
def frameDemand (f : Frame) (c : Chan) : Nat := 4 * (byteAt f.data (c.number - 1)).toNat

/-- R121: the demand origin byte of a hold mode. -/
def HoldMode.origin : HoldMode → Byte
  | .none => 0x00#8
  | .hold => 0x01#8
  | .ramp => 0x02#8
  | .check => 0x03#8
  | .secure => 0x04#8

/-- R173: an emitted demand frame from its demands in kPa (multiples of 4), origin, rolling count and the bytes of the
last driver demand frame. -/
def demandFrame (id : CanId) (demands : PerChan Nat) (mode : HoldMode) (rolling : BitVec 4) (last : List Byte) :
    Frame :=
  ⟨id, false, 8,
    [byteOf (demands.c1 / 4), byteOf (demands.c2 / 4), byteOf (demands.c3 / 4), byteOf (demands.c4 / 4),
     mode.origin, (byteAt last 5).extractLsb' 4 4 ++ rolling, byteAt last 6, byteAt last 7]⟩

/-! ### Management frames (section 12.1) -/

/-- A management request as the responder judges it: whether its data length reaches 8, and its fields. -/
structure Request where
  whole : Bool
  code : Byte
  group : Byte
  index : Byte
  field : Byte
  value : Word32
  deriving DecidableEq, Repr

/-- The request a frame carries; a byte it does not reach reads 0 (R157). -/
def frameRequest (f : Frame) : Request :=
  ⟨f.dlc.val == 8, byteAt f.data 0, byteAt f.data 1, byteAt f.data 2, byteAt f.data 3, wordFrom f.data 4⟩

/-- The frame that carries a request. -/
def requestFrame (id : CanId) (code group index field : Byte) (value : Word32) : Frame :=
  ⟨id, false, 8, [code, group, index, field] ++ wordBytes value⟩

/-- The result codes (section 12.1). -/
inductive Result where
  | ok | badItem | badValue | busy | denied
  deriving DecidableEq, Repr

/-- A result's number. -/
def Result.byte : Result → Byte
  | .ok => 0x00#8
  | .badItem => 0x01#8
  | .badValue => 0x02#8
  | .busy => 0x03#8
  | .denied => 0x04#8

/-- A reply to a request (section 12.1). -/
def replyFrame (id : CanId) (r : Request) (res : Result) (value : Word32) : Frame :=
  ⟨id, false, 8, [r.code, res.byte, r.group, r.index] ++ wordBytes value⟩

/-- The request codes. -/
def codeRead : Byte := 0x01#8
/-- WRITE. -/
def codeWrite : Byte := 0x02#8
/-- READ-CLEAR. -/
def codeReadClear : Byte := 0x03#8
/-- COMMAND. -/
def codeCommand : Byte := 0x04#8

/-- The item groups (section 12.1). -/
inductive Group where
  | settings | route | signal | gradeCurve | drumCurve | channel | status | counters | checkResults
  deriving DecidableEq, Repr

/-- The group a byte names. -/
def Group.ofByte (b : Byte) : Option Group :=
  match b.toNat with
  | 0 => some .settings
  | 1 => some .route
  | 2 => some .signal
  | 3 => some .gradeCurve
  | 4 => some .drumCurve
  | 5 => some .channel
  | 6 => some .status
  | 7 => some .counters
  | 8 => some .checkResults
  | _ => none

/-- The byte that names a group. -/
def Group.byte : Group → Byte
  | .settings => 0x00#8
  | .route => 0x01#8
  | .signal => 0x02#8
  | .gradeCurve => 0x03#8
  | .drumCurve => 0x04#8
  | .channel => 0x05#8
  | .status => 0x06#8
  | .counters => 0x07#8
  | .checkResults => 0x08#8

/-- The commands a COMMAND request names. -/
inductive Command where
  | startCheck | abortCheck | clearSafeStart | save | reload | restart
  deriving DecidableEq, Repr

/-- The command a field byte names. -/
def Command.ofByte (b : Byte) : Option Command :=
  match b.toNat with
  | 1 => some .startCheck
  | 2 => some .abortCheck
  | 3 => some .clearSafeStart
  | 4 => some .save
  | 5 => some .reload
  | 6 => some .restart
  | _ => none

/-- The field byte that names a command. -/
def Command.byte : Command → Byte
  | .startCheck => 0x01#8
  | .abortCheck => 0x02#8
  | .clearSafeStart => 0x03#8
  | .save => 0x04#8
  | .reload => 0x05#8
  | .restart => 0x06#8

/-! ### Numbers of the cab status frame (section 12.1) -/

/-- A supervisor state's number. -/
def SupState.number : SupState → Nat
  | .unavailable => 0
  | .standby => 1
  | .checking => 2
  | .holding => 3
  | .releasing => 4
  | .securing => 5
  | .secured => 6

/-- A reason code's number. -/
def Reason.number : Reason → Nat
  | .none => 0
  | .config => 1
  | .store => 2
  | .noChannel => 3
  | .safeStart => 4
  | .holdLimit => 5
  | .driverAbsent => 6
  | .pendant => 7
  | .reservoir => 8
  | .insufficient => 9
  | .wheelLost => 10
  | .rollaway => 11
  | .keyOff => 12
  | .portBOff => 13
  | .confirm => 14
  | .resetInHold => 15
  | .parkedByDriver => 16

/-- R164, section 12.1: a cab status frame. Target in kPa, a multiple of 4. -/
def cabFrame (id : CanId) (state : SupState) (reason : Reason) (target step : Nat)
    (insufficient safeStart reinforced shedding : Bool) : Frame :=
  ⟨id, false, 8,
    [byteOf state.number, byteOf reason.number, byteOf (target / 4), byteOf step,
     byteOf (insufficient.toNat + 2 * safeStart.toNat + 4 * reinforced.toNat + 8 * shedding.toNat), 0#8, 0#8, 0#8]⟩

end Sys2Proof.Machine
end

