-- ==== Sys2Proof/Machine/Flags.lean ====
section
/-! DEFINITION. The conditions the rules name, worked from the state: effective values, the filtered grade, lifted and
usable channels, the rest condition, the unavailable conditions, the tests of table validity. -/

namespace Sys2Proof.Machine

/-! ### Effective values (R32) -/

/-- The signal numbers. -/
def signalNumbers : List (Fin 20) :=
  [0, 1, 2, 3, 4, 5, 6, 7, 8, 9, 10, 11, 12, 13, 14, 15, 16, 17, 18, 19]

/-- R24: the signal a role is bound to in the last valid table. -/
def State.signalOf (s : State) (r : Role) : Option (Fin 20) :=
  if r = .none then none else signalNumbers.find? fun k => decide (s.signals.bindings.get k = r)

/-- The sample record of a bound role. -/
def State.roleRecord (s : State) (r : Role) : Option SampleRecord :=
  (s.signalOf r).map fun k => s.signals.records.get k

/-- What a consumer sees of a role (R32). -/
inductive Effective where
  | unbound
  | lost
  | value (v : Int) (fresh : Bool)
  deriving DecidableEq, Repr

/-- R32: what a record shows its consumers. -/
def SampleRecord.effective (r : SampleRecord) : Effective :=
  match r.age with
  | .fresh => .value r.value true
  | .held => .value r.value false
  | .lost => .lost

/-- R32: what a role shows its consumers. -/
def State.effective (s : State) (r : Role) : Effective :=
  match s.roleRecord r with
  | none => .unbound
  | some rec => rec.effective

/-- The effective value is 1, with the role's unbound default and LOST substitute as flags. -/
def Effective.flag (e : Effective) (unbound lost : Bool) : Bool :=
  match e with
  | .unbound => unbound
  | .lost => lost
  | .value v _ => v == 1

/-- The record is FRESH. -/
def Effective.isFresh : Effective → Bool
  | .value _ fresh => fresh
  | .unbound | .lost => false

/-- R32, DRIVER_PRESENT: unbound reads present, LOST absent. -/
def State.driverPresent (s : State) : Bool := (s.effective .driverPresent).flag true false

/-- R32, PENDANT_ACTIVE. -/
def State.pendantActive (s : State) : Bool := (s.effective .pendantActive).flag false false

/-- R32, HOLD_INHIBIT: LOST reads inhibited. -/
def State.holdInhibited (s : State) : Bool := (s.effective .holdInhibit).flag false true

/-- R32, LIFT_AXLE: LOST reads raised. -/
def State.liftRaised (s : State) : Bool := (s.effective .liftAxle).flag false true

/-- R32, PARK_RELEASE_REQ. -/
def State.releaseRequested (s : State) : Bool := (s.effective .parkReleaseReq).flag false false

/-- R32, PARK_STATUS: LOST reads not applied. -/
def State.parkApplied (s : State) : Bool := (s.effective .parkStatus).flag false false

/-- PARK_STATUS is FRESH and shows applied (R99, R160). -/
def State.parkAppliedFresh (s : State) : Bool := s.parkApplied && (s.effective .parkStatus).isFresh

/-- RESERVOIR is LOST; an unbound one has no record and counts as LOST too (a required role, R24). -/
def State.reservoirLost (s : State) : Bool :=
  match s.effective .reservoir with
  | .value _ _ => false
  | .unbound | .lost => true

/-- R70: the reservoir value held in the record whatever its age. -/
def State.reservoirValue (s : State) : Nat :=
  match s.roleRecord .reservoir with
  | some r => r.value.toNat
  | none => 0

/-! ### The filtered grade (R34) -/

/-- A sample put in its place in an ascending list. -/
def insertSorted (x : Int) : List Int → List Int
  | [] => [x]
  | y :: ys => if x ≤ y then x :: y :: ys else y :: insertSorted x ys

/-- The samples in ascending order. -/
def sortInts : List Int → List Int
  | [] => []
  | x :: xs => insertSorted x (sortInts xs)

/-- The size of the grade window. -/
def windowSize : Nat := 5

/-- R34: the sample at position n / 2 of the sorted window; none while the window is empty. -/
def filteredGrade (window : List Int) : Option Int := (sortInts window)[window.length / 2]?

/-- g_f. -/
def State.gf (s : State) : Option Int := filteredGrade s.signals.window

/-- R74: the uphill direction the sign of g_f gives. -/
def headingOf (g : Option Int) : Option Heading :=
  match g with
  | none => none
  | some x => if 0 < x then some .forward else if x < 0 then some .backward else none

/-- g_f is there and its magnitude is at least the entry grade (R84, R97). -/
def State.steep (s : State) : Bool :=
  match s.gf with
  | none => false
  | some g => decide (s.work.settings.entryGrade ≤ g.natAbs)

/-! ### Channels (R53 to R55) -/

/-- R53: the channel's axle may be lifted. -/
def State.liftable (s : State) (c : Chan) : Bool :=
  (s.work.channels.get c).liftable ||
    (match (s.channels.records.get c).advert with
     | some a => a.liftable
     | none => false)

/-- R53: the channel is lifted. -/
def State.lifted (s : State) (c : Chan) : Bool := s.liftable c && s.liftRaised

/-- The status is FRESH or HELD. -/
def Age.present : Age → Bool
  | .fresh | .held => true
  | .lost => false

/-- R54: the channel is usable. -/
def State.channelUsable (s : State) (c : Chan) : Bool :=
  let r := s.channels.records.get c
  decide (s.channels.state = .inForce) && decide (r.handshake = .accepted) && r.age.present && !s.lifted c &&
    (match r.check with
     | .passed => true
     | .unchecked => !s.work.settings.checkRequired
     | .failed => false)

/-- R54, R55: usable set, B and lowest advertised maximum, worked afresh. -/
def State.deriveChannels (s : State) : Derived :=
  let usable := PerChan.build s.channelUsable
  let members := Chan.all.filter usable.get
  { usable := usable
    b := (members.map fun c => (s.work.channels.get c).brakeFactor).sum
    lowestMax := (members.filterMap fun c => (s.channels.records.get c).advert.map fun a => 4 * a.max.toNat).min? }

/-- The usable channels as last worked out. -/
def State.usableList (s : State) : List Chan := Chan.all.filter s.channels.derived.usable.get

/-- R144: the path check may test the channel. -/
def State.candidate (s : State) (c : Chan) : Bool :=
  let r := s.channels.records.get c
  decide (r.handshake = .accepted) && r.age.present && !s.lifted c

/-- R99: the channel waits for a check. -/
def State.waitsForCheck (s : State) (c : Chan) : Bool :=
  s.candidate c &&
    (match (s.channels.records.get c).check with
     | .failed => true
     | .unchecked => s.work.settings.checkRequired
     | .passed => false)

/-! ### Driver demand (R116) -/

/-- R116: the effective driver demand of a channel. -/
def State.driverDemand (s : State) (c : Chan) : Nat :=
  match s.merger.driver.age with
  | .fresh | .held => s.merger.driver.demands.get c
  | .lost => 0

/-- The highest effective driver demand is at least the entry demand (R84, R97). -/
def State.driverBraking (s : State) : Bool := Chan.all.any fun c => s.work.settings.entryDemand ≤ s.driverDemand c

/-- Every effective driver demand is 0 (R99). -/
def State.driverIdle (s : State) : Bool := Chan.all.all fun c => s.driverDemand c == 0

/-! ### Creep monitor (R104, R107) -/

/-- R104: the wheel's role is bound and its record is not LOST. -/
def State.wheelWatched (s : State) (w : Wheel) : Bool :=
  match s.effective (.wheel w) with
  | .value _ _ => true
  | .unbound | .lost => false

/-- The number of watched wheels among the tracking records. -/
def countWatched (t : PerWheel Track) : Nat := (Wheel.all.filter fun w => (t.get w).watched).length

/-- R107: at least two wheels are watched and every watched one is still. -/
def restCondition (t : PerWheel Track) : Bool :=
  decide (2 ≤ countWatched t) && Wheel.all.all fun w => !(t.get w).watched || (t.get w).still

/-! ### Unavailable conditions (R82) -/

/-- R82: a table is SUSPENDED. -/
def State.configBad (s : State) : Bool :=
  decide (s.route.state = .suspended) || decide (s.signals.state = .suspended) ||
    decide (s.channels.state = .suspended) || decide (s.calculator.state = .suspended)

/-- R82: the unavailable conditions that hold, in the order of the table. -/
def State.unavailableReasons (s : State) : List Reason :=
  (if !s.store.imageGood || decide (s.store.op = .loading) then [.store] else []) ++
  (if s.configBad then [.config] else []) ++
  (if s.store.marker then [.safeStart] else []) ++
  (if s.channels.derived.b = 0 then [.noChannel] else [])

/-- R99: the preconditions of CHECKING. -/
def State.checkPreconditions (s : State) : Bool :=
  (match s.sup.state with
   | .standby => true
   | .unavailable =>
     decide (s.unavailableReasons = [.noChannel]) && Chan.all.any s.waitsForCheck
   | .checking | .holding | .releasing | .securing | .secured => false) &&
  s.parkAppliedFresh && s.key && s.creep.restHolds && s.driverIdle

/-! ### Table checks (R13, R24, R41, R62) -/

/-- R13: at most one valid MERGE entry, on Port V with a full mask; valid MANAGE entries on Port V. -/
def routesValid (t : Vector RouteEntry 96) : Bool :=
  let es := t.toList.filter (·.valid)
  let merges := es.filter fun e => decide (e.action = .merge)
  decide (merges.length ≤ 1) &&
    (merges.all fun e => decide (e.port = .v) && e.mask == fullMask e.ext) &&
    (es.all fun e => !decide (e.action = .manage) || decide (e.port = .v))

/-- R13: the identifier of the valid MERGE entry. -/
def routesMergeId (t : Vector RouteEntry 96) : Option CanId :=
  (t.toList.find? fun e => e.valid && decide (e.action = .merge)).map RouteEntry.canId

/-- R14: the table holds a valid MANAGE entry. -/
def routesManage (t : Vector RouteEntry 96) : Bool := t.toList.any fun e => e.valid && decide (e.action = .manage)

/-- R24: the field lies within bytes 0 to 7. -/
def SigEntry.fits (e : SigEntry) : Bool :=
  if e.big then decide ((e.bitOff + e.length - 1) / 8 ≤ e.bytePos)
  else decide (8 * e.bytePos + e.bitOff + e.length - 1 ≤ 63)

/-- The roles a list gives more than once, NONE aside. -/
def rolesDistinct : List Role → Bool
  | [] => true
  | r :: rs => (decide (r = .none) || !rs.contains r) && rolesDistinct rs

/-- R24: the signal table is valid. -/
def signalsValid (t : Vector SigEntry 20) : Bool :=
  let roles := t.toList.map (·.role)
  rolesDistinct roles &&
    roles.contains .grade && roles.contains .payload && roles.contains .reservoir && roles.contains .parkStatus &&
    decide (2 ≤ (roles.filter Role.isWheel).length) &&
    (t.toList.all fun e => decide (e.role = .none) || e.fits)

/-- No identifier stands twice in a list. -/
def idsDistinct : List CanId → Bool
  | [] => true
  | i :: is => !is.contains i && idsDistinct is

/-- R41: the channel table is valid. -/
def channelsValid (t : PerChan ChanEntry) : Bool :=
  let es := (Chan.all.map t.get).filter (·.expected)
  idsDistinct (es.map (·.frameId)) && idsDistinct (es.map (·.acceptId))

/-- A list of breakpoints rises strictly in its abscissa. -/
def risesStrictly : List Breakpoint → Bool
  | a :: b :: rest => decide (a.x < b.x) && risesStrictly (b :: rest)
  | _ => true

/-- A list of breakpoints does not fall in its ordinate. -/
def doesNotFall : List Breakpoint → Bool
  | a :: b :: rest => decide (a.y ≤ b.y) && doesNotFall (b :: rest)
  | _ => true

/-- R62: the curves are valid. -/
def curvesValid (grade : Vector Breakpoint 8) (drum : Vector Breakpoint 5) : Bool :=
  risesStrictly grade.toList && decide ((grade.get 0).x = 0) && doesNotFall grade.toList &&
    risesStrictly drum.toList && decide ((drum.get 0).x = 0)

end Sys2Proof.Machine
end

