-- ==== Sys2Proof/Machine/Calculator.lean ====
section
/-! DEFINITION. The hold calculator: the stages of the hold result record and the drive-away test (chapter 4). -/

namespace Sys2Proof.Machine

/-- R63, R66: a curve read at a point: interpolated between the two breakpoints around it, rounded up; held at the last
ordinate at or beyond the last breakpoint. -/
def curveAt : List Breakpoint → Nat → Nat
  | [], _ => 0
  | [p], _ => p.y
  | p :: q :: rest, x =>
    if x < q.x then
      ((p.y : Int) + ceilDivInt (((q.y : Int) - p.y) * ((x : Int) - p.x)) (q.x - p.x)).toNat
    else curveAt (q :: rest) x

/-- R63, stages 1 and 2: S from the grade curve at the magnitude of g_f, held to 450. -/
def slopeForce (curve : Vector Breakpoint 8) (g : Int) : Nat := curveAt curve.toList (min g.natAbs 450)

/-- The cap of the drum allowance (R66). -/
def drumCap : Nat := 400

/-- R66, stage 5: the drum allowance. -/
def drumAllowance (curve : Vector Breakpoint 5) (speed : Effective) (window : Bool) (extra : Nat) : Nat :=
  let reversal := if window then extra else 0
  match speed with
  | .lost => drumCap
  | .unbound => min (curveAt curve.toList 0 + reversal) drumCap
  | .value v _ => min (curveAt curve.toList v.natAbs + reversal) drumCap

/-- R68: the escalation step; 0 without a hold context. -/
def State.escalation (s : State) : Nat :=
  match s.sup.ctx with
  | some c => c.step
  | none => 0

/-- R68: the highest value of F_hold. -/
def forceCap : Nat := 65535

/-- R70, stage 9: the pressure limit, the least of its three bounds. -/
def pressureLimit (set : Settings) (lowestMax : Option Nat) (reservoir : Nat) : Nat :=
  let own := min set.maxServicePressure (reservoir - set.reservoirReserve)
  match lowestMax with
  | some m => min own m
  | none => own

/-- R71, stage 10: P_hold and the insufficient flag. -/
def holdPressure (set : Settings) (saturated : Bool) (pRaw pLimit : Nat) : Nat × Bool :=
  let p1 := max pRaw set.holdFloor
  if saturated then (pLimit, true)
  else if p1 ≤ pLimit then (p1, false)
  else (pLimit, true)

/-- Stages 1 to 7 (R63 to R68): the record's fields up to F_hold, and whether F_hold was cut short. -/
def loadStages (set : Settings) (slopeS payload allowance step b : Nat) : HoldResult × Bool :=
  let mass := grossMass set payload
  let slopeLoad := ceilDiv (slopeS * mass) 1000
  let drumLoad := ceilDiv (slopeS * payload * allowance) 1000000
  let load := slopeLoad + drumLoad
  let margin := set.baseMargin + step * set.stepMargin
  let full := load + ceilDiv (load * margin) 1000
  (⟨slopeS, payload, mass, slopeLoad, allowance, drumLoad, load, margin, min full forceCap, b, 0, 0, 0, false, false⟩,
    decide (forceCap < full))

/-- R61: the record worked afresh from the inputs as they stand. -/
def State.evaluation (s : State) : HoldResult :=
  let set := s.work.settings
  let b := s.channels.derived.b
  let pu := s.calculator.payloadUsed
  match s.calculator.state, s.gf with
  | .inForce, some g =>
    let allowance :=
      drumAllowance s.work.drumCurve (s.effective .drumSpeed) s.signals.reversal.isSome set.reversalAllowance
    let (r, saturated) := loadStages set (slopeForce s.work.gradeCurve g) pu allowance s.escalation b
    if b = 0 then r
    else
      let pRaw := ceilDiv (r.force * 10) b
      let pLimit := pressureLimit set s.channels.derived.lowestMax s.reservoirValue
      let (pHold, insufficient) := holdPressure set saturated pRaw pLimit
      { r with pRaw := pRaw, pLimit := pLimit, pHold := pHold, insufficient := insufficient, valid := true }
  | _, _ => HoldResult.unworked set pu b

/-- R59: the record is replaced as a whole. The notices of R59 are the caller's. -/
def State.evaluateCore (s : State) : State :=
  { s with calculator := { s.calculator with record := s.evaluation } }

/-- R72, stage 11: the target, which every block works from P_hold. -/
def HoldResult.target (r : HoldResult) : Nat := roundUp4 r.pHold

/-- R64: the payload limiter takes a sample. -/
def limitPayload (set : Settings) (payloadUsed sample : Nat) : Nat :=
  if payloadUsed ≤ sample then min sample set.maxPayload
  else max (payloadUsed - set.payloadFallStep) sample

/-- R73: the drive force. -/
def driveForce (set : Settings) (torque : Nat) (ratio : Int) : Nat :=
  torque * ratio.natAbs * set.drivelineFactor / 1000000

/-- R74: what an uphill gear must reach. -/
def uphillRequirement (set : Settings) (load : Nat) : Nat := ceilDiv (load * (1000 + set.releaseMargin)) 1000

/-- R74: the gear drives in the uphill direction. -/
def gearUphill (uphill : Heading) (ratio : Int) : Bool :=
  match uphill with
  | .forward => decide (0 < ratio)
  | .backward => decide (ratio < 0)

/-- R73, R74: the outcome of the drive-away test and the drive force it found. A test without torque or ratio works no
drive force and keeps 0; any other keeps the force it worked, in neutral, in a gear that drives downhill and without an
uphill direction too. DESIGN CHOICE, notes/assumptions/16.md. -/
def State.driveTest (s : State) (uphill : Option Heading) : DriveOutcome × Nat :=
  match s.effective .engineTorque, s.effective .gearRatio with
  | .value t _, .value ratio _ =>
    let force := driveForce s.work.settings t.toNat ratio
    match uphill with
    | none => (.fail, force)
    | some u =>
      if ratio = 0 then (.fail, force)
      else if gearUphill u ratio then
        if s.gf.isSome && decide (uphillRequirement s.work.settings s.calculator.record.load ≤ force)
        then (.passUphill, force) else (.fail, force)
      else if (s.work.settings.downhillTorque : Int) ≤ t then (.passDownhill, force)
      else (.fail, force)
  | _, _ => (.fail, 0)

/-- R75: the test is worked; the calculator keeps its outcome and drive force. -/
def State.workDriveTest (s : State) (uphill : Option Heading) : State :=
  let (o, f) := s.driveTest uphill
  { s with calculator := { s.calculator with lastOutcome := o, lastForce := f } }

end Sys2Proof.Machine
end

