-- ==== Sys2Proof/Machine/Merger.lean ====
section
/-! DEFINITION. The demand merger by itself: hold component, making and placing a demand frame, what a slot does with
the end of an attempt (chapter 7). Build confirmation, which reports to the supervisor, stands in Supervisor.lean. -/

namespace Sys2Proof.Machine

/-! ### Hold component (R118) -/

/-- R89: the ramp value at a time. -/
def Release.value (r : Release) (now : Nat) : Nat :=
  ceilDiv (r.pStart * (r.ramp.dur - min (now - r.ramp.start) r.ramp.dur)) r.ramp.dur

/-- The hold context holds the reinforcement flag. -/
def State.reinforced (s : State) : Bool :=
  match s.sup.ctx with
  | some c => c.reinforced
  | none => false

/-- R79, R118: the pressure the hold mode gives a usable channel, outside CHECK. -/
def State.holdPressure (s : State) : Nat :=
  let r := s.calculator.record
  match s.merger.mode with
  | .none | .check => 0
  | .hold => if r.valid then r.target else 0
  | .secure => if r.valid then (if s.reinforced then r.pLimit else r.target) else 0
  | .ramp =>
    match s.sup.ctx.bind (·.release) with
    | some rel => rel.value s.now
    | none => 0

/-- R145: the pressure of a level: its setting rounded up to 4 kPa. -/
def Settings.level (set : Settings) : Level → Nat
  | .low => roundUp4 set.lowLevel
  | .medium => roundUp4 set.mediumLevel
  | .high => roundUp4 set.highLevel

/-- R118: the check level on the channel under test, 0 on the others. -/
def State.checkComponent (s : State) (c : Chan) : Nat :=
  match s.path.chan, s.path.level with
  | some t, some l => if t = c then s.work.settings.level l else 0
  | _, _ => 0

/-- R118: the hold component of a channel. -/
def State.component (s : State) (c : Chan) : Nat :=
  match s.merger.mode with
  | .none => 0
  | .check => s.checkComponent c
  | .hold | .secure | .ramp => if s.channels.derived.usable.get c then s.holdPressure else 0

/-- R119: the demand of a channel in a frame made now: the greater of driver and hold, rounded up to 4 kPa. -/
def State.demand (s : State) (c : Chan) : Nat := roundUp4 (max (s.driverDemand c) (s.component c))

/-! ### Demand slots (R122 to R124) -/

/-- A demand slot. -/
def Merger.slot (m : Merger) : SlotName → Slot
  | .a => m.slotA
  | .b => m.slotB

/-- The merger with one slot replaced. -/
def Merger.setSlot (m : Merger) (n : SlotName) (x : Slot) : Merger :=
  match n with
  | .a => { m with slotA := x }
  | .b => { m with slotB := x }

/-- R122 step 1: the free slot a frame is loaded into. -/
def Merger.freeSlot (m : Merger) : Option SlotName :=
  match m.slotA.state, m.slotB.state with
  | .empty, _ => some .a
  | _, .empty => some .b
  | .done, .done => if m.slotB.order = some .older then some .b else some .a
  | .done, _ => some .a
  | _, .done => some .b
  | _, _ => none

/-- R122 step 2: the LOADED slot whose frame is replaced: the NEWER of two, or the one LOADED slot. -/
def Merger.replaceSlot (m : Merger) : Option SlotName :=
  match m.slotA.state, m.slotB.state with
  | .loaded, .loaded => if m.slotA.order = some .newer then some .a else some .b
  | .loaded, _ => some .a
  | _, .loaded => some .b
  | _, _ => none

/-- R122 step 1: a frame is loaded into a slot; the other slot, if it holds a frame, becomes OLDER. -/
def Merger.load (m : Merger) (n : SlotName) (f : Frame) (discard : Timer) : Merger :=
  let o := m.slot n.other
  let m1 := m.setSlot n ⟨.loaded, none, some f, some .newer, discard⟩
  if o.frame.isSome then m1.setSlot n.other { o with order := some .older } else m1

/-- R122: a frame made is placed in a slot. -/
def Merger.place (m : Merger) (f : Frame) (discard : Timer) : Merger :=
  match m.freeSlot with
  | some n => m.load n f discard
  | none =>
    match m.replaceSlot with
    | some n => m.setSlot n { m.slot n with frame := some f, discard := discard }
    | none => m

/-- R19: the LOADED slot the Port B arbiter gives: the OLDER of two. -/
def Merger.readySlot (m : Merger) : Option SlotName :=
  match m.slotA.state, m.slotB.state with
  | .loaded, .loaded => if m.slotB.order = some .older then some .b else some .a
  | .loaded, _ => some .a
  | _, .loaded => some .b
  | _, _ => none

/-- R123: the slot's attempt has ended. -/
def Merger.finishSlot (m : Merger) (n : SlotName) (o : SlotOutcome) : Merger :=
  m.setSlot n { m.slot n with state := .done, outcome := some o }

/-! ### Making a frame (R117, R120, R121, R173) -/

/-- R120: the refresh timer restarts, in the states in which it runs. -/
def State.restartRefresh (s : State) : State :=
  if s.sup.state.isHold then
    { s with merger := { s.merger with refresh := s.timer s.work.settings.refreshInterval } }
  else s

/-- R121: the identifier of an emitted frame. -/
def State.demandId (s : State) : Option CanId :=
  match s.merger.driver.last with
  | some f => some f.id
  | none => s.route.mergeId

/-- The frame the merger makes now, on an identifier (R119, R121, R173). -/
def State.demandFrame (s : State) (id : CanId) : Frame :=
  Machine.demandFrame id (PerChan.build s.demand) s.merger.mode s.merger.rolling
    (match s.merger.driver.last with
     | some f => f.bytes
     | none => [])

/-- R117, R121: a demand frame is made and placed, and the refresh timer restarts. With no identifier no frame is made
and the rolling count stays. -/
def State.makeDemand (s : State) : State :=
  match s.demandId with
  | none => s.restartRefresh
  | some id =>
    let m := s.merger.place (s.demandFrame id) (s.timer s.work.settings.slotDiscardTime)
    { s with merger := { m with rolling := s.merger.rolling + 1#4, lastComponent := PerChan.build s.component } }
      |>.restartRefresh

/-- R117: a frame for the hold component, in the states that make one for it. -/
def State.makeForComponent (s : State) : State :=
  match s.sup.state with
  | .unavailable | .standby => s
  | .checking | .holding | .releasing | .securing | .secured => s.makeDemand

/-- R118: a notice that can change the hold component: a component that differs from the one in the last frame made
makes a frame. -/
def State.noticeComponent (s : State) : State :=
  if PerChan.build s.component = s.merger.lastComponent then s else s.makeForComponent

/-- R120: the refresh timer at an entry to a supervisor state. It starts anew from each entry to a hold state, from
another hold state too. DESIGN CHOICE, notes/assumptions/37.md. -/
def State.enterRefresh (s : State) : State :=
  if s.sup.state.isHold then s.restartRefresh
  else { s with merger := { s.merger with refresh := none } }

end Sys2Proof.Machine
end

