-- ==== Sys2Proof/Machine/Supervisor.lean ====
section
/-! DEFINITION. The hold supervisor's moves with what each move makes other blocks do in the same step: cab status
frame, park control, hold mode, build confirmation (chapters 5, 7, 8 and section 10.6). The order in which one move's
notices are taken is the model's, notes/assumptions/7.md. -/

namespace Sys2Proof.Machine

/-! ### The cab status frame (R163, R164) -/

/-- R164: the cab status frame from the records as they stand. -/
def State.cabStatus (s : State) : Frame :=
  cabFrame s.work.settings.cabStatusId s.sup.state s.sup.reason s.calculator.record.target s.escalation
    s.calculator.record.insufficient s.store.marker s.reinforced s.shedding

/-- The period of the cab status frame, in ms (R163). -/
def cabPeriod : Nat := 100

/-- R163, R164: a cab status frame is made and placed by the slot's state; the period timer restarts. -/
def State.makeCab (s : State) : State :=
  let r := { s.resp with period := s.timer cabPeriod }
  match s.resp.cab with
  | .sending _ => { s with resp := { r with renew := true } }
  | .empty | .waiting _ => { s with resp := { r with cab := .waiting s.cabStatus } }

/-! ### Park control's commands (R133, R137) -/

/-- R133: the assert command. -/
def State.assertPark (s : State) : State :=
  { s with park := { s.park with prq := true, conf := .waiting, timer := s.timer s.work.settings.parkConfirmTime } }

/-- R137: the deassert command. -/
def State.deassertPark (s : State) : State :=
  { s with park := { s.park with prq := false, conf := .idle, timer := none } }

/-! ### State, reason, context -/

/-- R78: the supervisor sets state and reason together and notifies: the hold-in-force marker follows (R132), the
refresh timer starts or stops (R120), the sleep delay timer is tended (R171), a cab status frame is made (R163). -/
def State.move (s : State) (state : SupState) (reason : Reason) : State :=
  { s with sup := { s.sup with state := state, reason := reason },
           park := { s.park with holdInForce := state.isHold } }
    |>.enterRefresh |>.tendSleep |>.makeCab

/-- R78: a change of reason within one state. -/
def State.changeReason (s : State) (reason : Reason) : State :=
  if s.sup.reason = reason then s
  else { s with sup := { s.sup with reason := reason } } |>.makeCab

/-- The hold context changed, where there is one. -/
def State.mapContext (s : State) (f : Context → Context) : State :=
  { s with sup := { s.sup with ctx := s.sup.ctx.map f } }

/-- R109: a wheel entry at the making of a context; none for a wheel that is not bound. -/
def State.freshEntry (s : State) (w : Wheel) : Option WheelEntry :=
  if (s.signalOf (.wheel w)).isSome then
    let t := s.creep.wheels.get w
    some ⟨if t.watched then t.last else none, 0, 0⟩
  else none

/-- R80: a new hold context. -/
def State.newContext (s : State) (uphill : Option Heading) (holdLimit : Timer) (entryP : Nat) : Context :=
  { uphill := uphill, step := 0, holdLimit := holdLimit, wheels := PerWheel.build s.freshEntry, entryP := entryP
    release := none, reinforced := false }

/-- The hold limit in ms. -/
def State.holdLimitTimer (s : State) : Timer := s.timer (1000 * s.work.settings.holdLimit)

/-! ### Hold mode and build confirmation (R79, R126 to R128) -/

/-- R126: the confirm level in force; none under a mode other than HOLD and SECURE. -/
def State.levelInForce (s : State) : Option Nat :=
  match s.merger.mode with
  | .hold | .secure => some (roundUp4 s.holdPressure)
  | .none | .check | .ramp => none

/-- R126: the hold mode is taken; under NONE, RAMP or CHECK a running confirmation stops. -/
def State.setMode (s : State) (mode : HoldMode) : State :=
  match mode with
  | .hold | .secure => { s with merger := { s.merger with mode := mode } }
  | .none | .check | .ramp => { s with merger := { s.merger with mode := mode, conf := .idle, stage := none } }

/-- R127: a usable channel has reached the level less the tolerance. -/
def State.channelBuilt (s : State) (level : Nat) (c : Chan) : Bool :=
  decide (level - s.work.settings.buildTolerance ≤ (s.channels.records.get c).pressure)

/-- R127: the build is confirmed at a level. -/
def State.built (s : State) (level : Nat) : Bool :=
  !s.usableList.isEmpty && s.usableList.all (s.channelBuilt level)

/-- Entry to UNAVAILABLE: the context is discarded (R81), the hold mode is NONE, and the calculator works afresh where a
context was discarded. -/
def State.enterUnavailable (s : State) (reason : Reason) : State :=
  let had := s.sup.ctx.isSome
  let s1 := { s with sup := { s.sup with ctx := none, handover := false } }.move .unavailable reason |>.setMode .none
  if had then s1.evaluateCore else s1

/-- R98: the merger reports the build confirmed. It moves the supervisor only while a handover is pending. -/
def State.buildConfirmed (s : State) : State :=
  if s.sup.state = .secured ∧ s.sup.handover = true then
    if s.store.marker then s.deassertPark.enterUnavailable .safeStart
    else
      let s1 := s.deassertPark
      ({ s1 with sup := { s1.sup with handover := false } }.mapContext
          fun c => { c with holdLimit := s1.holdLimitTimer, reinforced := false }).move .holding .none
  else s

/-- R127: a running confirmation is judged. -/
def State.judge (s : State) : State :=
  match s.merger.conf, s.levelInForce with
  | .stage1, some level | .stage2, some level =>
    if s.built level then { s with merger := { s.merger with conf := .idle, stage := none } }.buildConfirmed else s
  | _, _ => s

/-- R126: confirmation is armed on a level and judged at once. -/
def State.arm (s : State) (level : Nat) : State :=
  { s with merger := { s.merger with conf := .stage1, stage := s.timer s.work.settings.buildStage1,
                                     confirmLevel := level } }.judge

/-- R126: a notice reaches build confirmation: it arms where the notice is one that arms or the level in force has risen
above the level last armed on; a lower level is kept for the next comparison. -/
def State.noticeConfirm (s : State) (arms : Bool) : State :=
  match s.levelInForce with
  | none => s
  | some level =>
    if arms || decide (s.merger.confirmLevel < level) then s.arm level
    else { s with merger := { s.merger with confirmLevel := level } }

/-- R79: the supervisor hands a hold mode; the merger makes a frame for a changed component, then looks at build
confirmation. -/
def State.handMode (s : State) (mode : HoldMode) (arms : Bool) : State :=
  (s.setMode mode).noticeComponent.noticeConfirm arms

/-- R59: the merger takes the notice that the record has been worked afresh. -/
def State.mergerRecord (s : State) : State := s.noticeComponent.noticeConfirm false

/-- R56: the merger takes the notice of a changed usable set, which arms (R126). -/
def State.mergerSet (s : State) : State := s.noticeComponent.noticeConfirm true

/-! ### Holding, securing (R85 to R98) -/

/-- R91: entry to SECURING. -/
def State.enterSecuring (s : State) (reason : Reason) : State :=
  let s1 := s.mapContext fun c => { c with release := none, reinforced := false, holdLimit := none }
  ({ s1 with sup := { s1.sup with handover := false } }.assertPark.count .secures).move .securing reason
    |>.handMode .secure false

/-- R98: a pending handover is dropped; the hold mode returns to NONE, or to SECURE under reinforcement. -/
def State.dropHandover (s : State) : State :=
  if s.sup.state = .secured ∧ s.sup.handover = true then
    { s with sup := { s.sup with handover := false } }.handMode (if s.reinforced then .secure else .none) false
  else s

/-- A SECURING notice of the HOLDING table (R88), taken in whatever state the supervisor is in: HOLDING and RELEASING
leave for SECURING (R88, R90), a pending handover is dropped (R98), other states do not heed it (R94, R95). -/
def State.securingNotice (s : State) (reason : Reason) : State :=
  match s.sup.state with
  | .holding | .releasing => s.enterSecuring reason
  | .secured => s.dropHandover
  | .unavailable | .standby | .checking | .securing => s

/-- R59: a supervisor outside UNAVAILABLE and STANDBY takes the notice that the record has been worked afresh. -/
def State.recordInHold (s : State) : State :=
  if s.calculator.record.insufficient then s.securingNotice .insufficient else s

/-- R60, R59: the calculator works afresh; the supervisor in a hold state and the merger take the notice. -/
def State.evaluateHold (s : State) : State := s.evaluateCore.recordInHold.mergerRecord

/-- R85: entry to HOLDING from STANDBY. -/
def State.enterHolding (s : State) : State :=
  let c := s.newContext (headingOf s.gf) s.holdLimitTimer s.calculator.record.pHold
  ({ s with sup := { s.sup with ctx := some c } }.evaluateCore.move .holding .none).handMode .hold true
    |>.recordInHold

/-- R89: entry to RELEASING. -/
def State.enterReleasing (s : State) (dir : ReleaseDir) : State :=
  (s.mapContext fun c =>
      { c with release := some ⟨s.calculator.record.target, ⟨s.now, s.work.settings.rampTime⟩, dir⟩ }).move
    .releasing .none |>.handMode .ramp false

/-- R90: back from RELEASING to HOLDING, the release part removed. -/
def State.returnToHolding (s : State) : State :=
  (s.mapContext fun c => { c with release := none }).move .holding .none |>.handMode .hold true

/-- The escalation step rises by one, not past 3 (R81), and the escalation is counted (R87). The calculator's evaluation
is the caller's. -/
def State.raiseStep (s : State) : State :=
  (s.mapContext fun c => { c with step := min (c.step + 1) 3 }).count .escalations

/-- R75, R88 to R90: a drive-away outcome handed on. -/
def State.driveOutcome (s : State) (o : DriveOutcome) : State :=
  match s.sup.state, o with
  | .holding, .passUphill => s.enterReleasing .uphill
  | .holding, .passDownhill => s.enterReleasing .downhill
  | .releasing, .fail => s.returnToHolding
  | .releasing, .passUphill =>
    s.mapContext fun c => { c with release := c.release.map fun r => { r with dir := .uphill } }
  | .releasing, .passDownhill =>
    s.mapContext fun c => { c with release := c.release.map fun r => { r with dir := .downhill } }
  | _, _ => s

/-- The release direction is UPHILL. -/
def State.releasingUphill (s : State) : Bool :=
  match s.sup.ctx.bind (·.release) with
  | some r => decide (r.dir = .uphill)
  | none => false

/-- A creep report (R87, R90, R93, R95, R98; gathered in section 6.4). -/
def State.creepReport (s : State) : State :=
  match s.sup.state with
  | .holding =>
    if s.escalation < 3 then s.raiseStep.evaluateHold
    else (s.count .rollaways).enterSecuring .rollaway
  | .releasing =>
    if s.releasingUphill then
      if s.escalation < 3 then s.raiseStep.returnToHolding.evaluateHold
      else (s.count .rollaways).enterSecuring .rollaway
    else s
  | .securing =>
    if s.escalation < 3 then s.raiseStep.evaluateHold
    else (s.count .rollaways).changeReason .rollaway
  | .secured =>
    { s with sup := { s.sup with handover := false } }.mapContext (fun c => { c with reinforced := true })
      |>.handMode .secure false
  | .unavailable | .standby | .checking => s

/-- R92, R142: park control reports the spring brake confirmed. -/
def State.springConfirmed (s : State) : State :=
  if s.sup.state = .securing then (s.move .secured s.sup.reason).handMode .none false else s

/-- R88, R90: the hold-limit timer expires. -/
def State.holdLimitReached (s : State) : State :=
  s.mapContext (fun c => { c with holdLimit := none }) |>.securingNotice .holdLimit

/-! ### STANDBY (R52, R78, R81) -/

/-- R54, R55: usable set, B and lowest advertised maximum are worked out afresh; the notice is the caller's. -/
def State.rework (s : State) : State := { s with channels := { s.channels with derived := s.deriveChannels } }

/-- R52: what entry to STANDBY does to a channel. -/
def ChannelRecord.standby (r : ChannelRecord) : ChannelRecord :=
  match r.handshake with
  | .short => { r with handshake := .accepted }
  | .fault => if r.fault then r else { r with handshake := .accepted }
  | .absent | .listening | .accepted | .lost => r

/-- R52: SHORT and cleared FAULT channels return, in one change of the usable set. -/
def State.channelsStandby (s : State) : State :=
  { s with channels := { s.channels with records := PerChan.build fun c => (s.channels.records.get c).standby } }.rework

/-- Entry to STANDBY: the context is discarded (R81), the hold mode is NONE and the channels return (R52). The calculator
works afresh where a context was discarded or the usable set changed (R60). The tests of R85 and R99 that follow the
entry are the caller's. -/
def State.enterStandbyCore (s : State) (reason : Reason) : State :=
  let s1 := ({ s with sup := { s.sup with ctx := none, handover := false } }.move .standby reason
              |>.setMode .none).channelsStandby
  if s.sup.ctx.isSome || decide (s1.channels.derived ≠ s.channels.derived) then s1.evaluateCore else s1

/-- R84: the conditions for entry to HOLDING, with the outcome of the drive-away test just worked. -/
def State.entryMet (s : State) : Bool :=
  s.creep.restHolds &&
  (s.signals.window.length == windowSize) && (s.effective .grade).isFresh && s.steep &&
  (s.effective .reservoir).isFresh && s.calculator.record.valid && !s.calculator.record.insufficient &&
  s.driverBraking &&
  !s.holdInhibited && s.driverPresent && !s.pendantActive &&
  !s.parkApplied &&
  decide (s.calculator.lastOutcome = .fail) &&
  s.key && !decide (s.portB.mode = .offBus)

/-- R85: in STANDBY the supervisor tests the conditions of R84, the drive-away test worked at its asking (R75). -/
def State.testHold (s : State) : State :=
  if s.sup.state = .standby then
    let s1 := s.workDriveTest (headingOf s.gf)
    if s1.entryMet then s1.enterHolding else s1
  else s

/-- R100: the path check reports its end or abort; the supervisor leaves CHECKING. -/
def State.checkReport (s : State) : State :=
  if s.sup.state = .checking then
    match s.unavailableReasons with
    | [] => (s.enterStandbyCore .none).testHold
    | r :: _ => s.enterUnavailable r
  else s

end Sys2Proof.Machine
end

