-- ==== Sys2Proof/Machine/PathCheck.lean ====
section
/-! DEFINITION. The demand path check: choosing a channel, starting and judging a level, results, aborts (chapter 9). -/

namespace Sys2Proof.Machine

/-- R144: the channels above the channel under test, all of them when it is none. -/
def channelsAbove : Option Chan → List Chan
  | none => [.c1, .c2, .c3, .c4]
  | some .c1 => [.c2, .c3, .c4]
  | some .c2 => [.c3, .c4]
  | some .c3 => [.c4]
  | some .c4 => []

/-- R147: the level after a level. -/
def Level.next : Level → Option Level
  | .low => some .medium
  | .medium => some .high
  | .high => none

/-- R149: the levels not reached when a level fails. -/
def Level.above : Level → List Level
  | .low => [.medium, .high]
  | .medium => [.high]
  | .high => []

/-- R145: a level starts on a channel, and the merger is told. Each start makes a frame of its own, whether or not the
pressure differs from the one in the last frame made. -/
def State.startLevel (s : State) (c : Chan) (l : Level) : State :=
  { s with path := { s.path with chan := some c, level := some l, settle := 0,
                                 timer := s.timer s.work.settings.levelTimeout } }.makeForComponent

/-- The sequencer is IDLE again: nothing under test, the timer stopped. The settle count goes to 0 (DESIGN CHOICE,
notes/assumptions/19.md). -/
def State.stopRun (s : State) (r : LastRun) : State :=
  { s with path := { s.path with testing := false, chan := none, level := none, settle := 0, timer := none,
                                 lastRun := r } }

/-- R144: the next candidate above a channel becomes the channel under test; with none the run ends and the supervisor
is told. -/
def State.chooseChannel (s : State) (after : Option Chan) : State :=
  match (channelsAbove after).find? s.candidate with
  | some c => s.startLevel c .low
  | none => (s.stopRun .ended).checkReport

/-- R143: the path check begins. -/
def State.beginCheck (s : State) : State :=
  { s with path := { s.path with testing := true, chan := none, level := none, settle := 0 } }.chooseChannel none

/-- A check result record is written (R147 to R149). -/
def State.writeResult (s : State) (c : Chan) (l : Level) (o : ResultOutcome) (pressure : Nat) : State :=
  { s with path := { s.path with results := s.path.results.set c ((s.path.results.get c).set l ⟨o, pressure, true⟩) } }

/-- R57: the path check writes a channel's check state; usability is worked afresh and the calculator evaluates on a
changed set (R56). In CHECKING the merger's components and the supervisor do not move on it (R149). -/
def State.writeCheck (s : State) (c : Chan) (st : CheckState) : State :=
  let rs := s.channels.records.set c { s.channels.records.get c with check := st }
  let s1 := { s with channels := { s.channels with records := rs } }.rework
  if s1.channels.derived = s.channels.derived then s1 else s1.evaluateCore

/-- R149: a channel is finished as PASSED. -/
def State.finishPassed (s : State) (c : Chan) : State := (s.writeCheck c .passed).chooseChannel (some c)

/-- R149: a channel is finished as FAILED at a level: the levels not reached are NOT-RUN. -/
def State.finishFailed (s : State) (c : Chan) (l : Level) : State :=
  (l.above.foldl (fun t k => t.writeResult c k .notRun 0) (s.writeCheck c .failed)).chooseChannel (some c)

/-- The level timer stops. -/
def State.stopLevel (s : State) : State := { s with path := { s.path with timer := none } }

/-- R148: a level failure. -/
def State.failLevel (s : State) (c : Chan) (l : Level) : State :=
  (s.writeResult c l .fail (s.channels.records.get c).pressure).stopLevel.finishFailed c l

/-- R147: a level passes on a pressure. -/
def State.passLevel (s : State) (c : Chan) (l : Level) : State :=
  let s1 := (s.writeResult c l .pass (s.channels.records.get c).pressure).stopLevel
  match l.next with
  | some n => s1.startLevel c n
  | none => s1.finishPassed c

/-- R148: the channel under test is abandoned. -/
def State.abandon (s : State) (c : Chan) : State := s.stopLevel.chooseChannel (some c)

/-- What a look at the channel under test finds (R148). -/
inductive Look where
  | goesOn | fails | abandoned
  deriving DecidableEq, Repr

/-- R148: the look. SHORT does not arise in CHECKING and goes on; ABSENT counts with LISTENING; a FAULT or LOST channel
that is also lifted fails. DESIGN CHOICE, notes/assumptions/19.md. -/
def State.look (s : State) (c : Chan) : Look :=
  match (s.channels.records.get c).handshake with
  | .fault | .lost => .fails
  | .listening | .absent => .abandoned
  | .accepted | .short => if s.lifted c then .abandoned else .goesOn

/-- R146: the pressure lies within the check tolerance of the level. -/
def State.settled (s : State) (c : Chan) (l : Level) : Bool :=
  let p := (s.channels.records.get c).pressure
  let want := s.work.settings.level l
  decide (p ≤ want + s.work.settings.checkTolerance) && decide (want ≤ p + s.work.settings.checkTolerance)

/-- R146: a level that goes on is judged on a status notice. -/
def State.judgeLevel (s : State) (c : Chan) (l : Level) : State :=
  if s.settled c l then
    let n := s.path.settle + 1
    let s1 := { s with path := { s.path with settle := n } }
    if 3 ≤ n then s1.passLevel c l else s1
  else { s with path := { s.path with settle := 0 } }

/-- R146, R148: the path check takes a notice of an achieved pressure from a channel. -/
def State.pathStatus (s : State) (from_ : Chan) : State :=
  match s.path.testing, s.path.chan, s.path.level with
  | true, some c, some l =>
    if from_ = c then
      match s.look c with
      | .goesOn => s.judgeLevel c l
      | .fails => s.failLevel c l
      | .abandoned => s.abandon c
    else s
  | _, _, _ => s

/-- R148: the path check takes a notice of R56. -/
def State.pathSet (s : State) : State :=
  match s.path.testing, s.path.chan, s.path.level with
  | true, some c, some l =>
    match s.look c with
    | .goesOn => s
    | .fails => s.failLevel c l
    | .abandoned => s.abandon c
  | _, _, _ => s

/-- R148: the level timer has expired. -/
def State.pathTimeout (s : State) : State :=
  match s.path.testing, s.path.chan, s.path.level with
  | true, some c, some l =>
    match s.look c with
    | .goesOn | .fails => s.failLevel c l
    | .abandoned => s.abandon c
  | _, _, _ => s

/-- R150: an abort of a run. -/
def State.abortCheck (s : State) (c : AbortCause) : State :=
  if s.path.testing then (s.stopRun (.aborted c)).checkReport else s

/-- R150: the path check takes a change of the driver demand record. -/
def State.pathDemand (s : State) : State :=
  if Chan.all.any fun c => 0 < s.driverDemand c then s.abortCheck .driverDemand else s

/-- R99, R79: entry to CHECKING, whichever cause made it. The hold mode CHECK is handed before the path check begins, so
a last frame that carried a component is followed by one without (R118). -/
def State.enterChecking (s : State) : State :=
  (({ s with sup := { s.sup with autoPending := false } }.move .checking .none).handMode .check false).beginCheck

/-- R99: the auto-check setting's test. -/
def State.testCheck (s : State) : State :=
  if s.work.settings.autoCheck && s.sup.autoPending && s.checkPreconditions then s.enterChecking else s

/-- R85, R99: the tests that follow a notice in UNAVAILABLE or STANDBY. -/
def State.testEntry (s : State) : State :=
  match s.sup.state with
  | .standby => s.testHold.testCheck
  | .unavailable => s.testCheck
  | .checking | .holding | .releasing | .securing | .secured => s

/-- Entry to STANDBY, with the tests it brings (R85). -/
def State.enterStandby (s : State) (reason : Reason) : State := (s.enterStandbyCore reason).testEntry

/-- R82, R83: the supervisor takes the unavailable conditions afresh. The auto-check's test of R99 follows a change of
them: NO-CHANNEL, the last of the four, becomes the one that stands only where the reason changes to it. -/
def State.noticeConditions (s : State) : State :=
  match s.sup.state with
  | .unavailable =>
    match s.unavailableReasons with
    | [] => s.enterStandby .none
    | r :: _ => if s.sup.reason = r then s else (s.changeReason r).testCheck
  | .standby =>
    match s.unavailableReasons with
    | [] => s
    | r :: _ => (s.enterUnavailable r).testCheck
  | .checking | .holding | .releasing | .securing | .secured => s

/-- R83, R159: a table check that has left a table SUSPENDED reaches the supervisor before any other notice of the write
that brought it. -/
def State.noticeSuspended (s : State) : State := if s.configBad then s.noticeConditions else s

/-- R59: the supervisor and the merger take the notice that the record has been worked afresh. -/
def State.noticeRecord (s : State) : State := s.recordInHold.testEntry.mergerRecord

/-- R60, R59: the calculator works afresh and both blocks take the notice. -/
def State.evaluate (s : State) : State := s.evaluateCore.noticeRecord

/-- R56, R88, R98: the supervisor in a hold state takes the notice of B falling to 0. -/
def State.supSet (s : State) : State :=
  match s.sup.state with
  | .holding | .releasing | .secured => if s.channels.derived.b = 0 then s.securingNotice .noChannel else s
  | .unavailable | .standby | .checking | .securing => s

/-- R56: the merger, the calculator, the supervisor and the path check take the notice of a change, in the order of
section 7.5's worked example; in UNAVAILABLE and STANDBY the supervisor takes the unavailable conditions (R82, R83)
before it tests on the record (notes/assumptions/7.md). -/
def State.tellSet (s : State) : State := s.mergerSet.evaluateCore.noticeConditions.noticeRecord.supSet.pathSet

/-- R56: a change is told where the usable set, B or the lowest advertised maximum differs from what it was. -/
def State.noticeSet (s : State) (before : Derived) : State :=
  if s.channels.derived = before then s else s.tellSet

/-- Usability worked afresh (R54) and its notice (R56). -/
def State.reworkNotice (s : State) : State := s.rework.noticeSet s.channels.derived

/-! ### The command -/

/-- LEVEL_TIMER_EXPIRY (R148). -/
def execLevelTimerExpiry (s : State) : Host.Outcome State Fault Refusal :=
  .next (match s.expiring s.path.timer with
         | none => s
         | some r => { s.reach r with path := { s.path with timer := none } }.pathTimeout)

end Sys2Proof.Machine
end

