-- ==== Sys2Proof/Machine/Channel.lean ====
section
/-! DEFINITION. The channel block: frames from the modulators, the handshake, status ages (chapter 3). -/

namespace Sys2Proof.Machine

/-- The state with one channel record replaced. -/
def State.setChannel (s : State) (c : Chan) (r : ChannelRecord) : State :=
  { s with channels := { s.channels with records := s.channels.records.set c r } }

/-- R40, R58: what a restart of the handshake leaves of a record, by the expected setting. -/
def ChannelRecord.restart (r : ChannelRecord) (expected : Bool) : ChannelRecord :=
  { r with handshake := if expected then .listening else .absent, count := 0, pressure := 0, fault := false, age := .lost,
           stale := none, loss := none }

/-- R40: one channel's handshake restarts. -/
def State.restartChannel (s : State) (c : Chan) : State :=
  s.setChannel c ((s.channels.records.get c).restart (s.work.channels.get c).expected)

/-- R41, R58: every channel's handshake restarts. -/
def State.restartChannels (s : State) : State :=
  let rs := PerChan.build fun c => (s.channels.records.get c).restart (s.work.channels.get c).expected
  { s with channels := { s.channels with records := rs } }

/-- R41: the channel table is checked; every handshake restarts where a SUSPENDED table is found valid. -/
def State.checkChannels (s : State) : State :=
  if channelsValid s.work.channels then
    let s1 := { s with channels := { s.channels with state := .inForce } }
    if s.channels.state = .suspended then s1.restartChannels else s1
  else { s with channels := { s.channels with state := .suspended } }

/-! ### Adverts (R43 to R47) -/

/-- R43: an advert that differs from a present copy makes the check state UNCHECKED. -/
def ChannelRecord.adverted (r : ChannelRecord) (a : Advert) : ChannelRecord :=
  match r.advert with
  | none => r
  | some old => if old = a then r else { r with check := .unchecked }

/-- R44 to R46: what an advert makes of a record. -/
def ChannelRecord.takeAdvert (r : ChannelRecord) (a : Advert) : ChannelRecord :=
  let r1 := r.adverted a
  let same := decide (r.advert = some a)
  match r.handshake with
  | .absent => r
  | .listening =>
    if same then
      if 3 ≤ r.count + 1 then { r1 with count := 3, handshake := if r.fault then .fault else .accepted }
      else { r1 with count := r.count + 1 }
    else { r1 with advert := some a, count := 1 }
  | .accepted | .short | .fault =>
    if same then r1 else { r1 with advert := some a, count := 1, handshake := .listening }
  | .lost => { r1 with advert := some a, count := 1, handshake := .listening }

/-- R44, R45: the advert is answered with an accept frame: on the third identical one in LISTENING, and on an identical
one in ACCEPTED, SHORT and FAULT. -/
def ChannelRecord.answers (r : ChannelRecord) (a : Advert) : Bool :=
  decide (r.advert = some a) &&
    (match r.handshake with
     | .listening => decide (3 ≤ r.count + 1)
     | .accepted | .short | .fault => true
     | .absent | .lost => false)

/-- R44 to R47: a channel takes an advert. -/
def State.advertTaken (s : State) (c : Chan) (a : Advert) : State :=
  let r := s.channels.records.get c
  let s1 := if r.answers a then s.offerControl (acceptFrame (s.work.channels.get c).acceptId a) else s
  (s1.setChannel c (r.takeAdvert a)).reworkNotice

/-! ### Status frames (R48) -/

/-- R48: what a status frame makes of a record. -/
def ChannelRecord.takeStatus (r : ChannelRecord) (pressure : Nat) (fault : Bool) (stale loss : Timer) :
    ChannelRecord :=
  { r with pressure := pressure, fault := fault, age := .fresh, stale := stale, loss := loss,
           handshake := match r.handshake with
                        | .accepted => if fault then .fault else .accepted
                        | .short => if fault then .fault else .short
                        | h => h }

/-- R127: the merger takes the notice of an achieved pressure; it judges a channel of the usable set. -/
def State.mergerStatus (s : State) (c : Chan) : State :=
  if s.channels.derived.usable.get c then s.judge else s

/-- R48: a channel takes a status frame; the merger and the path check take the pressure, then the changed set is told
(R56). The order of these two notices is a DESIGN CHOICE, notes/assumptions/7.md. -/
def State.statusTaken (s : State) (c : Chan) (f : Frame) : State :=
  let r := (s.channels.records.get c).takeStatus (4 * (byteAt f.data 1).toNat) ((byteAt f.data 2).getLsbD 0)
    (s.timer s.work.settings.statusStale) (s.timer s.work.settings.statusLoss)
  let s1 := (s.setChannel c r).rework
  let s2 := (s1.mergerStatus c).pathStatus c
  if s1.channels.derived = s.channels.derived then s2 else s2.tellSet

/-! ### Sorting (R42) -/

/-- R42 step 1: the expected channel whose frame identifier is the frame's. -/
def State.identifierChannel (s : State) (id : CanId) : Option Chan :=
  Chan.all.find? fun c => (s.work.channels.get c).expected && decide ((s.work.channels.get c).frameId = id)

/-- The channel number matches. -/
def Chan.named (c : Chan) (n : BitVec 4) : Bool := n.toNat == c.number

/-- R42 steps 3 and 5: an advert. -/
def State.sortAdvert (s : State) (f : Frame) : State :=
  let a := frameAdvert f
  match s.identifierChannel f.id with
  | none => s.count .unknownAdverts
  | some c =>
    if Chan.named c a.channel && decide (1 ≤ a.max.toNat) && decide (a.max.toNat ≤ 250) then s.advertTaken c a
    else s.count .unknownAdverts

/-- R42 steps 4 and 5: a status frame. -/
def State.sortStatus (s : State) (f : Frame) : State :=
  match s.identifierChannel f.id with
  | none => s
  | some c => if Chan.named c (frameChannel f) then s.statusTaken c f else s

/-- R42: a data frame handed to the channel block. -/
def State.channelFrame (s : State) (f : Frame) : State :=
  match s.channels.state with
  | .suspended => s
  | .inForce =>
    if frameKind f = 1#4 then (if f.dlc.val < 4 then s else s.sortAdvert f)
    else if frameKind f = 2#4 then (if f.dlc.val < 3 then s else s.sortStatus f)
    else s

/-! ### Ages (R49) -/

/-- R49: the status stale timer's expiry at a record. -/
def ChannelRecord.goStale (r : ChannelRecord) : ChannelRecord :=
  { r with stale := none, age := match r.age with
                                 | .fresh => .held
                                 | a => a }

/-- R49: the status loss timer's expiry at a record. -/
def ChannelRecord.goLost (r : ChannelRecord) : ChannelRecord :=
  { r with stale := none, loss := none, age := .lost, lostSinceRead := true,
           handshake := match r.handshake with
                        | .absent => .absent
                        | _ => .lost }

/-- STATUS_STALE_EXPIRY (R49). -/
def execStatusStaleExpiry (c : Chan) (s : State) : Host.Outcome State Fault Refusal :=
  .next (match s.expiring (s.channels.records.get c).stale with
         | none => s
         | some r => ((s.reach r).setChannel c (s.channels.records.get c).goStale).reworkNotice)

/-- STATUS_LOSS_EXPIRY (R49, R50). -/
def execStatusLossExpiry (c : Chan) (s : State) : Host.Outcome State Fault Refusal :=
  .next (match s.expiring (s.channels.records.get c).loss with
         | none => s
         | some r => ((s.reach r).setChannel c (s.channels.records.get c).goLost).reworkNotice)

end Sys2Proof.Machine
end

