-- ==== Sys2Proof/Machine/Creep.lean ====
section
/-! DEFINITION. The creep monitor: watched wheels, increments, rest, accumulators and creep (chapter 6). -/

namespace Sys2Proof.Machine

/-- R108: the tracking of a wheel that is not watched. -/
def Track.cleared : Track := ⟨false, none, .stopped, false⟩

/-- R104, R108: a tracking record under a fresh judgement of whether the wheel is watched. -/
def Track.watch (t : Track) (watched : Bool) : Track :=
  if watched then { t with watched := true } else Track.cleared

/-- R107: the rest condition worked afresh; a rest report reaches the supervisor when it comes to hold. -/
def State.recheckRest (s : State) : State :=
  let holds := restCondition s.creep.wheels
  let s1 := { s with creep := { s.creep with restHolds := holds } }
  if holds && !s.creep.restHolds then s1.testEntry else s1

/-- R108: in a context, a wheel that is not watched has no reference. -/
def Context.unwatch (c : Context) (tracks : PerWheel Track) : Context :=
  let entries := PerWheel.build fun w =>
    (c.wheels.get w).map fun e => if (tracks.get w).watched then e else { e with reference := none }
  { c with wheels := entries }

/-- R104, R107, R108: which wheels are watched, and with them the rest condition, worked afresh. The notices are the
caller's. -/
def State.trackWheels (s : State) : State :=
  let tracks := PerWheel.build fun w => (s.creep.wheels.get w).watch (s.wheelWatched w)
  { s with creep := ⟨tracks, restCondition tracks, countWatched tracks⟩ }.mapContext (·.unwatch tracks)

/-- R104, R107: the supervisor takes a changed number of watched wheels, then the rest report where rest has come to
hold. -/
def State.tellWheels (s : State) (before : Creep) : State :=
  let n := s.creep.watchedCount
  let s1 := if n ≠ before.watchedCount ∧ n < 2 then s.securingNotice .wheelLost else s
  if s.creep.restHolds && !before.restHolds then s1.testEntry else s1

/-- R104: which wheels are watched, worked afresh, with its notices. -/
def State.watchWheels (s : State) : State := s.trackWheels.tellWheels s.creep

/-! ### Increments (R105) -/

/-- R105: the field length of a wheel's signal table entry. -/
def State.wheelLength (s : State) (w : Wheel) : Nat :=
  match s.signalOf (.wheel w) with
  | some k => (s.work.signals.get k).length
  | none => 16

/-- R105: the increment modulo the counter's range. -/
def increment (length last count : Nat) : Nat := (count + (2 ^ length - last % 2 ^ length)) % 2 ^ length

/-- The wheel entry of a context changed. -/
def Context.mapWheel (c : Context) (w : Wheel) (f : WheelEntry → WheelEntry) : Context :=
  { c with wheels := c.wheels.set w ((c.wheels.get w).map f) }

/-- The accumulators of a wheel entry. -/
inductive Accumulator where
  | down | up | none
  deriving DecidableEq, Repr

/-- R110: the accumulator a movement is added to. -/
def accumulatorFor (code : DirCode) (uphill : Option Heading) (state : SupState) : Accumulator :=
  match code, uphill with
  | .none, _ => if state = .releasing then .none else .down
  | .unknown, _ => .down
  | .forward, some .forward => .up
  | .backward, some .backward => .up
  | .forward, _ => .down
  | .backward, _ => .down

/-- The highest value of an accumulator (R110). -/
def accumulatorCap : Nat := 65535

/-- R111: every entry of the context is zeroed and takes its wheel's last count as reference. -/
def Context.rereference (c : Context) (tracks : PerWheel Track) : Context :=
  let entries := PerWheel.build fun w => (c.wheels.get w).map fun _ => ⟨(tracks.get w).last, 0, 0⟩
  { c with wheels := entries }

/-- R110, R111: a movement is added to its accumulator; creep is reported at the threshold. -/
def State.accumulate (s : State) (w : Wheel) (inc : Nat) (code : DirCode) : State :=
  match s.sup.ctx with
  | none => s
  | some c =>
    match c.wheels.get w, accumulatorFor code c.uphill s.sup.state with
    | some e, .up => s.mapContext (·.mapWheel w fun _ => { e with up := min (e.up + inc) accumulatorCap })
    | some e, .down =>
      let down := min (e.down + inc) accumulatorCap
      if s.work.settings.creepThreshold ≤ down then
        (s.mapContext (·.rereference s.creep.wheels)).creepReport
      else s.mapContext (·.mapWheel w fun _ => { e with down := down })
    | _, _ => s

/-- The state with one tracking record replaced. -/
def State.setTrack (s : State) (w : Wheel) (t : Track) : State :=
  { s with creep := { s.creep with wheels := s.creep.wheels.set w t } }

/-- R105, R106: a new last count, the rest timer started afresh and the still marker clear. -/
def Track.moved (t : Track) (count now restTime : Nat) : Track :=
  { t with last := some count, rest := .running ⟨now, restTime⟩, still := false }

/-- R105: a wheel's first sample. -/
def State.firstSample (s : State) (w : Wheel) (count : Nat) : State :=
  ((s.setTrack w ((s.creep.wheels.get w).moved count s.now s.work.settings.restTime)).mapContext
    (·.mapWheel w fun e => { e with reference := some (e.reference.getD count) })).recheckRest

/-- R105, R106, R107, R110: a movement. -/
def State.movement (s : State) (w : Wheel) (count inc : Nat) (code : DirCode) : State :=
  let s1 := s.setTrack w ((s.creep.wheels.get w).moved count s.now s.work.settings.restTime)
  (s1.recheckRest.testEntry.abortCheck .movement).accumulate w inc code

/-- R105: a glitch. -/
def State.glitch (s : State) (w : Wheel) (count : Nat) : State :=
  ((s.count .wheelGlitches).setTrack w { s.creep.wheels.get w with last := some count }).mapContext
    (·.mapWheel w fun e => { e with reference := some count })

/-- R105: a WHEEL sample. -/
def State.wheelSample (s : State) (w : Wheel) (count : Nat) (code : DirCode) : State :=
  match (s.creep.wheels.get w).last with
  | none => s.firstSample w count
  | some last =>
    let length := s.wheelLength w
    let inc := increment length last count
    if inc = 0 then s
    else if inc ≤ 2 ^ (length - 1) then s.movement w count inc code
    else s.glitch w count

/-- The rest timer as a timer. -/
def RestTimer.timer : RestTimer → Timer
  | .running r => some r
  | .stopped | .expired => none

/-- R106: the rest timer has expired. -/
def Track.rested (t : Track) : Track := { t with rest := .expired, still := true }

/-- REST_TIMER_EXPIRY (R106). -/
def execRestTimerExpiry (w : Wheel) (s : State) : Host.Outcome State Fault Refusal :=
  .next (match s.expiring (s.creep.wheels.get w).rest.timer with
         | none => s
         | some r => ((s.reach r).setTrack w (s.creep.wheels.get w).rested).recheckRest)

end Sys2Proof.Machine
end

