-- ==== Sys2Proof/Machine/Park.lean ====
section
/-! DEFINITION. Park control, the safe-start marker's two requests, the release request, and the expiries of the hold
context's timers (chapters 5, 8 and section 11.3). -/

namespace Sys2Proof.Machine

/-! ### The safe-start marker (R169) -/

/-- The content of the marker cell a cell operation leaves. -/
def CellOp.applied (op : CellOp) (cell : Bool) : Bool :=
  match op with
  | .none => cell
  | .write => true
  | .erase => false

/-- R169: a request on the marker acts on its value at once, and on the cell at once or, during a save, at its end. -/
def Store.request (st : Store) (op : CellOp) : Store :=
  let st1 := { st with marker := op.applied st.marker }
  match st.op with
  | .saving => { st1 with pendingCell := op }
  | .idle | .loading => { st1 with cell := op.applied st.cell }

/-- R169: a request is taken, and the supervisor is notified of a changed marker (R82). -/
def State.requestMarker (s : State) (op : CellOp) : State :=
  let s1 := { s with store := s.store.request op }
  if s1.store.marker = s.store.marker then s1 else s1.noticeConditions

/-! ### The spring brake (R134, R135) -/

/-- R134: a PARK_STATUS renewal showing applied is a spring confirmation. -/
def State.springApplied (s : State) : State :=
  match s.park.conf with
  | .waiting | .overdue => { s with park := { s.park with conf := .confirmed, timer := none } }.springConfirmed
  | .idle | .confirmed => s

/-- R135: the park confirm timer expires in WAITING. -/
def State.parkOverdue (s : State) : State :=
  match s.park.conf with
  | .waiting =>
    ({ s with park := { s.park with conf := .overdue } }.count .unconfirmedSecures).requestMarker .write
  | .idle | .confirmed | .overdue => s

/-! ### The release request (R97) -/

/-- R97: the first conditions of a release request. -/
def State.releaseTaken (s : State) : Bool :=
  decide (s.sup.state = .secured) && !s.sup.handover && s.key && s.driverPresent && s.driverBraking

/-- R97, third case: the release handover may begin. -/
def State.handoverReady (s : State) : Bool :=
  s.steep && s.calculator.record.valid && !s.calculator.record.insufficient && !s.reservoirLost &&
    !s.pendantActive && decide (2 ≤ s.creep.watchedCount) && !decide (s.portB.mode = .offBus)

/-- R97, R80: the release handover begins. The context's entry P_hold is taken from the record as it stands before the
evaluation that the new context brings. DESIGN CHOICE, notes/assumptions/33.md. -/
def State.beginHandover (s : State) : State :=
  let c := s.newContext (headingOf s.gf) none s.calculator.record.pHold
  ({ s with sup := { s.sup with ctx := some c, handover := true } }.evaluateCore.handMode .hold true).recordInHold

/-- R97, second case: on a shallow grade the spring brake is let go into the driver's hands. -/
def State.releaseShallow (s : State) : State :=
  match s.unavailableReasons with
  | [] => s.deassertPark.enterStandby .none
  | r :: _ => s.deassertPark.enterUnavailable r

/-- R97: PARK_RELEASE_REQ has gone to requested. -/
def State.releaseRequest (s : State) : State :=
  if s.releaseTaken then
    if s.store.marker then s.deassertPark.enterUnavailable .safeStart
    else if s.gf.isSome && !s.steep then s.releaseShallow
    else if s.handoverReady then s.beginHandover
    else s
  else s

/-! ### The commands -/

/-- PARK_CONFIRM_EXPIRY (R135). -/
def execParkConfirmExpiry (s : State) : Host.Outcome State Fault Refusal :=
  .next (match s.expiring s.park.timer with
         | none => s
         | some r => { s.reach r with park := { s.park with timer := none } }.parkOverdue)

/-- The hold-limit timer of the context. -/
def State.holdLimitTimerOf (s : State) : Timer := s.sup.ctx.bind (·.holdLimit)

/-- HOLD_LIMIT_EXPIRY (R88, R90). -/
def execHoldLimitExpiry (s : State) : Host.Outcome State Fault Refusal :=
  .next (match s.expiring s.holdLimitTimerOf with
         | none => s
         | some r => (s.reach r).holdLimitReached)

/-- The ramp timer of the release part; it runs in RELEASING only. -/
def State.rampTimerOf (s : State) : Timer :=
  if s.sup.state = .releasing then (s.sup.ctx.bind (·.release)).map (·.ramp) else none

/-- RAMP_TIMER_EXPIRY (R90). -/
def execRampTimerExpiry (s : State) : Host.Outcome State Fault Refusal :=
  .next (match s.expiring s.rampTimerOf with
         | none => s
         | some r => (s.reach r).enterStandby .none)

end Sys2Proof.Machine
end

