-- ==== Sys2Proof/Machine/Signal.lean ====
section
/-! DEFINITION. The signal block: extraction, sample records and their ages, the notices to the consumers of a role, the
grade window, the reversal tracker, the table check (chapter 2). -/

namespace Sys2Proof.Machine

/-- The state with one sample record replaced. -/
def State.setRecord (s : State) (k : Fin 20) (r : SampleRecord) : State :=
  { s with signals := { s.signals with records := s.signals.records.set k r } }

/-- What brought a notice to a role's consumers: a renewal or a change of age (R32). -/
inductive NoticeKind where
  | renewal | ageing
  deriving DecidableEq, Repr

/-! ### Grade window and reversal tracker -/

/-- R34: the window takes a sample. -/
def pushWindow (window : List Int) (x : Int) : List Int :=
  if window.length < windowSize then window ++ [x] else window.tail ++ [x]

/-- R80: an absent uphill direction is set by the first g_f other than 0. -/
def State.setUphill (s : State) : State :=
  s.mapContext fun c => { c with uphill := match c.uphill with
                                           | some u => some u
                                           | none => headingOf s.gf }

/-- R34, R60, R80, R85: g_f has been taken afresh. -/
def State.windowNotice (s : State) : State := s.setUphill.evaluate.testEntry

/-- R34: the grade window takes a sample. -/
def State.gradeSample (s : State) (x : Int) : State :=
  { s with signals := { s.signals with window := pushWindow s.signals.window x } }.windowNotice

/-- The sign of a nonzero drum speed. -/
def signOf (x : Int) : Sign := if x = 0 then .none else if 0 < x then .positive else .negative

/-- R37: a drum reversal: the window timer starts or restarts, and a start is told to the calculator. A reversal window
of 0 s starts none; a window that still runs from before the setting was written to 0 s runs on as it was. DESIGN
CHOICE, notes/assumptions/31.md. -/
def State.reversal (s : State) : State :=
  if s.work.settings.reversalWindow = 0 then s
  else
    let s1 := { s with signals := { s.signals with reversal := s.timer (1000 * s.work.settings.reversalWindow) } }
    if s.signals.reversal.isSome then s1 else s1.evaluate

/-- R36: the reversal tracker takes a sample. -/
def State.drumSample (s : State) (x : Int) : State :=
  match signOf x, s.signals.keptSign with
  | .none, _ => s
  | g, .none => { s with signals := { s.signals with keptSign := g } }
  | g, old => if g = old then s else { s with signals := { s.signals with keptSign := g } }.reversal

/-! ### Payload limiter (R64) -/

/-- R64: payload used is set. -/
def State.setPayload (s : State) (p : Nat) : State :=
  { s with calculator := { s.calculator with payloadUsed := p } }

/-- R64: payload used becomes the maximum payload setting. -/
def State.payloadMax (s : State) : State := s.setPayload s.work.settings.maxPayload

/-! ### Notices by role (R32) -/

/-- R75: a notice of ENGINE_TORQUE or GEAR_RATIO works the test in HOLDING and RELEASING and hands its outcome on. -/
def State.driveNotice (s : State) : State :=
  match s.sup.state with
  | .holding | .releasing =>
    let s1 := s.workDriveTest (s.sup.ctx.bind (·.uphill))
    s1.driveOutcome s1.calculator.lastOutcome
  | .unavailable | .standby | .checking | .securing | .secured => s

/-- R90, R96: the supervisor takes a PARK_STATUS renewal in a hold state. -/
def State.parkRenewalHold (s : State) (x : Int) : State :=
  match s.sup.state with
  | .holding | .releasing => if x = 1 then s.enterStandby .parkedByDriver else s
  | .secured => if x = 0 ∨ x = 3 then s.enterSecuring s.sup.reason else s
  | .unavailable | .standby | .checking | .securing => s

/-- R85, R88, R96, R134, R150: a PARK_STATUS renewal reaches the supervisor, park control and the path check. -/
def State.parkRenewal (s : State) (x : Int) : State :=
  let s1 := (s.parkRenewalHold x).testEntry
  if x = 1 then s1.springApplied else s1.abortCheck .park

/-- R85, R150: a change of age of PARK_STATUS reaches the supervisor and the path check. -/
def State.parkAgeing (s : State) (age : Age) : State :=
  match age with
  | .lost => s.testEntry.abortCheck .park
  | .fresh | .held => s.testEntry

/-- The consumers of a role take a notice of it, the record standing as changed; `before` is the record as it was. -/
def State.notify (s : State) (role : Role) (kind : NoticeKind) (before after : SampleRecord) : State :=
  let old := before.effective
  let new := after.effective
  match role with
  | .none => s
  | .grade =>
    match kind with
    | .renewal => (s.gradeSample after.value).evaluate.testEntry
    | .ageing => s.evaluate.testEntry
  | .payload =>
    match kind with
    | .renewal =>
      (s.setPayload (limitPayload s.work.settings s.calculator.payloadUsed after.value.toNat)).evaluate
    | .ageing => if after.age = .lost then s.payloadMax.evaluate else s.evaluate
  | .drumSpeed =>
    match kind with
    | .renewal => (s.drumSample after.value).evaluate
    | .ageing => s.evaluate
  | .engineTorque | .gearRatio => s.driveNotice
  | .reservoir =>
    let s1 := s.evaluate.testEntry
    if after.age = .lost ∧ before.age ≠ .lost then s1.securingNotice .reservoir else s1
  | .parkStatus =>
    match kind with
    | .renewal => s.parkRenewal after.value
    | .ageing => s.parkAgeing after.age
  | .parkReleaseReq => if new.flag false false && !old.flag false false then s.releaseRequest else s
  | .driverPresent =>
    let s1 := s.testEntry
    if old.flag true false && !new.flag true false then s1.securingNotice .driverAbsent else s1
  | .pendantActive =>
    let s1 := s.testEntry
    if new.flag false false && !old.flag false false then s1.securingNotice .pendant else s1
  | .holdInhibit => s.testEntry
  | .liftAxle => s.reworkNotice
  | .wheel w =>
    match kind with
    | .renewal => s.watchWheels.wheelSample w after.value.toNat after.dir
    | .ageing => s.watchWheels

/-- The updated marker of a record is cleared once its renewal has been delivered (R33). -/
def State.clearMark (s : State) (k : Fin 20) : State :=
  s.setRecord k { s.signals.records.get k with updated := false }

/-! ### Extraction (R26 to R30) -/

/-- R30: a renewed record. -/
def SampleRecord.renew (r : SampleRecord) (e : SigEntry) (data : List Byte) (stale loss : Timer) : SampleRecord :=
  { value := e.value data, age := .fresh, updated := true, stale := stale, loss := loss,
    dir := if e.role.isWheel then e.dirCode data else r.dir }

/-- R27, R30: one signal is taken from a frame. -/
def State.extract (s : State) (f : Frame) (k : Fin 20) : State :=
  let e := s.work.signals.get k
  if e.role = .none then s
  else if e.short f.dlc.val then s.count .shortFrames
  else if e.noData f.data then s.count .noDataFields
  else
    let r := s.signals.records.get k
    let r1 := r.renew e f.data (s.timer e.stale) (s.timer e.loss)
    ((s.setRecord k r1).notify e.role .renewal r r1).clearMark k

/-- R10: the signal numbers of a list in list order, each once, at its first place. -/
def onceEach : List (Fin 20) → List (Fin 20)
  | [] => []
  | k :: ks => k :: (onceEach ks).filter fun j => decide (j ≠ k)

/-- R10, R24: the extraction list of a matching entry is worked through in order while the table is IN FORCE, one
extraction for each signal number. -/
def State.extractAll (s : State) (f : Frame) (list : List (Fin 20)) : State :=
  match s.signals.state with
  | .suspended => s
  | .inForce => (onceEach list).foldl (fun t k => t.extract f k) s

/-! ### Starting values (R25, R37, R38) -/

/-- R38: the records, the window and the tracker at a start, by the signal table as it stands. No consumer is told. -/
def State.startSignals (s : State) : State :=
  let records := Vector.ofFn fun k => { SampleRecord.start with dir := (s.work.signals.get k).startDir }
  { s with signals := { s.signals with records := records, window := [], keptSign := .none, reversal := none } }

/-- R25: the reset of a record by a write to its entry. -/
def SampleRecord.reset : SampleRecord := SampleRecord.start

/-- R24: the signal table is checked. A valid table's roles become the bindings. What follows from changed bindings at
the creep monitor (R104) and the channel block (R53, R54) is the caller's. -/
def State.checkSignals (s : State) : State :=
  if signalsValid s.work.signals then
    let roles := Vector.ofFn fun k => (s.work.signals.get k).role
    { s with signals := { s.signals with state := .inForce, bindings := roles } }
  else { s with signals := { s.signals with state := .suspended } }

/-! ### The commands -/

/-- STALE_TIMER_EXPIRY (R31). -/
def execStaleTimerExpiry (k : Fin 20) (s : State) : Host.Outcome State Fault Refusal :=
  let r := s.signals.records.get k
  .next (match s.expiring r.stale with
         | none => s
         | some t =>
           let s1 := s.reach t
           match r.age with
           | .fresh =>
             let r1 := { r with age := .held, stale := none }
             (s1.setRecord k r1).notify (s.signals.bindings.get k) .ageing r r1
           | .held | .lost => s1.setRecord k { r with stale := none })

/-- LOSS_TIMER_EXPIRY (R31). -/
def execLossTimerExpiry (k : Fin 20) (s : State) : Host.Outcome State Fault Refusal :=
  let r := s.signals.records.get k
  .next (match s.expiring r.loss with
         | none => s
         | some t =>
           let s1 := s.reach t
           match r.age with
           | .fresh | .held =>
             let r1 := { r with age := .lost, stale := none, loss := none }
             (s1.setRecord k r1).notify (s.signals.bindings.get k) .ageing r r1
           | .lost => s1.setRecord k { r with stale := none, loss := none })

/-- REVERSAL_WINDOW_EXPIRY (R37). -/
def execReversalWindowExpiry (s : State) : Host.Outcome State Fault Refusal :=
  .next (match s.expiring s.signals.reversal with
         | none => s
         | some t => { s.reach t with signals := { s.signals with reversal := none } }.evaluate)

end Sys2Proof.Machine
end

