-- ==== Sys2Proof/Machine/Values.lean ====
section
/-! DEFINITION. The management values of the settings and the tables: the number each field reads as (R174), and the
range and cross-field checks of a write (sections 2.1, 3.1, 4.3, 12.3, R16, R23, R40, R65, R129, R152). Numbers of
enumerations are positions in the defining table or list (notes/assumptions/12.md). -/

namespace Sys2Proof

/-- A port's position: V 0, B 1 (section 1.2). -/
def Port.position : Port → Nat
  | .v => 0
  | .b => 1

end Sys2Proof

namespace Sys2Proof.Machine

/-! ### Numbers of enumerations -/

/-- An action's number: PASS 0 to MANAGE 5 (R174). -/
def Action.number : Action → Nat
  | .pass => 0
  | .passShed => 1
  | .take => 2
  | .merge => 3
  | .channel => 4
  | .manage => 5

/-- The action a number names. -/
def Action.ofNumber : Nat → Option Action
  | 0 => some .pass
  | 1 => some .passShed
  | 2 => some .take
  | 3 => some .merge
  | 4 => some .channel
  | 5 => some .manage
  | _ => none

/-- A default action's number: PASS 0, DROP 6 (R174). -/
def DefaultAction.number : DefaultAction → Nat
  | .pass => 0
  | .drop => 6

/-- The default action a number names. -/
def DefaultAction.ofNumber : Nat → Option DefaultAction
  | 0 => some .pass
  | 6 => some .drop
  | _ => none

/-- A wheel's position, 0 to 5. -/
def wheelPosition : Wheel → Nat
  | .w1 => 0
  | .w2 => 1
  | .w3 => 2
  | .w4 => 3
  | .w5 => 4
  | .w6 => 5

/-- A role's number (R174). -/
def Role.number : Role → Nat
  | .none => 0
  | .grade => 1
  | .payload => 2
  | .drumSpeed => 3
  | .engineTorque => 4
  | .gearRatio => 5
  | .reservoir => 6
  | .parkStatus => 7
  | .parkReleaseReq => 8
  | .driverPresent => 9
  | .pendantActive => 10
  | .holdInhibit => 11
  | .liftAxle => 12
  | .wheel w => 13 + wheelPosition w

/-- The role a number names. -/
def Role.ofNumber : Nat → Option Role
  | 0 => some .none
  | 1 => some .grade
  | 2 => some .payload
  | 3 => some .drumSpeed
  | 4 => some .engineTorque
  | 5 => some .gearRatio
  | 6 => some .reservoir
  | 7 => some .parkStatus
  | 8 => some .parkReleaseReq
  | 9 => some .driverPresent
  | 10 => some .pendantActive
  | 11 => some .holdInhibit
  | 12 => some .liftAxle
  | 13 => some (.wheel .w1)
  | 14 => some (.wheel .w2)
  | 15 => some (.wheel .w3)
  | 16 => some (.wheel .w4)
  | 17 => some (.wheel .w5)
  | 18 => some (.wheel .w6)
  | _ => none

/-! ### Reading a written value -/

/-- A value within a range. -/
def ranged (lo hi : Nat) (w : Word32) : Option Nat := if lo ≤ w.toNat ∧ w.toNat ≤ hi then some w.toNat else none

/-- A signed value within −32768..32767. -/
def ranged16 (w : Word32) : Option Int := if -32768 ≤ w.toInt ∧ w.toInt ≤ 32767 then some w.toInt else none

/-- A flag, or an off or on. -/
def flagOf (w : Word32) : Option Bool := if w = 0#32 then some false else if w = 1#32 then some true else none

/-- R174: the numbers of an extraction list from its bytes; FFh marks an empty place, and only empty places follow. -/
def extractOf : List Byte → Option (List (Fin 20))
  | [] => some []
  | b :: rest =>
    if b = 0xFF#8 then (if rest.all (· == 0xFF#8) then some [] else none)
    else if h : b.toNat < 20 then (extractOf rest).map fun l => ⟨b.toNat, h⟩ :: l
    else none

/-- R174: an extraction list as a value. -/
def extractWord (l : List (Fin 20)) : Word32 :=
  wordFrom ((l.map fun k => byteOf k.val) ++ [0xFF#8, 0xFF#8, 0xFF#8, 0xFF#8]) 0

/-- R174: a direction sub-field as a value. -/
def subWord : Option (Nat × Nat) → Word32
  | some (b, o) => natWord (b + 256 * o)
  | none => absentWord

/-- R174, section 2.1: a direction sub-field from a value; the bit offset is at most 6. -/
def subOf (w : Word32) : Option (Option (Nat × Nat)) :=
  if w = absentWord then some none
  else if w &&& 0xFFFFF8F8#32 ≠ 0#32 then none
  else if 6 < w.toNat / 256 then none
  else some (some (w.toNat % 8, w.toNat / 256))

/-! ### Settings (section 12.3) -/

/-- A setting's value by its field number; the part has no other settings. -/
def Settings.read (set : Settings) (field : Nat) : Option Word32 :=
  match field with
  | 0 => some (natWord set.portVDefault.number)
  | 1 => some (natWord set.portBDefault.number)
  | 2 => some (natWord set.highWater)
  | 3 => some (natWord set.lowWater)
  | 4 => some (natWord set.reversalWindow)
  | 5 => some (natWord set.statusStale)
  | 6 => some (natWord set.statusLoss)
  | 7 => some (flagWord set.checkRequired)
  | 8 => some (natWord set.chassisMass)
  | 9 => some (natWord set.maxPayload)
  | 10 => some (natWord set.maxGross)
  | 11 => some (natWord set.payloadFallStep)
  | 12 => some (natWord set.reversalAllowance)
  | 13 => some (natWord set.baseMargin)
  | 14 => some (natWord set.stepMargin)
  | 15 => some (natWord set.maxServicePressure)
  | 16 => some (natWord set.reservoirReserve)
  | 17 => some (natWord set.holdFloor)
  | 18 => some (natWord set.drivelineFactor)
  | 19 => some (natWord set.releaseMargin)
  | 20 => some (natWord set.downhillTorque)
  | 21 => some (natWord set.entryGrade)
  | 22 => some (natWord set.entryDemand)
  | 23 => some (natWord set.holdLimit)
  | 24 => some (natWord set.rampTime)
  | 25 => some (flagWord set.autoCheck)
  | 26 => some (natWord set.restTime)
  | 27 => some (natWord set.creepThreshold)
  | 28 => some (natWord set.demandStale)
  | 29 => some (natWord set.demandLoss)
  | 30 => some (natWord set.refreshInterval)
  | 31 => some (natWord set.slotDiscardTime)
  | 32 => some (natWord set.buildStage1)
  | 33 => some (natWord set.buildStage2)
  | 34 => some (natWord set.buildTolerance)
  | 35 => some (natWord set.parkConfirmTime)
  | 36 => some (natWord set.lowLevel)
  | 37 => some (natWord set.mediumLevel)
  | 38 => some (natWord set.highLevel)
  | 39 => some (natWord set.levelTimeout)
  | 40 => some (natWord set.checkTolerance)
  | 41 => some set.requestId.word
  | 42 => some set.replyId.word
  | 43 => some set.cabStatusId.word
  | 44 => some (natWord set.sleepDelay)
  | _ => none

/-- R152: the check levels rise strictly. -/
def Settings.levelsRise (set : Settings) : Bool :=
  decide (set.lowLevel < set.mediumLevel) && decide (set.mediumLevel < set.highLevel)

/-- R152: settings whose levels rise. -/
def Settings.ifLevelsRise (set : Settings) : Option Settings := if set.levelsRise then some set else none

/-- A setting written: none where the value is outside its range or breaks a cross-field check. -/
def Settings.write (set : Settings) (field : Nat) (v : Word32) : Option Settings :=
  match field with
  | 0 => (DefaultAction.ofNumber v.toNat).map fun a => { set with portVDefault := a }
  | 1 => (DefaultAction.ofNumber v.toNat).map fun a => { set with portBDefault := a }
  | 2 => (ranged (max 4 (set.lowWater + 1)) 23 v).map fun n => { set with highWater := n }
  | 3 => (ranged 0 (set.highWater - 1) v).map fun n => { set with lowWater := n }
  | 4 => (ranged 0 30 v).map fun n => { set with reversalWindow := n }
  | 5 => (ranged 10 (min 2000 set.statusLoss) v).map fun n => { set with statusStale := n }
  | 6 => (ranged set.statusStale 5000 v).map fun n => { set with statusLoss := n }
  | 7 => (flagOf v).map fun b => { set with checkRequired := b }
  | 8 => (ranged 1000 (min 4000 set.maxGross) v).map fun n => { set with chassisMass := n }
  | 9 => (ranged 0 5000 v).map fun n => { set with maxPayload := n }
  | 10 => (ranged (max 2000 set.chassisMass) 6000 v).map fun n => { set with maxGross := n }
  | 11 => (ranged 1 100 v).map fun n => { set with payloadFallStep := n }
  | 12 => (ranged 0 400 v).map fun n => { set with reversalAllowance := n }
  | 13 => (ranged 100 500 v).map fun n => { set with baseMargin := n }
  | 14 => (ranged 0 300 v).map fun n => { set with stepMargin := n }
  | 15 => (ranged 200 900 v).map fun n => { set with maxServicePressure := n }
  | 16 => (ranged 0 300 v).map fun n => { set with reservoirReserve := n }
  | 17 => (ranged 50 400 v).map fun n => { set with holdFloor := n }
  | 18 => (ranged 1 5000 v).map fun n => { set with drivelineFactor := n }
  | 19 => (ranged 0 500 v).map fun n => { set with releaseMargin := n }
  | 20 => (ranged 50 1000 v).map fun n => { set with downhillTorque := n }
  | 21 => (ranged 10 200 v).map fun n => { set with entryGrade := n }
  | 22 => (ranged 20 600 v).map fun n => { set with entryDemand := n }
  | 23 => (ranged 10 600 v).map fun n => { set with holdLimit := n }
  | 24 => (ranged 200 3000 v).map fun n => { set with rampTime := n }
  | 25 => (flagOf v).map fun b => { set with autoCheck := b }
  | 26 => (ranged 50 2000 v).map fun n => { set with restTime := n }
  | 27 => (ranged 1 64 v).map fun n => { set with creepThreshold := n }
  | 28 => (ranged 10 (min 2000 set.demandLoss) v).map fun n => { set with demandStale := n }
  | 29 => (ranged set.demandStale 5000 v).map fun n => { set with demandLoss := n }
  | 30 => (ranged 10 100 v).map fun n => { set with refreshInterval := n }
  | 31 => (ranged 10 200 v).map fun n => { set with slotDiscardTime := n }
  | 32 => (ranged 50 1000 v).map fun n => { set with buildStage1 := n }
  | 33 => (ranged 50 2000 v).map fun n => { set with buildStage2 := n }
  | 34 => (ranged 8 200 v).map fun n => { set with buildTolerance := n }
  | 35 => (ranged 500 5000 v).map fun n => { set with parkConfirmTime := n }
  | 36 => (ranged 50 300 v).bind fun n => { set with lowLevel := n }.ifLevelsRise
  | 37 => (ranged 150 500 v).bind fun n => { set with mediumLevel := n }.ifLevelsRise
  | 38 => (ranged 300 800 v).bind fun n => { set with highLevel := n }.ifLevelsRise
  | 39 => (ranged 100 2000 v).map fun n => { set with levelTimeout := n }
  | 40 => (ranged 8 200 v).map fun n => { set with checkTolerance := n }
  | 41 => (CanId.ofWord v).map fun i => { set with requestId := i }
  | 42 => (CanId.ofWord v).map fun i => { set with replyId := i }
  | 43 => (CanId.ofWord v).map fun i => { set with cabStatusId := i }
  | 44 => (ranged 500 10000 v).map fun n => { set with sleepDelay := n }
  | _ => none

/-! ### Route entries (section 1.2) -/

/-- A route entry's field. -/
def RouteEntry.read (e : RouteEntry) (field : Nat) : Option Word32 :=
  match field with
  | 0 => some (flagWord e.valid)
  | 1 => some (natWord e.port.position)
  | 2 => some (flagWord e.ext)
  | 3 => some (e.id.zeroExtend 32)
  | 4 => some (e.mask.zeroExtend 32)
  | 5 => some (natWord e.action.number)
  | 6 => some (flagWord e.alsoPass)
  | 7 => some (extractWord e.extract)
  | _ => none

/-- Section 1.2: an identifier or mask within the width of the entry's format as it stands
(notes/assumptions/15.md). The value that the field holds is taken besides (R157, takenOrHeld). -/
def RouteEntry.bitsOf (e : RouteEntry) (v : Word32) : Option (BitVec 29) :=
  (ranged 0 (fullMask e.ext).toNat v).map fun n => BitVec.ofNat 29 n

/-- A route entry's field written. -/
def RouteEntry.write (e : RouteEntry) (field : Nat) (v : Word32) : Option RouteEntry :=
  match field with
  | 0 => (flagOf v).map fun b => { e with valid := b }
  | 1 => (flagOf v).map fun b => { e with port := if b then .b else .v }
  | 2 => (flagOf v).map fun b => { e with ext := b }
  | 3 => (e.bitsOf v).map fun i => { e with id := i }
  | 4 => (e.bitsOf v).map fun i => { e with mask := i }
  | 5 => (Action.ofNumber v.toNat).map fun a => { e with action := a }
  | 6 => (flagOf v).map fun b => { e with alsoPass := b }
  | 7 => (extractOf (wordBytes v)).map fun l => { e with extract := l }
  | _ => none

/-! ### Signal entries (section 2.1) -/

/-- A signal table entry's field. -/
def SigEntry.read (e : SigEntry) (field : Nat) : Option Word32 :=
  match field with
  | 0 => some (natWord e.role.number)
  | 1 => some (natWord e.bytePos)
  | 2 => some (natWord e.bitOff)
  | 3 => some (natWord e.length)
  | 4 => some (flagWord e.big)
  | 5 => some (flagWord e.signed)
  | 6 => some (intWord e.gain)
  | 7 => some (intWord e.offset)
  | 8 => some (natWord e.stale)
  | 9 => some (natWord e.loss)
  | 10 => some (subWord e.dirSub)
  | _ => none

/-- A signal table entry's field written (R23). -/
def SigEntry.write (e : SigEntry) (field : Nat) (v : Word32) : Option SigEntry :=
  match field with
  | 0 => (Role.ofNumber v.toNat).map fun r => { e with role := r }
  | 1 => (ranged 0 7 v).map fun n => { e with bytePos := n }
  | 2 => (ranged 0 7 v).map fun n => { e with bitOff := n }
  | 3 => (ranged 1 16 v).map fun n => { e with length := n }
  | 4 => (flagOf v).map fun b => { e with big := b }
  | 5 => (flagOf v).map fun b => { e with signed := b }
  | 6 => (ranged16 v).map fun i => { e with gain := i }
  | 7 => (ranged16 v).map fun i => { e with offset := i }
  | 8 => (ranged 10 (min 2000 e.loss) v).map fun n => { e with stale := n }
  | 9 => (ranged e.stale 5000 v).map fun n => { e with loss := n }
  | 10 => (subOf v).map fun d => { e with dirSub := d }
  | _ => none

/-! ### Channel settings (section 3.1) -/

/-- A channel setting. -/
def ChanEntry.read (e : ChanEntry) (field : Nat) : Option Word32 :=
  match field with
  | 0 => some (flagWord e.expected)
  | 1 => some e.frameId.word
  | 2 => some e.acceptId.word
  | 3 => some (natWord e.brakeFactor)
  | 4 => some (flagWord e.liftable)
  | _ => none

/-- A channel setting written. -/
def ChanEntry.write (e : ChanEntry) (field : Nat) (v : Word32) : Option ChanEntry :=
  match field with
  | 0 => (flagOf v).map fun b => { e with expected := b }
  | 1 => (CanId.ofWord v).map fun i => { e with frameId := i }
  | 2 => (CanId.ofWord v).map fun i => { e with acceptId := i }
  | 3 => (ranged 1 1000 v).map fun n => { e with brakeFactor := n }
  | 4 => (flagOf v).map fun b => { e with liftable := b }
  | _ => none

/-! ### Breakpoints (section 4.3) -/

/-- A breakpoint's field. -/
def Breakpoint.read (p : Breakpoint) (field : Nat) : Option Word32 :=
  match field with
  | 0 => some (natWord p.x)
  | 1 => some (natWord p.y)
  | _ => none

/-- A breakpoint's field written, with the highest abscissa and ordinate of its curve. -/
def Breakpoint.write (p : Breakpoint) (maxX maxY field : Nat) (v : Word32) : Option Breakpoint :=
  match field with
  | 0 => (ranged 0 maxX v).map fun n => { p with x := n }
  | 1 => (ranged 0 maxY v).map fun n => { p with y := n }
  | _ => none

/-! ### The image as bytes (R166) -/

/-- Every field of an item, by its number. -/
def fieldWords (read : Nat → Option Word32) (n : Nat) : List Word32 := (List.range n).filterMap read

/-- R166: the contents of an image as values, in the order of the item groups. DESIGN CHOICE,
notes/assumptions/9.md. -/
def Working.words (w : Working) : List Word32 :=
  fieldWords w.settings.read 45 ++
  w.routes.toList.flatMap (fun e => fieldWords e.read 8) ++
  w.signals.toList.flatMap (fun e => fieldWords e.read 11) ++
  w.gradeCurve.toList.flatMap (fun p => fieldWords p.read 2) ++
  w.drumCurve.toList.flatMap (fun p => fieldWords p.read 2) ++
  [w.channels.c1, w.channels.c2, w.channels.c3, w.channels.c4].flatMap (fun e => fieldWords e.read 5)

/-- R166: the length of a KH-240 image, in bytes. -/
def imageLength : Nat := 4316

/-- R166: the 16-bit sum of the bytes of an image. -/
def Working.checksum (w : Working) : BitVec 16 :=
  BitVec.ofNat 16 ((w.words.flatMap wordBytes).foldl (fun acc b => acc + b.toNat) 0)

/-- R166: the image is good. -/
def Image.good (i : Image) : Bool := i.length == imageLength && i.checksum == i.contents.checksum

/-- R168: an image made from contents, with their length and checksum. -/
def imageOf (w : Working) : Image := ⟨w, imageLength, w.checksum⟩

end Sys2Proof.Machine
end

