-- ==== Sys2Proof/Machine/Store.lean ====
section
/-! DEFINITION. The store and the part's life: loads, saves, starts, sleep and wake (chapter 11), with the checks of the
four tables and every block's values at a start. -/

namespace Sys2Proof.Machine

/-! ### Table checks -/

/-- R13: the route table is checked. -/
def State.checkRoutes (s : State) : State :=
  if routesValid s.work.routes then { s with route := ⟨.inForce, routesMergeId s.work.routes⟩ }
  else { s with route := { s.route with state := .suspended } }

/-- R62: the curves are checked. -/
def State.checkCurves (s : State) : State :=
  let state := if curvesValid s.work.gradeCurve s.work.drumCurve then .inForce else .suspended
  { s with calculator := { s.calculator with state := state } }

/-- R166: the four tables are checked, and the creep monitor works out afresh which wheels are watched (R104). -/
def State.checkTables (s : State) : State := s.checkRoutes.checkSignals.checkChannels.checkCurves.watchWheels

/-! ### Values at a start -/

/-- R7, R18, R114, R130, R165: ports, forward queues, creep monitor, merger and responder at a start or a wake. -/
def State.startTraffic (s : State) : State :=
  { s with portV := PortCtl.start, portB := PortCtl.start, vToB := [], shedding := false, bToV := [],
           creep := Creep.start, merger := Merger.start, resp := Responder.start, sleepTimer := none }

/-- R77: the calculator at a start, from the settings in force. -/
def State.startCalculator (s : State) : State :=
  { s with calculator := Calc.start s.work.settings s.calculator.state }

/-- R58: the channel block at a start. At a warm reset and at wake the notice of a set that this empties is taken as given
before the merger and the supervisor take their starting states, so it shows nowhere. DESIGN CHOICE,
notes/assumptions/32.md. -/
def State.startChannels (s : State) : State := s.restartChannels.rework

/-- R38, R58, R77: signal block, channel block and calculator at a start or a wake. -/
def State.startMeasures (s : State) : State := s.startSignals.startChannels.startCalculator

/-- R101, R80, R91: the supervisor takes its starting state from the PRQ latch; `reason` is the one of a start in
SECURING. -/
def State.takeStart (s : State) (reason : Reason) : State :=
  let s1 := { s with sup := { s.sup with handover := false, autoPending := true } }
  if s1.park.prq then
    let c := s1.newContext none none 0
    { s1 with sup := { s1.sup with ctx := some c } }.evaluateCore.enterSecuring reason
  else
    match s1.unavailableReasons with
    | r :: _ => s1.enterUnavailable r
    | [] => s1.enterStandby .none

/-! ### Loads (R166, R167) -/

/-- R166: the contents a load sets. -/
def Image.loaded (i : Image) : Working := if i.good then i.contents else Working.blank

/-- R166: the load has ended: working copies, image state and operation. -/
def State.endOperation (s : State) : State :=
  { s with work := s.store.image.loaded,
           store := { s.store with imageGood := s.store.image.good, op := .idle } }

/-- R170: the load of a start has ended: every block takes its starting values under the loaded tables, and the
supervisor its starting state. -/
def State.endStart (s : State) : State :=
  { s.endOperation with start := none }.startMeasures.checkTables.startChannels.takeStart .resetInHold

/-- R167: the load of a RELOAD has ended. -/
def State.endReload (s : State) : State :=
  let before := s.channels.derived
  ((s.endOperation.checkTables.startChannels.payloadMax.evaluate).noticeSet before).noticeConditions.tendSleep

/-- R167, R83: a RELOAD is taken. The emptied grade window (R35) and an ended reversal window (R37) bring no evaluation
after the calculator's starting values (R77), which stand. DESIGN CHOICE, notes/assumptions/18.md. -/
def State.beginReload (s : State) : State :=
  let s1 := { s with store := { s.store with op := .loading }, route := { s.route with state := .suspended },
                     creep := Creep.start }
  s1.startSignals.startCalculator.noticeConditions.tendSleep

/-! ### Saves (R168, R169) -/

/-- R168: a SAVE is taken. -/
def State.beginSave (s : State) : State :=
  { s with store := { s.store with op := .saving, copy := some s.work } }.tendSleep

/-- R168, R169: the copy is whole and becomes the image; a pending cell operation is made. -/
def Store.complete (st : Store) : Store :=
  { st with image := match st.copy with
                     | some w => imageOf w
                     | none => st.image,
            copy := none, lastSave := .completed, op := .idle,
            cell := st.pendingCell.applied st.cell, pendingCell := .none }

/-- R168, R169: a save cut by a warm reset: the image stands, the pending cell operation is made. -/
def Store.cut (st : Store) : Store :=
  match st.op with
  | .saving =>
    { st with copy := none, lastSave := .cut, op := .idle,
              cell := st.pendingCell.applied st.cell, pendingCell := .none }
  | .idle | .loading => st

/-- R166, R169: a load of a start begins: the marker value is read from its cell. -/
def Store.beginLoad (st : Store) : Store := { st with marker := st.cell, op := .loading }

/-! ### Warm reset (R170) -/

/-- R138: what a warm reset makes of park control. -/
def Park.warmReset (p : Park) : Park :=
  { p with prq := p.prq || p.holdInForce, conf := .idle, timer := none }

/-- R153: what a warm reset makes of the path check. -/
def PathCheck.warmReset (p : PathCheck) : PathCheck :=
  { p with testing := false, chan := none, level := none, settle := 0, timer := none,
           lastRun := if p.testing then .aborted .reset else p.lastRun }

/-- R170, R131: a warm reset begins. Until its load ends the supervisor reads UNAVAILABLE, and the working copies stand
as they were (notes/assumptions/3.md). -/
def State.warmReset (s : State) : State :=
  { s with park := s.park.warmReset, store := s.store.cut.beginLoad, start := some .warm, asleep := false,
           sup := ⟨.unavailable, .store, none, false, s.sup.autoPending⟩, path := s.path.warmReset }
    |>.startTraffic |>.startMeasures

/-! ### Power (R140, R168, R170) -/

/-- R170: a power-on reset of a part whose store holds an image and a marker cell. -/
def State.powerOn (s : State) : State :=
  let st := { State.reset.store with image := s.store.image, cell := s.store.cell, marker := s.store.cell }
  { State.reset with pending := s.pending, choices := s.choices, key := s.key, now := s.now, store := st }

/-! ### Sleep and wake (R171, R172) -/

/-- R171: the slot's discard timer stops. -/
def Slot.halt (x : Slot) : Slot := { x with discard := none }

/-- R171: the rest timer stops. -/
def Track.halt (t : Track) : Track :=
  { t with rest := match t.rest with
                   | .running _ => .stopped
                   | r => r }

/-- R39, R58, R114: the timers of records stop. -/
def State.haltRecords (s : State) : State :=
  let records := Vector.ofFn fun k => { s.signals.records.get k with stale := none, loss := none }
  let chans := PerChan.build fun c => { s.channels.records.get c with stale := none, loss := none }
  let tracks := PerWheel.build fun w => (s.creep.wheels.get w).halt
  { s with signals := { s.signals with records := records, reversal := none },
           channels := { s.channels with records := chans }, creep := { s.creep with wheels := tracks } }

/-- R130: the merger's timers stop. -/
def Merger.halt (m : Merger) : Merger :=
  { m with driver := { m.driver with stale := none, loss := none }, refresh := none, slotA := m.slotA.halt,
           slotB := m.slotB.halt, stage := none }

/-- R171: every timer of every block stops. -/
def State.haltTimers (s : State) : State :=
  { s.haltRecords with
    merger := s.merger.halt, park := { s.park with timer := none }, path := { s.path with timer := none },
    resp := { s.resp with restartTimer := none, period := none }, sleepTimer := none }
  |>.mapContext fun c => { c with holdLimit := none }

/-- R7, R123, R125, R165: Port B's source is told FAILED as an attempt ends. DESIGN CHOICE, notes/assumptions/39.md: at
entry to sleep a control queue's head in attempt is removed, as R2 and R125 have FAILED do, where R130 and R171 have the
queue kept as it stands. -/
def Merger.failed (m : Merger) (src : Source) : Merger :=
  match src with
  | .slot n => m.finishSlot n .failed
  | .control => { m with control := m.control.tail }
  | .vToB | .reply | .cab | .bToV => m

/-- R171, R7: sleep is entered: both attempts end FAILED, and every timer stops. A reply in attempt stays at the head and
a cab status slot SENDING becomes EMPTY (R165). DESIGN CHOICE, notes/assumptions/38.md: it does so with the renew marker
set too, which is cleared, where R164's FAILED makes a frame. What the control queue does is marked at `Merger.failed`. -/
def State.fallAsleep (s : State) : State :=
  let m := match s.portB.attempt with
           | some a => s.merger.failed a.source
           | none => s.merger
  let r := match s.resp.cab with
           | .sending _ => { s.resp with cab := .empty, renew := false }
           | .empty | .waiting _ => s.resp
  { s with portV := { s.portV with attempt := none }, portB := { s.portB with attempt := none }, merger := m,
           resp := r, asleep := true }.haltTimers

/-- R161: Port V's frame in attempt is the reply of the RESTART that is pending. -/
def State.restartInAttempt (s : State) : Bool :=
  match s.portV.attempt, s.resp.replies with
  | some ⟨.reply, _⟩, r :: _ => r.restart
  | _, _ => false

/-- R171, R161: the entry to sleep. A RESTART's reply in attempt is reported FAILED by it (R7), which begins the warm reset
in place of the sleep (notes/assumptions/17.md). -/
def State.enterSleep (s : State) : State := if s.restartInAttempt then s.warmReset else s.fallAsleep

/-- R172, R101: wake. -/
def State.wakeUp (s : State) : State :=
  { s with asleep := false, key := true, park := { s.park with conf := .idle, timer := none } }
    |>.startTraffic |>.startMeasures |>.takeStart .keyOff

end Sys2Proof.Machine
end

