-- ==== Sys2Proof/Machine/Lifecycle.lean ====
section
/-! DEFINITION. The commands of the part's life: power, reset, KEY, sleep, the ends of a load and of a save (chapters 5
and 11, R161). -/

namespace Sys2Proof.Machine

/-- POWER_ON_RESET (R170, R140). -/
def execPowerOnReset (s : State) : Host.Outcome State Fault Refusal := .next s.powerOn

/-- R168, R169: what loss of power leaves of the store's work. -/
def Store.losePower (st : Store) : Store :=
  { st with pendingCell := .none, copy := none, op := .idle,
            lastSave := match st.op with
                        | .saving => .cut
                        | .idle | .loading => st.lastSave }

/-- R168, R169: power is lost: every timer and attempt stops; a save is cut and a pending cell operation discarded. What
is kept in the volatile fields cannot be seen before the next power-on (notes/assumptions/22.md). -/
def State.losePower (s : State) : State :=
  { s with powered := false, store := s.store.losePower, portV := { s.portV with attempt := none },
           portB := { s.portB with attempt := none } }.haltTimers

/-- POWER_LOSS (R168, R169). -/
def execPowerLoss (s : State) : Host.Outcome State Fault Refusal := .next (if s.powered then s.losePower else s)

/-- WARM_RESET by RSTN (R170, R138). -/
def execWarmReset (s : State) : Host.Outcome State Fault Refusal := .next (if s.powered then s.warmReset else s)

/-- R102, R150, R171: KEY has fallen while the part runs: the supervisor, the path check and the sleep delay take it. -/
def State.keyFell (s : State) : State :=
  { s with key := false }.securingNotice .keyOff |>.abortCheck .keyOff |>.tendSleep

/-- KEY_FALL (R102). Outside a running part it moves the line alone. -/
def execKeyFall (s : State) : Host.Outcome State Fault Refusal :=
  .next (if !s.key then s else if s.running then s.keyFell else { s with key := false })

/-- R85, R171: KEY has risen while the part runs. -/
def State.keyRose (s : State) : State := { s with key := true }.tendSleep.testEntry

/-- KEY_RISE (R85, R171); in sleep it is WAKE (R172, notes/assumptions/24.md). -/
def execKeyRise (s : State) : Host.Outcome State Fault Refusal :=
  .next (if s.key then s
         else if s.powered && s.asleep then s.wakeUp
         else if s.running then s.keyRose
         else { s with key := true })

/-- WAKE (R172): KEY rises in sleep. -/
def execWake (s : State) : Host.Outcome State Fault Refusal :=
  .next (if s.powered && s.asleep then s.wakeUp else s)

/-- LOAD_END (R166). -/
def execLoadEnd (s : State) : Host.Outcome State Fault Refusal :=
  .next (if s.awake && decide (s.store.op = .loading) then (if s.start.isSome then s.endStart else s.endReload)
         else s)

/-- SAVE_COMPLETE (R168, R169). -/
def execSaveComplete (s : State) : Host.Outcome State Fault Refusal :=
  .next (if s.awake && decide (s.store.op = .saving) then { s with store := s.store.complete }.tendSleep else s)

/-- RESTART_TIMER_EXPIRY (R161, R170). -/
def execRestartTimerExpiry (s : State) : Host.Outcome State Fault Refusal :=
  .next (match s.expiring s.resp.restartTimer with
         | none => s
         | some r => (s.reach r).warmReset)

/-- SLEEP_DELAY_EXPIRY (R171). -/
def execSleepDelayExpiry (s : State) : Host.Outcome State Fault Refusal :=
  .next (match s.expiring s.sleepTimer with
         | none => s
         | some r => { s.reach r with sleepTimer := none }.enterSleep)

end Sys2Proof.Machine
end

