-- ==== Sys2Proof/Config.lean ====
section
/-! DEFINITION. What the spec leaves free: a constant without a body, so that no proof can see its value. -/

namespace Sys2Proof

/-- R88 leaves to chance which of two notices the supervisor takes first when a build confirmation's second
stage marks the last usable channels SHORT: true when the merger's report is taken before the channel block's
notice of B falling to 0. Applied to the count of choices taken so far. DESIGN CHOICE, notes/assumptions/8.md. -/
opaque Config.mergerReportFirst : Nat → Bool

end Sys2Proof
end

