-- ==== Sys2Proof/Machine/Demand.lean ====
section
/-! DEFINITION. The demand merger's commands: the driver demand record, the refresh timer, the discard timers and the
stages of build confirmation (chapter 7). -/

namespace Sys2Proof.Machine

/-! ### The driver demand record (R115, R116) -/

/-- The supervisor and the path check take a change of the driver demand record (R115, R116). -/
def State.noticeDemand (s : State) : State := s.testEntry.pathDemand

/-- The state with the driver demand record replaced. -/
def State.setDriver (s : State) (d : DriverDemand) : State :=
  { s with merger := { s.merger with driver := d } }

/-- R115: the driver demand record a frame leaves. -/
def State.driverRecord (s : State) (f : Frame) : DriverDemand :=
  { demands := PerChan.build (frameDemand f), age := .fresh,
    stale := s.timer s.work.settings.demandStale, loss := s.timer s.work.settings.demandLoss,
    last := some ⟨f.id, f.data⟩ }

/-- R115: a driver demand frame; one of a shorter data length is not taken. -/
def State.demandTaken (s : State) (f : Frame) : State :=
  if f.dlc.val = 8 then ((s.setDriver (s.driverRecord f)).makeDemand).noticeDemand else s

/-- DRIVER_DEMAND_STALE_EXPIRY (R116). -/
def execDriverDemandStaleExpiry (s : State) : Host.Outcome State Fault Refusal :=
  let d := s.merger.driver
  .next (match s.expiring d.stale with
         | none => s
         | some t =>
           match d.age with
           | .fresh => ((s.reach t).setDriver { d with age := .held, stale := none }).noticeDemand
           | .held | .lost => (s.reach t).setDriver { d with stale := none })

/-- DRIVER_DEMAND_LOSS_EXPIRY (R116). -/
def execDriverDemandLossExpiry (s : State) : Host.Outcome State Fault Refusal :=
  let d := s.merger.driver
  .next (match s.expiring d.loss with
         | none => s
         | some t =>
           match d.age with
           | .fresh | .held =>
             ((s.reach t).setDriver { d with age := .lost, stale := none, loss := none }).noticeDemand
           | .lost => (s.reach t).setDriver { d with stale := none, loss := none })

/-! ### Refresh and discard (R120, R124) -/

/-- REFRESH_TIMER_EXPIRY (R117, R120): a frame is made in the states the timer runs in. -/
def execRefreshTimerExpiry (s : State) : Host.Outcome State Fault Refusal :=
  .next (match s.expiring s.merger.refresh with
         | none => s
         | some t =>
           let s1 := { s.reach t with merger := { s.merger with refresh := none } }
           if s.sup.state.isHold then s1.makeDemand else s1)

/-- SLOT_DISCARD_EXPIRY (R124). -/
def execSlotDiscardExpiry (n : SlotName) (s : State) : Host.Outcome State Fault Refusal :=
  .next (match s.expiring (s.merger.slot n).discard with
         | none => s
         | some t =>
           match (s.merger.slot n).state with
           | .loaded => { s.reach t with merger := s.merger.setSlot n Slot.start }.count .slotDiscards
           | .empty | .sending | .done =>
             { s.reach t with merger := s.merger.setSlot n { s.merger.slot n with discard := none } })

/-! ### Stage expiries (R128) -/

/-- R128: stage 1 ends. -/
def State.endStage1 (s : State) : State :=
  let s1 := s.count .slowBuilds
  { s1 with merger := { s1.merger with conf := .stage2, stage := s.timer s.work.settings.buildStage2 } }

/-- R51: the channels of a list that are ACCEPTED become SHORT, each counted (R128). -/
def State.makeShort (s : State) (lagging : List Chan) : State :=
  lagging.foldl
    (fun t c =>
      let r := t.channels.records.get c
      let t1 := t.count .shortChannels
      if r.handshake = .accepted then
        { t1 with channels := { t1.channels with records := t1.channels.records.set c { r with handshake := .short } } }
      else t1) s

/-- R128: the merger reports that a second stage has left no usable channel. -/
def State.noChannelReport (s : State) : State := s.securingNotice .confirm

/-- R128, R51, R56: the usable channels below the level leave as SHORT. When they are all of the usable set, B falling
to 0 and the merger's report are two notices of one cause; which the supervisor takes first is free (R88,
notes/assumptions/8.md). -/
def State.leaveLagging (s : State) (lagging : List Chan) : State :=
  let before := s.channels.derived
  let s1 := (s.makeShort lagging).rework
  if lagging.length = s.usableList.length then
    let s2 := { s1 with choices := s1.choices + 1 }
    if Config.mergerReportFirst s.choices then s2.noChannelReport.noticeSet before
    else (s2.noticeSet before).noChannelReport
  else s1.noticeSet before

/-- R128: stage 2 ends. -/
def State.endStage2 (s : State) : State :=
  let level := s.levelInForce.getD s.merger.confirmLevel
  let usable := s.usableList
  let lagging := usable.filter fun c => !s.channelBuilt level c
  let s1 := { s with merger := { s.merger with conf := .idle, stage := none } }
  if usable.isEmpty then s1.noChannelReport
  else if lagging.isEmpty then s1
  else s1.leaveLagging lagging

/-- BUILD_STAGE_1_EXPIRY (R128). -/
def execBuildStage1Expiry (s : State) : Host.Outcome State Fault Refusal :=
  .next (match s.merger.conf, s.expiring s.merger.stage with
         | .stage1, some t => (s.reach t).endStage1
         | _, _ => s)

/-- BUILD_STAGE_2_EXPIRY (R128). -/
def execBuildStage2Expiry (s : State) : Host.Outcome State Fault Refusal :=
  .next (match s.merger.conf, s.expiring s.merger.stage with
         | .stage2, some t => (s.reach t).endStage2
         | _, _ => s)

end Sys2Proof.Machine
end

