-- ==== Sys2Proof/Machine/Status.lean ====
section
/-! DEFINITION. The values a READ of STATUS, COUNTERS, CHECK-RESULTS and the channel records returns (R174). A part of an
absent context reads as absent, its timers as stopped (notes/assumptions/13.md). -/

namespace Sys2Proof.Machine

/-! ### Numbers of enumerations (notes/assumptions/12.md) -/

/-- FRESH 0, HELD 1, LOST 2. -/
def Age.number : Age → Nat
  | .fresh => 0
  | .held => 1
  | .lost => 2

/-- IN FORCE 0, SUSPENDED 1. -/
def TableState.number : TableState → Nat
  | .inForce => 0
  | .suspended => 1

/-- ACTIVE 0, PASSIVE 1, OFF-BUS 2. -/
def PortMode.number : PortMode → Nat
  | .active => 0
  | .passive => 1
  | .offBus => 2

/-- Kept sign: none 0, positive 1, negative 2. -/
def Sign.number : Sign → Nat
  | .none => 0
  | .positive => 1
  | .negative => 2

/-- ABSENT 0 to LOST 5. -/
def Handshake.number : Handshake → Nat
  | .absent => 0
  | .listening => 1
  | .accepted => 2
  | .short => 3
  | .fault => 4
  | .lost => 5

/-- UNCHECKED 0, PASSED 1, FAILED 2. -/
def CheckState.number : CheckState → Nat
  | .unchecked => 0
  | .passed => 1
  | .failed => 2

/-- PASS-UPHILL 0, PASS-DOWNHILL 1, FAIL 2. -/
def DriveOutcome.number : DriveOutcome → Nat
  | .passUphill => 0
  | .passDownhill => 1
  | .fail => 2

/-- Uphill direction: the list gives absent, forward, backward. -/
def Heading.number : Heading → Nat
  | .forward => 1
  | .backward => 2

/-- UPHILL 0, DOWNHILL 1. -/
def ReleaseDir.number : ReleaseDir → Nat
  | .uphill => 0
  | .downhill => 1

/-- EMPTY 0 to DONE 3. -/
def SlotState.number : SlotState → Nat
  | .empty => 0
  | .loaded => 1
  | .sending => 2
  | .done => 3

/-- SENT 0, FAILED 1. -/
def SlotOutcome.number : SlotOutcome → Nat
  | .sent => 0
  | .failed => 1

/-- Load order: the list gives absent, OLDER, NEWER. -/
def LoadOrder.number : LoadOrder → Nat
  | .older => 1
  | .newer => 2

/-- IDLE 0, STAGE-1 1, STAGE-2 2. -/
def ConfState.number : ConfState → Nat
  | .idle => 0
  | .stage1 => 1
  | .stage2 => 2

/-- IDLE 0, WAITING 1, CONFIRMED 2, OVERDUE 3. -/
def ParkConf.number : ParkConf → Nat
  | .idle => 0
  | .waiting => 1
  | .confirmed => 2
  | .overdue => 3

/-- Level under test: the list gives none, LOW, MEDIUM, HIGH. -/
def Level.number : Level → Nat
  | .low => 1
  | .medium => 2
  | .high => 3

/-- NONE 0, ENDED 1, ABORTED 2. -/
def LastRun.number : LastRun → Nat
  | .none => 0
  | .ended => 1
  | .aborted _ => 2

/-- DRIVER-DEMAND 0 to RESET 5. -/
def AbortCause.number : AbortCause → Nat
  | .driverDemand => 0
  | .park => 1
  | .movement => 2
  | .keyOff => 3
  | .request => 4
  | .reset => 5

/-- NONE 0, PASS 1, FAIL 2, NOT-RUN 3. -/
def ResultOutcome.number : ResultOutcome → Nat
  | .none => 0
  | .pass => 1
  | .fail => 2
  | .notRun => 3

/-- Pending cell operation: none 0, WRITE 1, ERASE 2. -/
def CellOp.number : CellOp → Nat
  | .none => 0
  | .write => 1
  | .erase => 2

/-- IDLE 0, LOADING 1, SAVING 2. -/
def Operation.number : Operation → Nat
  | .idle => 0
  | .loading => 1
  | .saving => 2

/-- NONE 0, COMPLETED 1, CUT 2. -/
def LastSave.number : LastSave → Nat
  | .none => 0
  | .completed => 1
  | .cut => 2

/-! ### Timers -/

/-- R174: the time left on a timer, as a value. -/
def State.leftWord (s : State) (t : Timer) : Word32 := natWord (Timer.left t s.now)

/-! ### STATUS, index by index (R174) -/

/-- Index 0: the hold supervisor. In a hold context whose reinforcement flag is absent the flag reads 0, as R174 has
flags read, and not as an absent value. DESIGN CHOICE, notes/assumptions/13.md. -/
def State.supStatus (s : State) : List Word32 :=
  let c := s.sup.ctx
  let rel := c.bind (·.release)
  [natWord s.sup.state.number, natWord s.sup.reason.number,
   optWord ((c.bind (·.uphill)).map Heading.number), optWord (c.map (·.step)), s.leftWord (c.bind (·.holdLimit)),
   optWord (c.map (·.entryP)), optWord (rel.map (·.pStart)), s.leftWord (rel.map (·.ramp)),
   optWord (rel.map (·.dir.number)), flagWord ((c.map (·.reinforced)).getD false), flagWord s.sup.handover,
   flagWord s.sup.autoPending]

/-- Index 1: the hold calculator. -/
def State.calcStatus (s : State) : List Word32 :=
  let r := s.calculator.record
  [natWord r.slopeS, natWord r.payload, natWord r.mass, natWord r.slopeLoad, natWord r.drumAllowance,
   natWord r.drumLoad, natWord r.load, natWord r.margin, natWord r.force, natWord r.b, natWord r.pRaw,
   natWord r.pLimit, natWord r.pHold, flagWord r.insufficient, flagWord r.valid,
   natWord s.calculator.lastOutcome.number, natWord s.calculator.lastForce]

/-- Index 2: the sample records. -/
def State.signalStatus (s : State) : List Word32 :=
  s.signals.records.toList.flatMap fun r => [intWord r.value, natWord r.age.number, flagWord r.updated]

/-- A signed value that may be absent. -/
def optIntWord (o : Option Int) : Word32 :=
  match o with
  | some i => intWord i
  | none => absentWord

/-- Index 3: the grade window and the reversal tracker. -/
def State.windowStatus (s : State) : List Word32 :=
  let w := s.signals.window
  ([0, 1, 2, 3, 4].map fun k => optIntWord w[k]?) ++
    [natWord w.length, optIntWord s.gf, natWord s.signals.keptSign.number, s.leftWord s.signals.reversal]

/-- Index 4: the channel block's derived values. -/
def State.channelStatus (s : State) : List Word32 :=
  let d := s.channels.derived
  [natWord (d.usable.c1.toNat + 2 * d.usable.c2.toNat + 4 * d.usable.c3.toNat + 8 * d.usable.c4.toNat),
   natWord d.b, optWord d.lowestMax]

/-- The seven fields of a wheel at index 5. The watched field, listed as yes or no, reads as a flag, yes 1 and no 0. DESIGN
CHOICE, notes/assumptions/12.md. -/
def State.wheelStatus (s : State) (w : Wheel) : List Word32 :=
  let t := s.creep.wheels.get w
  let e := s.sup.ctx.bind fun c => c.wheels.get w
  [flagWord t.watched, optWord t.last, s.leftWord t.rest.timer, flagWord t.still,
   optWord (e.bind (·.reference)), optWord (e.map (·.down)), optWord (e.map (·.up))]

/-- Index 5: the creep monitor. -/
def State.creepStatus (s : State) : List Word32 :=
  Wheel.all.flatMap s.wheelStatus ++ [flagWord s.creep.restHolds]

/-- The five fields of a slot at index 6. -/
def Slot.status (x : Slot) : List Word32 :=
  [natWord x.state.number, optWord (x.outcome.map SlotOutcome.number), optWord (x.order.map LoadOrder.number),
   optWord (x.frame.map fun f => ((byteAt f.data 5).extractLsb' 0 4).toNat),
   optWord (x.frame.map fun f => (byteAt f.data 4).toNat)]

/-- The last driver frame's fields at index 6. -/
def lastFrameStatus (f : Option LastFrame) : List Word32 :=
  match f with
  | some x => [x.id.word, wordFrom x.bytes 0, wordFrom x.bytes 4]
  | none => [absentWord, absentWord, absentWord]

/-- Index 6: the demand merger. -/
def State.mergerStatusWords (s : State) : List Word32 :=
  let m := s.merger
  let d := m.driver
  [natWord d.demands.c1, natWord d.demands.c2, natWord d.demands.c3, natWord d.demands.c4, natWord d.age.number,
   s.leftWord d.stale, s.leftWord d.loss] ++ lastFrameStatus d.last ++ m.slotA.status ++ m.slotB.status ++
  [natWord m.control.length, natWord m.conf.number, natWord m.confirmLevel, s.leftWord m.stage]

/-- Index 7: park control. -/
def State.parkStatusWords (s : State) : List Word32 :=
  [flagWord s.park.prq, flagWord s.park.holdInForce, natWord s.park.conf.number, s.leftWord s.park.timer]

/-- Index 8: the path check sequencer. -/
def State.pathStatusWords (s : State) : List Word32 :=
  let p := s.path
  [flagWord p.testing, natWord ((p.chan.map Chan.number).getD 0), natWord ((p.level.map Level.number).getD 0),
   natWord p.settle, s.leftWord p.timer, natWord p.lastRun.number,
   optWord (match p.lastRun with
            | .aborted c => some c.number
            | .none | .ended => none)]

/-- Index 9: the store. -/
def State.storeStatus (s : State) : List Word32 :=
  let st := s.store
  [flagWord st.marker, natWord st.pendingCell.number, natWord (if st.imageGood then 0 else 1), natWord st.op.number,
   natWord st.lastSave.number]

/-- Index 10: the port controllers and forward queues. -/
def State.portStatus (s : State) : List Word32 :=
  [natWord s.portV.mode.number, natWord s.portV.txErr, natWord s.portV.rxErr,
   natWord s.portB.mode.number, natWord s.portB.txErr, natWord s.portB.rxErr,
   natWord s.vToB.length, natWord s.bToV.length, flagWord s.shedding]

/-- Index 11: the four table states. -/
def State.tableStatus (s : State) : List Word32 :=
  [natWord s.route.state.number, natWord s.signals.state.number, natWord s.channels.state.number,
   natWord s.calculator.state.number]

/-- STATUS: a field, where the index holds it; indices 12 to 15 hold none (R174). -/
def State.readStatus (s : State) (index field : Nat) : Option Word32 :=
  match index with
  | 0 => s.supStatus[field]?
  | 1 => s.calcStatus[field]?
  | 2 => s.signalStatus[field]?
  | 3 => s.windowStatus[field]?
  | 4 => s.channelStatus[field]?
  | 5 => s.creepStatus[field]?
  | 6 => s.mergerStatusWords[field]?
  | 7 => s.parkStatusWords[field]?
  | 8 => s.pathStatusWords[field]?
  | 9 => s.storeStatus[field]?
  | 10 => s.portStatus[field]?
  | 11 => s.tableStatus[field]?
  | _ => none

/-! ### COUNTERS, CHECK-RESULTS, channel records -/

/-- A counter as a value: the count in bits 0 to 7, the marker in bit 8. DESIGN CHOICE, notes/assumptions/11.md. -/
def Counter.word (c : Counter) : Word32 := natWord (c.count.toNat + 256 * c.saturated.toNat)

/-- R174: a result record as a value. -/
def CheckResult.word (r : CheckResult) : Word32 :=
  natWord (r.outcome.number + 256 * r.pressure + 16777216 * r.updated.toNat)

/-- R174: an advert copy as a value. -/
def advertWord (a : Option Advert) : Word32 :=
  match a with
  | some x => natWord (x.channel.toNat + 256 * x.max.toNat + 65536 * x.liftable.toNat + 16777216 * x.revision.toNat)
  | none => absentWord

/-- Fields 5 to 14 of a channel: its record (section 3.1). -/
def State.recordStatus (s : State) (c : Chan) : List Word32 :=
  let r := s.channels.records.get c
  [natWord r.handshake.number, advertWord r.advert, natWord r.count, natWord r.pressure, flagWord r.fault,
   natWord r.age.number, s.leftWord r.stale, s.leftWord r.loss, natWord r.check.number, flagWord r.lostSinceRead]

/-- The channel an index of 1 to 4 names. -/
def chanOf (index : Nat) : Option Chan :=
  match index with
  | 1 => some .c1
  | 2 => some .c2
  | 3 => some .c3
  | 4 => some .c4
  | _ => none

/-- The level a field of CHECK-RESULTS names. -/
def levelOf (field : Nat) : Option Level :=
  match field with
  | 0 => some .low
  | 1 => some .medium
  | 2 => some .high
  | _ => none

/-- The counter a field of COUNTERS names (R22's list). -/
def counterOf (field : Nat) : Option CounterName := CounterName.all[field]?

/-- The entry an index of a table names. -/
def indexOf (n : Nat) (index : Nat) : Option (Fin n) := if h : index < n then some ⟨index, h⟩ else none

/-- A channel's field: settings 0 to 4, record 5 to 14. -/
def State.readChannel (s : State) (c : Chan) (field : Nat) : Option Word32 :=
  if field < 5 then (s.work.channels.get c).read field else (s.recordStatus c)[field - 5]?

/-- R157, R158: the value of a field; none where the index is outside the group's range or the group does not hold the
field. -/
def State.readField (s : State) (g : Group) (index field : Nat) : Option Word32 :=
  match g with
  | .settings => if index = 0 then s.work.settings.read field else none
  | .route => (indexOf 96 index).bind fun k => (s.work.routes.get k).read field
  | .signal => (indexOf 20 index).bind fun k => (s.work.signals.get k).read field
  | .gradeCurve => (indexOf 8 index).bind fun k => (s.work.gradeCurve.get k).read field
  | .drumCurve => (indexOf 5 index).bind fun k => (s.work.drumCurve.get k).read field
  | .channel => (chanOf index).bind fun c => s.readChannel c field
  | .status => s.readStatus index field
  | .counters => if index = 0 then (counterOf field).map fun n => (s.counters.get n).word else none
  | .checkResults =>
    (chanOf index).bind fun c => (levelOf field).map fun l => ((s.path.results.get c).get l).word

end Sys2Proof.Machine
end

