-- ==== Sys2Proof/Machine/Management.lean ====
section
/-! DEFINITION. The management responder: the request queue, judging and serving requests, what a taken write or command
does, and the management rows of the table (chapters 10 and 12). -/

namespace Sys2Proof.Machine

/-! ### What a taken write does -/

/-- R13, R82: a ROUTE write is followed by the check of the table. -/
def State.wroteRoute (s : State) : State := s.checkRoutes.noticeConditions

/-- R25, R35, R37: what a write to an entry resets at once: its sample record, the grade window of a GRADE entry, the
reversal tracker of a DRUM_SPEED entry. -/
def State.resetEntry (s : State) (k : Fin 20) (grade drum : Bool) : State :=
  let g := s.signals
  { s with signals := { g with
      records := g.records.set k SampleRecord.reset, window := if grade then [] else g.window,
      keptSign := if drum then .none else g.keptSign, reversal := if drum then none else g.reversal } }

/-- R25, R24, R54, R82, R159: a SIGNAL write, with the entry's role before and after it. The resets, the check of the
table and what the channel block and the creep monitor work out from it come first, then the notices: a SUSPENDED
table, a changed usable set, the change of age of a record that was not LOST (notes/assumptions/21.md), the emptied
window, the end of a running reversal window, the watched wheels, and the unavailable conditions. -/
def State.wroteSignal (s : State) (k : Fin 20) (old new : Role) : State :=
  let grade := decide (old = .grade ∨ new = .grade)
  let drum := decide (old = .drumSpeed ∨ new = .drumSpeed)
  let r := s.signals.records.get k
  let s1 := (s.resetEntry k grade drum).checkSignals.rework.trackWheels.noticeSuspended.noticeSet s.channels.derived
  let s2 := if r.age = .lost then s1 else s1.notify (s.signals.bindings.get k) .ageing r SampleRecord.reset
  let s3 := if grade then s2.evaluate.testEntry else s2
  let s4 := if drum && s.signals.reversal.isSome then s3.evaluate else s3
  (s4.tellWheels s.creep).noticeConditions

/-- R40, R41, R54, R56, R82: a CHANNEL write. -/
def State.wroteChannel (s : State) (c : Chan) (field : Nat) : State :=
  let s1 := if field ≤ 2 then s.restartChannel c else s
  (s1.checkChannels.rework.noticeSuspended.noticeSet s.channels.derived).noticeConditions

/-- R62, R60, R82: a curve write. -/
def State.wroteCurve (s : State) : State := s.checkCurves.noticeSuspended.evaluate.noticeConditions

/-- R40, R76, R103: what a taken SETTINGS write does at once; every other setting acts at its next use. -/
def State.wroteSetting (s : State) (field : Nat) : State :=
  match field with
  | 7 => s.reworkNotice
  | 9 => s.payloadMax.evaluate
  | 8 | 10 | 11 | 12 | 13 | 14 | 15 | 16 | 17 => s.evaluate
  | 21 | 22 | 23 | 24 | 25 => s.testHold
  | _ => s

/-- The working copies replaced. -/
def State.setWork (s : State) (w : Working) : State := { s with work := w }

/-- R157: the item that a WRITE of a value makes of an item: what the field's range and its cross-field checks let it
become or, where they refuse the value and the field holds it already, the item as it is. None is BAD-VALUE. -/
def takenOrHeld {α : Type} (held : Option Word32) (v : Word32) (item : α) (written : Option α) : Option α :=
  written.or (if held = some v then some item else none)

/-- R157, R159: a write to a field, with what follows it at once; none where the value is refused with BAD-VALUE. Of a
field that has no range of values to write, the record fields of a channel, the value held alone is taken
(notes/assumptions/14.md). -/
def State.writeField (s : State) (g : Group) (index field : Nat) (v : Word32) : Option State :=
  let w := s.work
  let held := s.readField g index field
  match g with
  | .settings => (takenOrHeld held v w.settings (w.settings.write field v)).map fun x =>
      (s.setWork { w with settings := x }).wroteSetting field
  | .route =>
    (indexOf 96 index).bind fun k =>
      (takenOrHeld held v (w.routes.get k) ((w.routes.get k).write field v)).map fun x =>
        (s.setWork { w with routes := w.routes.set k x }).wroteRoute
  | .signal =>
    (indexOf 20 index).bind fun k =>
      (takenOrHeld held v (w.signals.get k) ((w.signals.get k).write field v)).map fun x =>
        (s.setWork { w with signals := w.signals.set k x }).wroteSignal k (w.signals.get k).role x.role
  | .gradeCurve =>
    (indexOf 8 index).bind fun k =>
      (takenOrHeld held v (w.gradeCurve.get k) ((w.gradeCurve.get k).write 450 6000 field v)).map fun x =>
        (s.setWork { w with gradeCurve := w.gradeCurve.set k x }).wroteCurve
  | .drumCurve =>
    (indexOf 5 index).bind fun k =>
      (takenOrHeld held v (w.drumCurve.get k) ((w.drumCurve.get k).write 200 400 field v)).map fun x =>
        (s.setWork { w with drumCurve := w.drumCurve.set k x }).wroteCurve
  | .channel =>
    (chanOf index).bind fun c =>
      (takenOrHeld held v (w.channels.get c) ((w.channels.get c).write field v)).map fun x =>
        (s.setWork { w with channels := w.channels.set c x }).wroteChannel c field
  | .status | .counters | .checkResults => none

/-! ### Judging (R157) -/

/-- A served request: the state after its change, the result and the value of its reply, and whether it sets restart
pending (R161). -/
structure Served where
  state : State
  result : Result
  value : Word32
  restart : Bool
  deriving DecidableEq, Repr

/-- A request answered with a result other than OK: nothing changes, the value is 0 (R158). -/
def State.refuse (s : State) (r : Result) : Served := ⟨s, r, 0#32, false⟩

/-- A request answered OK. -/
def State.answer (s : State) (v : Word32) : Served := ⟨s, .ok, v, false⟩

/-- R157 test 3: the supervisor's state, a RELOAD or a SAVE stands against WRITE and RELOAD. -/
def State.busy (s : State) : Bool :=
  (match s.sup.state with
   | .unavailable | .standby => false
   | .checking | .holding | .releasing | .securing | .secured => true) || !decide (s.store.op = .idle)

/-- R157 test 2: the groups that take no WRITE. A channel's record fields are in no such group: no value fits them, so a
WRITE to one meets test 4 (notes/assumptions/14.md). -/
def Group.readOnly (g : Group) : Bool :=
  match g with
  | .status | .counters | .checkResults => true
  | .settings | .route | .signal | .gradeCurve | .drumCurve | .channel => false

/-- The field of a channel's lost-since-read marker (R174). -/
def lostField : Nat := 14

/-- R50: a channel's lost-since-read marker is cleared. -/
def State.clearLost (s : State) (c : Chan) : State :=
  s.setChannel c { s.channels.records.get c with lostSinceRead := false }

/-- R151: a result record's updated marker is cleared. -/
def State.clearResult (s : State) (c : Chan) (l : Level) : State :=
  let r := (s.path.results.get c).get l
  { s with path := { s.path with
      results := s.path.results.set c ((s.path.results.get c).set l { r with updated := false }) } }

/-- R21: a counter is cleared. -/
def State.clearCounter (s : State) (n : CounterName) : State := { s with counters := s.counters.set n Counter.zero }

/-- R158: what a READ of a field leaves: only a lost-since-read marker is cleared by it. -/
def State.afterRead (s : State) (g : Group) (index field : Nat) : State :=
  match g with
  | .channel =>
    if field = lostField then
      match chanOf index with
      | some c => s.clearLost c
      | none => s
    else s
  | .settings | .route | .signal | .gradeCurve | .drumCurve | .status | .counters | .checkResults => s

/-- R158: the clearing part of a field; none for a field that has none. -/
def State.clearField (s : State) (g : Group) (index field : Nat) : Option State :=
  match g with
  | .counters => (counterOf field).map s.clearCounter
  | .checkResults => (chanOf index).bind fun c => (levelOf field).map (s.clearResult c)
  | .channel => if field = lostField then (chanOf index).map s.clearLost else none
  | .settings | .route | .signal | .gradeCurve | .drumCurve | .status => none

/-- R157, R158: a READ. -/
def State.judgeRead (s : State) (g : Group) (index field : Nat) : Served :=
  match s.readField g index field with
  | none => s.refuse .badItem
  | some v => (s.afterRead g index field).answer v

/-- R157, R159: a WRITE. -/
def State.judgeWrite (s : State) (g : Group) (index field : Nat) (v : Word32) : Served :=
  match s.readField g index field with
  | none => s.refuse .badItem
  | some old =>
    if g.readOnly then s.refuse .denied
    else if s.busy then ⟨s, .busy, old, false⟩
    else
      match s.writeField g index field v with
      | none => ⟨s, .badValue, old, false⟩
      | some t => t.answer v

/-- R157, R158: a READ-CLEAR. -/
def State.judgeReadClear (s : State) (g : Group) (index field : Nat) : Served :=
  match s.readField g index field with
  | none => s.refuse .badItem
  | some v =>
    match s.clearField g index field with
    | none => s.refuse .denied
    | some t => t.answer v

/-! ### Commands (R160, R161) -/

/-- START-CHECK. -/
def State.judgeStartCheck (s : State) (v : Word32) : Served :=
  match s.sup.state with
  | .checking | .holding | .releasing | .securing | .secured => s.refuse .busy
  | .unavailable | .standby => if s.checkPreconditions then s.enterChecking.answer v else s.refuse .denied

/-- ABORT-CHECK. -/
def State.judgeAbortCheck (s : State) (v : Word32) : Served :=
  if s.path.testing then (s.abortCheck .request).answer v else s.refuse .denied

/-- CLEAR-SAFE-START. -/
def State.judgeClearSafeStart (s : State) (v : Word32) : Served := (s.requestMarker .erase).answer v

/-- SAVE. -/
def State.judgeSave (s : State) (v : Word32) : Served :=
  if s.store.op = .idle then s.beginSave.answer v else s.refuse .busy

/-- RELOAD. -/
def State.judgeReload (s : State) (v : Word32) : Served :=
  if s.busy then s.refuse .busy
  else if s.parkAppliedFresh then s.beginReload.answer v
  else s.refuse .denied

/-- The time from a RESTART to its warm reset, in ms (R161). -/
def restartDelay : Nat := 100

/-- RESTART: the first sets restart pending and starts the restart timer; a further one changes nothing. -/
def State.judgeRestart (s : State) (v : Word32) : Served :=
  if s.resp.restartPending then s.answer v
  else
    let t := { s with resp := { s.resp with restartPending := true, restartTimer := s.timer restartDelay } }
    ⟨t, .ok, v, true⟩

/-- R160: a COMMAND; its group and index are not tested. Its value is echoed by an OK; a refused one returns 0, as R158 has
it for any result other than OK, where R160 has the value of a COMMAND echoed. DESIGN CHOICE, notes/assumptions/34.md. -/
def State.judgeCommand (s : State) (c : Command) (v : Word32) : Served :=
  match c with
  | .startCheck => s.judgeStartCheck v
  | .abortCheck => s.judgeAbortCheck v
  | .clearSafeStart => s.judgeClearSafeStart v
  | .save => s.judgeSave v
  | .reload => s.judgeReload v
  | .restart => s.judgeRestart v

/-- The request codes. -/
inductive Code where
  | read | write | readClear | command
  deriving DecidableEq, Repr

/-- The code a byte names. -/
def Code.ofByte (b : Byte) : Option Code :=
  if b = codeRead then some .read
  else if b = codeWrite then some .write
  else if b = codeReadClear then some .readClear
  else if b = codeCommand then some .command
  else none

/-- R157: a request is judged by the first test it meets. -/
def State.judgeRequest (s : State) (r : Request) : Served :=
  if !r.whole then s.refuse .badItem
  else
    let i := r.index.toNat
    let f := r.field.toNat
    match Code.ofByte r.code, Group.ofByte r.group, Command.ofByte r.field with
    | some .read, some g, _ => s.judgeRead g i f
    | some .write, some g, _ => s.judgeWrite g i f r.value
    | some .readClear, some g, _ => s.judgeReadClear g i f
    | some .command, _, some c => s.judgeCommand c r.value
    | _, _, _ => s.refuse .badItem

/-! ### Serving (R155, R156) -/

/-- R156: the head request is served, its reply put at the tail. -/
def State.serveHead (s : State) : State :=
  match s.resp.requests with
  | [] => s
  | f :: rest =>
    let r := frameRequest f
    let d := s.judgeRequest r
    let t := d.state
    let reply : Reply := ⟨replyFrame t.work.settings.replyId r d.result d.value, d.restart⟩
    { t with resp := { t.resp with requests := rest, replies := t.resp.replies ++ [reply] } }

/-- R156: a request can be served. -/
def State.canServe (s : State) : Bool := !s.resp.requests.isEmpty && decide (s.resp.replies.length < shortSize)

/-- R156: requests are served while the reply queue has room, at most `n` of them. -/
def State.serveUpTo : Nat → State → State
  | 0, s => s
  | n + 1, s => if s.canServe then State.serveUpTo n s.serveHead else s

/-- R156: every request that can be served is. -/
def State.serve (s : State) : State := State.serveUpTo s.resp.requests.length s

/-- R155: a request reaches the responder. -/
def State.takeRequest (s : State) (f : Frame) : State :=
  if shortSize ≤ s.resp.requests.length then s.count .managementDrops
  else { s with resp := { s.resp with requests := s.resp.requests ++ [f] } }.serve

/-! ### The management rows: a request reaches the responder (notes/assumptions/6.md) -/

/-- R162: requests reach the part: it runs, and Port V is not OFF-BUS. -/
def State.hearsRequests (s : State) : Bool := s.running && s.portV.onBus

/-- A request with these fields is handed to the responder, while requests reach the part. -/
def State.requestRow (s : State) (code group index field : Byte) (value : Word32) : State :=
  if s.hearsRequests then s.takeRequest (requestFrame s.work.settings.requestId code group index field value) else s

/-- A command is handed to the responder. -/
def State.commandRow (s : State) (c : Command) : State := s.requestRow codeCommand 0#8 0#8 c.byte 0#32

/-- READ (R158). -/
def execRead (group index field : Byte) (s : State) : Host.Outcome State Fault Refusal :=
  .next (s.requestRow codeRead group index field 0#32)

/-- READ_LOST_SINCE_READ (R50): a READ of field 14 of CHANNEL. -/
def execReadLostSinceRead (index : Byte) (s : State) : Host.Outcome State Fault Refusal :=
  .next (s.requestRow codeRead Group.channel.byte index (byteOf lostField) 0#32)

/-- READ_CLEAR_COUNTER (R21, R158). -/
def execReadClearCounter (field : Byte) (s : State) : Host.Outcome State Fault Refusal :=
  .next (s.requestRow codeReadClear Group.counters.byte 0#8 field 0#32)

/-- READ_CLEAR_CHECK_RESULT (R151, R158). -/
def execReadClearCheckResult (index field : Byte) (s : State) : Host.Outcome State Fault Refusal :=
  .next (s.requestRow codeReadClear Group.checkResults.byte index field 0#32)

/-- WRITE_ROUTE_ENTRY (R13, R159). -/
def execWriteRouteEntry (index field : Byte) (value : Word32) (s : State) : Host.Outcome State Fault Refusal :=
  .next (s.requestRow codeWrite Group.route.byte index field value)

/-- WRITE_SIGNAL_ENTRY (R25, R159). -/
def execWriteSignalEntry (index field : Byte) (value : Word32) (s : State) : Host.Outcome State Fault Refusal :=
  .next (s.requestRow codeWrite Group.signal.byte index field value)

/-- WRITE_CHANNEL_ENTRY (R40, R159). -/
def execWriteChannelEntry (index field : Byte) (value : Word32) (s : State) : Host.Outcome State Fault Refusal :=
  .next (s.requestRow codeWrite Group.channel.byte index field value)

/-- The item group of a curve. -/
def curveGroup : Curve → Group
  | .grade => .gradeCurve
  | .drum => .drumCurve

/-- WRITE_CURVE_BREAKPOINT (R62, R159). -/
def execWriteCurveBreakpoint (curve : Curve) (index field : Byte) (value : Word32) (s : State) :
    Host.Outcome State Fault Refusal :=
  .next (s.requestRow codeWrite (curveGroup curve).byte index field value)

/-- WRITE_SETTING (R159). -/
def execWriteSetting (field : Byte) (value : Word32) (s : State) : Host.Outcome State Fault Refusal :=
  .next (s.requestRow codeWrite Group.settings.byte 0#8 field value)

/-- START_CHECK (R160). -/
def execStartCheck (s : State) : Host.Outcome State Fault Refusal := .next (s.commandRow .startCheck)

/-- ABORT_CHECK (R160). -/
def execAbortCheck (s : State) : Host.Outcome State Fault Refusal := .next (s.commandRow .abortCheck)

/-- CLEAR_SAFE_START (R160, R169). -/
def execClearSafeStart (s : State) : Host.Outcome State Fault Refusal := .next (s.commandRow .clearSafeStart)

/-- SAVE (R160, R168). -/
def execSave (s : State) : Host.Outcome State Fault Refusal := .next (s.commandRow .save)

/-- RELOAD (R160, R167). -/
def execReload (s : State) : Host.Outcome State Fault Refusal := .next (s.commandRow .reload)

/-- RESTART (R161). -/
def execRestart (s : State) : Host.Outcome State Fault Refusal := .next (s.commandRow .restart)

/-- CAB_STATUS_PERIOD_EXPIRY (R163). -/
def execCabStatusPeriodExpiry (s : State) : Host.Outcome State Fault Refusal :=
  .next (match s.expiring s.resp.period with
         | none => s
         | some r => (s.reach r).makeCab)

end Sys2Proof.Machine
end

