-- ==== Sys2Proof/Machine/Ports.lean ====
section
/-! DEFINITION. The frame path: port controllers, route classifier, arbiters, and what SENT and FAILED do at each source
(chapter 1, R123, R125, R162, R164). -/

namespace Sys2Proof.Machine

/-! ### Classification (R8 to R14) -/

/-- R12: the default action of a port. -/
def Settings.defaultAction (set : Settings) : Port → DefaultAction
  | .v => set.portVDefault
  | .b => set.portBDefault

/-- R12: a frame that matches nothing. -/
def State.defaultFrame (s : State) (p : Port) (f : Frame) : State :=
  match s.work.settings.defaultAction p with
  | .pass => s.forward p f false
  | .drop => s

/-- R14, second test: the frame is a Port V frame on the request identifier in force, which is the setting as it stands,
one written after a bad load too. DESIGN CHOICE, notes/assumptions/36.md. -/
def State.isRequest (s : State) (p : Port) (f : Frame) : Bool :=
  decide (p = .v) && decide (f.id = s.work.settings.requestId)

/-- R14: a frame on the request identifier; a remote one is discarded. -/
def State.requestFrame (s : State) (f : Frame) : State := if f.remote then s else s.takeRequest f

/-- R14: a frame classified while the route table is SUSPENDED. -/
def State.classifySuspended (s : State) (p : Port) (f : Frame) : State :=
  if p = .v ∧ s.route.mergeId = some f.id then (if f.remote then s else s.demandTaken f)
  else if s.isRequest p f then s.requestFrame f
  else s.defaultFrame p f

/-- R9: what an action forwards: PASS, PASS-SHED, and CHANNEL with also-pass. -/
def State.offerPart (s : State) (e : RouteEntry) (p : Port) (f : Frame) : State :=
  match e.action with
  | .pass => s.forward p f false
  | .passShed => s.forward p f true
  | .channel => if e.alsoPass then s.forward p f false else s
  | .take | .merge | .manage => s

/-- R9, R11: the block an action hands a data frame to. -/
def State.handPart (s : State) (e : RouteEntry) (f : Frame) : State :=
  match e.action with
  | .merge => s.demandTaken f
  | .channel => s.channelFrame f
  | .manage => s.takeRequest f
  | .pass | .passShed | .take => s

/-- R9, R10: a frame that matches an entry: it is forwarded, gives its signals, and is handed over, in that order
(notes/assumptions/7.md). A remote frame is only forwarded. -/
def State.matched (s : State) (e : RouteEntry) (p : Port) (f : Frame) : State :=
  if f.remote then s.offerPart e p f
  else ((s.offerPart e p f).extractAll f e.extract).handPart e f

/-- R8: the lowest-index matching entry. -/
def State.matchEntry (s : State) (p : Port) (f : Frame) : Option RouteEntry :=
  s.work.routes.toList.find? fun e => e.matches p f

/-- R8, R12, R14: an arriving frame is classified. -/
def State.classify (s : State) (p : Port) (f : Frame) : State :=
  match s.route.state with
  | .suspended => s.classifySuspended p f
  | .inForce =>
    match s.matchEntry p f with
    | some e => s.matched e p f
    | none =>
      if s.isRequest p f && !routesManage s.work.routes then s.requestFrame f else s.defaultFrame p f

/-! ### Error counts (R3, R4) -/

/-- R3: a frame taken. -/
def PortCtl.taken (c : PortCtl) : PortCtl := { c with rxErr := c.rxErr - 1 }.restate

/-- R3: an error while receiving. -/
def PortCtl.receiveError (c : PortCtl) : PortCtl := { c with rxErr := min (c.rxErr + 1) 127 }.restate

/-- R3: an error while transmitting that does not pass 255. -/
def PortCtl.transmitError (c : PortCtl) : PortCtl := { c with txErr := c.txErr + 8 }.restate

/-- R2, R3: a frame sent. -/
def PortCtl.sent (c : PortCtl) : PortCtl := { c with txErr := c.txErr - 1, attempt := none }.restate

/-- R5: OFF-BUS is entered. The transmit error count becomes 255, a count of 248 to 254 too: R5 has it stay at 255, where
R3 has the rise that would pass 255 not raise it. DESIGN CHOICE, notes/assumptions/35.md. -/
def PortCtl.busOff (c : PortCtl) : PortCtl := { c with txErr := 255, recovery := 0, mode := .offBus, attempt := none }

/-- The bus-off event counter of a port. -/
def busOffCounter : Port → CounterName
  | .v => .busOffV
  | .b => .busOffB

/-! ### SENT and FAILED at the sources -/

/-- R164: the attempt of the cab status frame has ended, either way. -/
def State.cabEnded (s : State) : State :=
  let s1 := { s with resp := { s.resp with cab := .empty, renew := false } }
  if s.resp.renew then s1.makeCab else s1

/-- R162, R161, R156: the head reply has been sent. -/
def State.replySent (s : State) : State :=
  match s.resp.replies with
  | [] => s
  | r :: rest =>
    if r.restart then s.warmReset else { s with resp := { s.resp with replies := rest } }.serve

/-- R162, R161: the head reply's attempt has failed. -/
def State.replyFailed (s : State) : State :=
  match s.resp.replies with
  | [] => s
  | r :: _ => if r.restart then s.warmReset else s

/-- The source is told SENT (R2, R17, R123, R125, R162, R164). -/
def State.tellSent (s : State) (src : Source) : State :=
  match src with
  | .slot n => { s with merger := s.merger.finishSlot n .sent }
  | .control => { s with merger := { s.merger with control := s.merger.control.tail } }
  | .vToB => s.removeVToB
  | .reply => s.replySent
  | .cab => s.cabEnded
  | .bToV => { s with bToV := s.bToV.tail }

/-- The source is told FAILED (R2, R17, R123, R125, R162, R164). -/
def State.tellFailed (s : State) (src : Source) : State :=
  match src with
  | .slot _ | .control => { s with merger := s.merger.failed src }
  | .vToB | .bToV => s
  | .reply => s.replyFailed
  | .cab => s.cabEnded

/-- R5: a port enters OFF-BUS; Port B's entry is reported to the supervisor. The source is told FAILED before the
supervisor takes the report, so a frame made on entry to SECURING finds the slot DONE. DESIGN CHOICE,
notes/assumptions/26.md. -/
def State.enterBusOff (s : State) (p : Port) : State :=
  let c := s.port p
  let s1 := (s.setPort p c.busOff).count (busOffCounter p)
  let s2 := match c.attempt with
            | some a => s1.tellFailed a.source
            | none => s1
  match p with
  | .v => s2
  | .b => s2.securingNotice .portBOff

/-! ### Arbiters (R19, R20) -/

/-- R19: Port B's arbiter. -/
def State.arbiterB (s : State) : Option Attempt :=
  match s.merger.readySlot with
  | some n => (s.merger.slot n).frame.map fun f => ⟨.slot n, f⟩
  | none =>
    match s.merger.control, s.vToB with
    | f :: _, _ => some ⟨.control, f⟩
    | [], f :: _ => some ⟨.vToB, f⟩
    | [], [] => none

/-- R20: Port V's arbiter. -/
def State.arbiterV (s : State) : Option Attempt :=
  match s.resp.replies, s.resp.cab with
  | r :: _, _ => some ⟨.reply, r.frame⟩
  | [], .waiting f => some ⟨.cab, f⟩
  | [], .empty | [], .sending _ => s.bToV.head?.map fun f => ⟨.bToV, f⟩

/-- The arbiter of a port. -/
def State.arbiter (s : State) : Port → Option Attempt
  | .v => s.arbiterV
  | .b => s.arbiterB

/-- R19, R123, R164: what a choice does at its source: a slot or the cab status slot moves to SENDING. -/
def State.chosen (s : State) (a : Attempt) : State :=
  match a.source with
  | .slot n =>
    { s with merger := s.merger.setSlot n { s.merger.slot n with state := .sending, discard := none } }
  | .cab => { s with resp := { s.resp with cab := .sending a.frame } }
  | .control | .vToB | .reply | .bToV => s

/-- R2: the frame the arbiter gives becomes the frame in attempt. -/
def State.startAttempt (s : State) (p : Port) : State :=
  match s.arbiter p with
  | none => s
  | some a => (s.setPort p { s.port p with attempt := some a }).chosen a

/-! ### The commands -/

/-- FRAME_RECEIVED (R1): the frame is taken and classified. -/
def execFrameReceived (p : Port) (f : Frame) (s : State) : Host.Outcome State Fault Refusal :=
  .next (if s.running && (s.port p).onBus then (s.setPort p (s.port p).taken).classify p f else s)

/-- RECEIVE_ERROR (R3). -/
def execReceiveError (p : Port) (s : State) : Host.Outcome State Fault Refusal :=
  .next (if s.awake && (s.port p).onBus then s.setPort p (s.port p).receiveError else s)

/-- TRANSMIT_ERROR (R3, R5). -/
def execTransmitError (p : Port) (s : State) : Host.Outcome State Fault Refusal :=
  .next (if s.awake && (s.port p).onBus then
           (if 255 < (s.port p).txErr + 8 then s.enterBusOff p else s.setPort p (s.port p).transmitError)
         else s)

/-- TRANSMIT_ATTEMPT_START (R2, R19, R20). -/
def execTransmitAttemptStart (p : Port) (s : State) : Host.Outcome State Fault Refusal :=
  .next (if s.running && (s.port p).onBus && (s.port p).attempt.isNone then s.startAttempt p else s)

/-- FRAME_SENT (R2). -/
def execFrameSent (p : Port) (s : State) : Host.Outcome State Fault Refusal :=
  .next (match (s.port p).attempt with
         | none => s
         | some a => if s.running then (s.setPort p (s.port p).sent).tellSent a.source else s)

/-- R6: a port recovers; Port B's recovery is reported to the supervisor. -/
def State.recover (s : State) (p : Port) : State :=
  let s1 := s.setPort p { s.port p with txErr := 0, rxErr := 0, recovery := 0, mode := .active }
  match p with
  | .v => s1
  | .b => s1.testEntry

/-- The occurrences of 11 recessive bits a recovery takes (R6). -/
def recoveryLimit : Nat := 128

/-- RECESSIVE_SEQUENCE (R6). -/
def execRecessiveSequence (p : Port) (s : State) : Host.Outcome State Fault Refusal :=
  .next (if s.awake && !(s.port p).onBus then
           (if recoveryLimit ≤ (s.port p).recovery + 1 then s.recover p
            else s.setPort p { s.port p with recovery := (s.port p).recovery + 1 })
         else s)

end Sys2Proof.Machine
end

