-- ==== Sys2Proof/Machine/Dispatch.lean ====
section
/-! DEFINITION. One arm per command, each a call of its meaning. -/

namespace Sys2Proof.Machine

def exec (i : Instr) (s : State) : Host.Outcome State Fault Refusal :=
  match i with
  | .powerOnReset => Sys2Proof.Machine.execPowerOnReset s
  | .powerLoss => Sys2Proof.Machine.execPowerLoss s
  | .warmReset => Sys2Proof.Machine.execWarmReset s
  | .keyFall => Sys2Proof.Machine.execKeyFall s
  | .keyRise => Sys2Proof.Machine.execKeyRise s
  | .wake => Sys2Proof.Machine.execWake s
  | .frameReceived port frame => Sys2Proof.Machine.execFrameReceived port frame s
  | .receiveError port => Sys2Proof.Machine.execReceiveError port s
  | .transmitError port => Sys2Proof.Machine.execTransmitError port s
  | .transmitAttemptStart port => Sys2Proof.Machine.execTransmitAttemptStart port s
  | .frameSent port => Sys2Proof.Machine.execFrameSent port s
  | .recessiveSequence port => Sys2Proof.Machine.execRecessiveSequence port s
  | .staleTimerExpiry signal => Sys2Proof.Machine.execStaleTimerExpiry signal s
  | .lossTimerExpiry signal => Sys2Proof.Machine.execLossTimerExpiry signal s
  | .reversalWindowExpiry => Sys2Proof.Machine.execReversalWindowExpiry s
  | .statusStaleExpiry chan => Sys2Proof.Machine.execStatusStaleExpiry chan s
  | .statusLossExpiry chan => Sys2Proof.Machine.execStatusLossExpiry chan s
  | .restTimerExpiry wheel => Sys2Proof.Machine.execRestTimerExpiry wheel s
  | .holdLimitExpiry => Sys2Proof.Machine.execHoldLimitExpiry s
  | .rampTimerExpiry => Sys2Proof.Machine.execRampTimerExpiry s
  | .parkConfirmExpiry => Sys2Proof.Machine.execParkConfirmExpiry s
  | .driverDemandStaleExpiry => Sys2Proof.Machine.execDriverDemandStaleExpiry s
  | .driverDemandLossExpiry => Sys2Proof.Machine.execDriverDemandLossExpiry s
  | .refreshTimerExpiry => Sys2Proof.Machine.execRefreshTimerExpiry s
  | .slotDiscardExpiry slot => Sys2Proof.Machine.execSlotDiscardExpiry slot s
  | .buildStage1Expiry => Sys2Proof.Machine.execBuildStage1Expiry s
  | .buildStage2Expiry => Sys2Proof.Machine.execBuildStage2Expiry s
  | .levelTimerExpiry => Sys2Proof.Machine.execLevelTimerExpiry s
  | .cabStatusPeriodExpiry => Sys2Proof.Machine.execCabStatusPeriodExpiry s
  | .restartTimerExpiry => Sys2Proof.Machine.execRestartTimerExpiry s
  | .sleepDelayExpiry => Sys2Proof.Machine.execSleepDelayExpiry s
  | .loadEnd => Sys2Proof.Machine.execLoadEnd s
  | .saveComplete => Sys2Proof.Machine.execSaveComplete s
  | .read group index field => Sys2Proof.Machine.execRead group index field s
  | .readLostSinceRead index => Sys2Proof.Machine.execReadLostSinceRead index s
  | .readClearCounter field => Sys2Proof.Machine.execReadClearCounter field s
  | .readClearCheckResult index field => Sys2Proof.Machine.execReadClearCheckResult index field s
  | .writeRouteEntry index field value => Sys2Proof.Machine.execWriteRouteEntry index field value s
  | .writeSignalEntry index field value => Sys2Proof.Machine.execWriteSignalEntry index field value s
  | .writeChannelEntry index field value => Sys2Proof.Machine.execWriteChannelEntry index field value s
  | .writeCurveBreakpoint curve index field value => Sys2Proof.Machine.execWriteCurveBreakpoint curve index field value s
  | .writeSetting field value => Sys2Proof.Machine.execWriteSetting field value s
  | .startCheck => Sys2Proof.Machine.execStartCheck s
  | .abortCheck => Sys2Proof.Machine.execAbortCheck s
  | .clearSafeStart => Sys2Proof.Machine.execClearSafeStart s
  | .save => Sys2Proof.Machine.execSave s
  | .reload => Sys2Proof.Machine.execReload s
  | .restart => Sys2Proof.Machine.execRestart s

end Sys2Proof.Machine
end

