-- ==== Sys2Proof/Safety.lean ====
section
/-! DEFINITION. What a safe state of the part is: the sizes the spec sets for queues and counts, and the laws that tie the
supervisor's state to the hold context, the PRQ line, the safe-start marker and the path check. -/

namespace Sys2Proof.Machine

/-- The ranges of a port controller (section 1.1). -/
structure PortCtl.Bounded (c : PortCtl) : Prop where
  txErr : c.txErr ≤ 255
  rxErr : c.rxErr ≤ 127
  recovery : c.recovery < recoveryLimit

/-- The sizes of the queues, the window and the counts (R15, R34, R3, R6, R125, R155, R156, R146). -/
structure State.Bounded (s : State) : Prop where
  portV : s.portV.Bounded
  portB : s.portB.Bounded
  vToB : s.vToB.length ≤ forwardSize
  bToV : s.bToV.length ≤ forwardSize
  control : s.merger.control.length ≤ shortSize
  requests : s.resp.requests.length ≤ shortSize
  replies : s.resp.replies.length ≤ shortSize
  window : s.signals.window.length ≤ windowSize
  settle : s.path.settle ≤ 3

/-- The states in which PRQ may be deasserted (R131): all but SECURING and SECURED. -/
def SupState.prq : SupState → Bool
  | .securing | .secured => true
  | .unavailable | .standby | .checking | .holding | .releasing => false

/-- The states that the safe-start marker forbids (R83). -/
def SupState.markerFree : SupState → Bool
  | .standby | .checking | .holding | .releasing => true
  | .unavailable | .securing | .secured => false

/-- The states in which the sleep delay timer may run and the part may sleep (R171). -/
def SupState.mayRest : SupState → Bool
  | .unavailable | .standby | .secured => true
  | .checking | .holding | .releasing | .securing => false

/-- Where the spring brake's confirmation may stand in a supervisor state (R133, R134, R137, R142). -/
def ParkConf.fits : ParkConf → SupState → Bool
  | .waiting, .securing | .overdue, .securing | .confirmed, .secured => true
  | .idle, .unavailable | .idle, .standby | .idle, .checking | .idle, .holding | .idle, .releasing => true
  | _, _ => false

/-- What a hold context may hold in a supervisor state (R81, R89, R95). -/
structure Context.Fits (c : Context) (state : SupState) : Prop where
  step : c.step ≤ 3
  release : c.release.isSome ↔ state = .releasing
  reinforced : c.reinforced = true → state = .secured
  holdLimit : c.holdLimit.isSome → state = .holding ∨ state = .releasing

/-- The laws of the part once its supervisor has taken a starting state. -/
structure State.Settled (s : State) : Prop where
  /-- R131: PRQ is asserted in SECURING and SECURED and in no other state. -/
  prq : s.park.prq = s.sup.state.prq
  /-- R132: the hold-in-force marker follows the state. -/
  holdInForce : s.park.holdInForce = s.sup.state.isHold
  /-- R133, R137: the confirmation state follows the state. -/
  conf : s.park.conf.fits s.sup.state = true
  /-- R80, R81: a hold context exists in the hold states and in no other. -/
  context : s.sup.ctx.isSome = s.sup.state.isHold
  /-- R81: the context fits the state. -/
  fits : ∀ c, s.sup.ctx = some c → c.Fits s.sup.state
  /-- R97, R98: a release handover is pending in SECURED only. -/
  handover : s.sup.handover = true → s.sup.state = .secured
  /-- R83: with the safe-start marker set, the supervisor is never in STANDBY, CHECKING, HOLDING or RELEASING. -/
  marker : s.store.marker = true → s.sup.state.markerFree = false
  /-- R143, R100: the path check runs in CHECKING and in no other state. -/
  checking : s.path.testing = true ↔ s.sup.state = .checking

/-- R131, R170: while a start is under way the supervisor reads UNAVAILABLE, and the store is loading. -/
structure State.Starting (s : State) : Prop where
  state : s.sup.state = .unavailable
  context : s.sup.ctx = none
  handover : s.sup.handover = false
  conf : s.park.conf = .idle
  testing : s.path.testing = false
  loading : s.store.op = .loading
  awake : s.asleep = false
  sleepTimer : s.sleepTimer = none

/-- The laws of a part that has power (R131, R132, R81, R83, R171). -/
structure State.Lawful (s : State) : Prop where
  /-- A start is under way. -/
  starting : s.powered = true → s.start.isSome → s.Starting
  /-- No start is under way. -/
  settled : s.powered = true → s.start = none → s.Settled
  /-- R171: the part sleeps only in UNAVAILABLE, STANDBY or SECURED. -/
  asleep : s.powered = true → s.asleep = true → s.sup.state.mayRest = true
  /-- R171: the sleep delay timer runs only in UNAVAILABLE, STANDBY or SECURED. -/
  sleepTimer : s.powered = true → s.sleepTimer.isSome → s.sup.state.mayRest = true

/-! ### What the taking of notices leaves alone

A command changes its own block and then sends notices, which the supervisor, the merger, the path check, park control,
the calculator and the responder act on (R32, R56, R59, R78). The views below blank everything that the taking of
notices may change; a statement that two states have one view says that all the rest is unchanged. -/

/-- A channel record less what notices may change: the check state (R57), and what entry to STANDBY makes of SHORT and of
FAULT with the flag clear, which is ACCEPTED (R52). -/
def ChannelRecord.calm (r : ChannelRecord) : ChannelRecord := { r.standby with check := .unchecked }

/-- The state less all that the taking of notices may change: supervisor, park control, path check, counters, sleep delay
timer, hold result record and drive-away outcome, what the channel block derives, the merger but for the driver demand
record and the control queue, the cab status frame. -/
def State.calm (s : State) : State :=
  { s with
    sup := ⟨.unavailable, .none, none, false, false⟩
    park := Park.start
    path := PathCheck.start
    counters := Counters.zero
    sleepTimer := none
    calculator := { s.calculator with record := HoldResult.unworked Settings.default 0 0, lastOutcome := .fail,
                                      lastForce := 0 }
    channels := ⟨s.channels.state, PerChan.build fun c => (s.channels.records.get c).calm, Derived.none⟩
    merger := { Merger.start with driver := s.merger.driver, control := s.merger.control }
    resp := { s.resp with cab := .empty, renew := false, period := none } }

/-- The view without the creep monitor and payload used, which the notices of an ageing signal change (R104, R64). -/
def State.quiet (s : State) : State :=
  { s.calm with creep := Creep.start, calculator := { s.calm.calculator with payloadUsed := 0 } }

/-- The view of what a management request leaves alone whatever it writes: the time, the ports and their queues, the
driver demand record and the control queue, the store, the request queue (R156, R159). -/
def State.steady (s : State) : State :=
  { s.quiet with
    route := ⟨.suspended, none⟩
    signals := State.reset.signals
    channels := State.reset.channels
    calculator := State.reset.calculator
    work := Working.blank
    resp := { s.quiet.resp with replies := [] } }

/-! ### Slots and attempts -/

/-- The port state that R4 gives a port that is not OFF-BUS. -/
def PortMode.ofCounts (tx rx : Nat) : PortMode := if 128 ≤ tx ∨ 128 ≤ rx then .passive else .active

/-- The laws of one demand slot against Port B's attempt (R122, R123): it holds a frame unless it is EMPTY, and it is
SENDING exactly while its frame is Port B's frame in attempt. -/
structure Merger.SlotLaw (m : Merger) (n : SlotName) (attempt : Option Attempt) : Prop where
  held : (m.slot n).frame.isSome ↔ (m.slot n).state ≠ .empty
  ordered : (m.slot n).frame.isSome → (m.slot n).order.isSome
  sending : (m.slot n).state = .sending ↔ ∃ f, attempt = some ⟨.slot n, f⟩
  same : ∀ f, attempt = some ⟨.slot n, f⟩ → (m.slot n).frame = some f

/-- The laws of the demand slots and of the sources of the frames in attempt while the part has power (R2, R19, R20,
R122). -/
structure State.Slotted (s : State) : Prop where
  slots : s.powered = true → ∀ n, s.merger.SlotLaw n s.portB.attempt
  orders : s.powered = true → s.merger.slotA.frame.isSome → s.merger.slotB.frame.isSome →
    s.merger.slotA.order ≠ s.merger.slotB.order
  sourceV : ∀ a, s.portV.attempt = some a → a.source = .reply ∨ a.source = .cab ∨ a.source = .bToV
  sourceB : ∀ a, s.portB.attempt = some a → (∃ n, a.source = .slot n) ∨ a.source = .control ∨ a.source = .vToB

/-! ### Shapes the statements share -/

/-- What entry to SECURING leaves (R91, R133): `s` is the state that the entry is made from. -/
structure State.EntersSecuring (s t : State) (r : Reason) : Prop where
  state : t.sup.state = .securing
  reason : t.sup.reason = r
  context : t.sup.ctx = s.sup.ctx.map fun c => { c with release := none, reinforced := false, holdLimit := none }
  handover : t.sup.handover = false
  park : t.park = ⟨true, true, .waiting, some ⟨s.now, s.work.settings.parkConfirmTime⟩⟩
  mode : t.merger.mode = .secure
  counted : t.counters = s.counters.set .secures s.counters.secures.bump

/-- What an abort of a path check run leaves (R100, R150): nothing under test, the results and check states as they were,
and the supervisor gone from CHECKING as the unavailable conditions say. -/
structure State.AbortsCheck (s t : State) (cause : AbortCause) : Prop where
  idle : t.path.testing = false
  channel : t.path.chan = none
  level : t.path.level = none
  timer : t.path.timer = none
  lastRun : t.path.lastRun = .aborted cause
  results : t.path.results = s.path.results
  checks : ∀ c, (t.channels.records.get c).check = (s.channels.records.get c).check
  clear : s.unavailableReasons = [] → t.sup.state = .standby ∧ t.sup.reason = .none
  standing : ∀ r rest, s.unavailableReasons = r :: rest → t.sup.state = .unavailable ∧ t.sup.reason = r

/-- The merge identifier in force after a check of the route table (R13): that of the valid MERGE entry of a valid table,
absent where it has none; an invalid table keeps the one before. -/
structure State.MergeIdAfterCheck (before : Option CanId) (t : State) : Prop where
  invalid : routesValid t.work.routes = false → t.route.mergeId = before
  entry : routesValid t.work.routes = true → ∀ k : Fin 96, (t.work.routes.get k).valid = true →
    (t.work.routes.get k).action = .merge → t.route.mergeId = some (if (t.work.routes.get k).ext
      then .ext (t.work.routes.get k).id else .std ((t.work.routes.get k).id.extractLsb' 0 11))
  absent : routesValid t.work.routes = true →
    (∀ k : Fin 96, (t.work.routes.get k).valid = true → (t.work.routes.get k).action ≠ .merge) → t.route.mergeId = none

/-- A data frame that Port `p` can take now and whose lowest matching entry has an action, gives no signals and is not
also passed on (R1, R8, R9). -/
structure State.HandsTo (s : State) (p : Port) (f : Frame) (a : Action) : Prop where
  running : s.running = true
  onBus : (s.port p).onBus = true
  route : s.route.state = .inForce
  data : f.remote = false
  entry : ∃ e, s.matchEntry p f = some e ∧ e.action = a ∧ e.extract = [] ∧ e.alsoPass = false

/-- The state once Port `p` has taken a frame: the receive error count has fallen by 1, not below 0 (R1, R3). -/
def State.afterTaking (s : State) (p : Port) : State :=
  s.setPort p { s.port p with
    rxErr := (s.port p).rxErr - 1, mode := PortMode.ofCounts (s.port p).txErr ((s.port p).rxErr - 1) }

/-- The state once a frame that Port `p` has taken is offered to the other port's forward queue: it joins a queue of fewer
than 24, and is refused and counted by a full one; a sheddable frame of Port V is refused and counted while shedding is
on, and a join at the high water mark turns shedding on (R9, R15, R16). -/
def State.offering (s : State) (p : Port) (f : Frame) (sheddable : Bool) : State :=
  match p with
  | .b =>
    if s.bToV.length < 24 then { s.afterTaking .b with bToV := s.bToV ++ [f] }
    else { s.afterTaking .b with counters := s.counters.set .bToVDrops s.counters.bToVDrops.bump }
  | .v =>
    if sheddable = true ∧ s.shedding = true then
      { s.afterTaking .v with counters := s.counters.set .shedFrames s.counters.shedFrames.bump }
    else if s.vToB.length < 24 then
      { s.afterTaking .v with
        vToB := s.vToB ++ [f], shedding := s.shedding || decide (s.work.settings.highWater ≤ s.vToB.length + 1) }
    else { s.afterTaking .v with counters := s.counters.set .vToBDrops s.counters.vToBDrops.bump }

/-! ### Requests -/

/-- A request reaches the responder now, and it can serve that request and that request only (R155, R156, R162). -/
structure State.Serves (s : State) : Prop where
  running : s.running = true
  onBus : s.portV.onBus = true
  requests : s.resp.requests = []
  replies : s.resp.replies.length < shortSize

/-- Port V can take a data frame now that reaches the responder as a request: by the request identifier while the route table
is SUSPENDED or IN FORCE without a MANAGE entry, or by a MANAGE entry that gives no signals (R9, R14, R154). -/
structure State.HearsRequest (s : State) (f : Frame) : Prop where
  running : s.running = true
  onBus : s.portV.onBus = true
  data : f.remote = false
  reaches :
    (s.route.state = .suspended ∧ s.route.mergeId ≠ some f.id ∧ f.id = s.work.settings.requestId) ∨
    (s.route.state = .inForce ∧ s.matchEntry .v f = none ∧ f.id = s.work.settings.requestId ∧
      ∀ k : Fin 96, (s.work.routes.get k).valid = true → (s.work.routes.get k).action ≠ .manage) ∨
    (s.route.state = .inForce ∧ ∃ e, s.matchEntry .v f = some e ∧ e.action = .manage ∧ e.extract = [])

/-- A WRITE of a value to a field makes an item of the item it finds: by the field's range and its cross-field checks, or,
where these refuse a value that the field holds already, the item as it is (R157). -/
def State.Takes {α : Type} (s : State) (g : Group) (index field : Byte) (v : Word32) (item new : α)
    (written : Option α) : Prop :=
  written = some new ∨ written = none ∧ s.readField g index.toNat field.toNat = some v ∧ new = item

/-- The request a management row stands for (notes/assumptions/6.md); none for the other commands. -/
def requestOf : Instr → Option Request
  | .read group index field => some ⟨true, 1#8, group, index, field, 0#32⟩
  | .readLostSinceRead index => some ⟨true, 1#8, 5#8, index, 14#8, 0#32⟩
  | .readClearCounter field => some ⟨true, 3#8, 7#8, 0#8, field, 0#32⟩
  | .readClearCheckResult index field => some ⟨true, 3#8, 8#8, index, field, 0#32⟩
  | .writeRouteEntry index field value => some ⟨true, 2#8, 1#8, index, field, value⟩
  | .writeSignalEntry index field value => some ⟨true, 2#8, 2#8, index, field, value⟩
  | .writeChannelEntry index field value => some ⟨true, 2#8, 5#8, index, field, value⟩
  | .writeCurveBreakpoint .grade index field value => some ⟨true, 2#8, 3#8, index, field, value⟩
  | .writeCurveBreakpoint .drum index field value => some ⟨true, 2#8, 4#8, index, field, value⟩
  | .writeSetting field value => some ⟨true, 2#8, 0#8, 0#8, field, value⟩
  | .startCheck => some ⟨true, 4#8, 0#8, 0#8, 1#8, 0#32⟩
  | .abortCheck => some ⟨true, 4#8, 0#8, 0#8, 2#8, 0#32⟩
  | .clearSafeStart => some ⟨true, 4#8, 0#8, 0#8, 3#8, 0#32⟩
  | .save => some ⟨true, 4#8, 0#8, 0#8, 4#8, 0#32⟩
  | .reload => some ⟨true, 4#8, 0#8, 0#8, 5#8, 0#32⟩
  | .restart => some ⟨true, 4#8, 0#8, 0#8, 6#8, 0#32⟩
  | .powerOnReset | .powerLoss | .warmReset | .keyFall | .keyRise | .wake | .frameReceived _ _ | .receiveError _
  | .transmitError _ | .transmitAttemptStart _ | .frameSent _ | .recessiveSequence _ | .staleTimerExpiry _
  | .lossTimerExpiry _ | .reversalWindowExpiry | .statusStaleExpiry _ | .statusLossExpiry _ | .restTimerExpiry _
  | .holdLimitExpiry | .rampTimerExpiry | .parkConfirmExpiry | .driverDemandStaleExpiry | .driverDemandLossExpiry
  | .refreshTimerExpiry | .slotDiscardExpiry _ | .buildStage1Expiry | .buildStage2Expiry | .levelTimerExpiry
  | .cabStatusPeriodExpiry | .restartTimerExpiry | .sleepDelayExpiry | .loadEnd | .saveComplete => none

/-- R157 test 3: the supervisor is in CHECKING or in a hold state, or a load or a save runs. -/
def State.Busy (s : State) : Prop := s.sup.state.isHold = true ∨ s.sup.state = .checking ∨ s.store.op ≠ .idle

/-- The requests that are answered with a result other than OK, with that result and the value of the reply, by the tests
of R157 in their order, R158 and R160. The value 0 of a refused COMMAND is the model's choice, notes/assumptions/34.md. -/
inductive State.Refuses (s : State) : Request → Result → Word32 → Prop where
  /-- Test 1: the data length is below 8. -/
  | short (r : Request) : r.whole = false → s.Refuses r .badItem 0#32
  /-- Test 1: the code is none of READ 1, WRITE 2, READ-CLEAR 3 and COMMAND 4. -/
  | code (r : Request) : r.code.toNat < 1 ∨ 4 < r.code.toNat → s.Refuses r .badItem 0#32
  /-- Test 1: no group has the number, or the group does not hold the item. -/
  | item (r : Request) : 1 ≤ r.code.toNat → r.code.toNat ≤ 3 →
      (∀ g, Group.ofByte r.group = some g → s.readField g r.index.toNat r.field.toNat = none) →
      s.Refuses r .badItem 0#32
  /-- Test 1: no command has the number. -/
  | command (r : Request) : r.code = 4#8 → r.field.toNat < 1 ∨ 6 < r.field.toNat → s.Refuses r .badItem 0#32
  /-- Test 2: a WRITE to STATUS, COUNTERS or CHECK-RESULTS. -/
  | readOnly (r : Request) (g : Group) (old : Word32) : r.whole = true → r.code = 2#8 → Group.ofByte r.group = some g →
      s.readField g r.index.toNat r.field.toNat = some old → g = .status ∨ g = .counters ∨ g = .checkResults →
      s.Refuses r .denied 0#32
  /-- Test 2: a READ-CLEAR to a field without a clearing part. -/
  | noClear (r : Request) (g : Group) (v : Word32) : r.whole = true → r.code = 3#8 → Group.ofByte r.group = some g →
      s.readField g r.index.toNat r.field.toNat = some v → g ≠ .counters → g ≠ .checkResults →
      ¬(g = .channel ∧ r.field = 14#8) → s.Refuses r .denied 0#32
  /-- Test 3: a WRITE at the wrong time, answered with the value held. -/
  | busy (r : Request) (g : Group) (old : Word32) : r.whole = true → r.code = 2#8 → Group.ofByte r.group = some g →
      s.readField g r.index.toNat r.field.toNat = some old → g ≠ .status → g ≠ .counters → g ≠ .checkResults → s.Busy →
      s.Refuses r .busy old
  /-- Test 4: a WRITE of a value that the field neither takes nor holds, answered with the value held. -/
  | value (r : Request) (g : Group) (old : Word32) : r.whole = true → r.code = 2#8 → Group.ofByte r.group = some g →
      s.readField g r.index.toNat r.field.toNat = some old → g ≠ .status → g ≠ .counters → g ≠ .checkResults → ¬s.Busy →
      s.writeField g r.index.toNat r.field.toNat r.value = none → s.Refuses r .badValue old
  /-- START-CHECK in CHECKING or a hold state. -/
  | startBusy (r : Request) : r.whole = true → r.code = 4#8 → r.field = 1#8 →
      s.sup.state.isHold = true ∨ s.sup.state = .checking → s.Refuses r .busy 0#32
  /-- START-CHECK with a precondition of R99 unmet. -/
  | startDenied (r : Request) : r.whole = true → r.code = 4#8 → r.field = 1#8 → s.sup.state.isHold = false →
      s.sup.state ≠ .checking → s.checkPreconditions = false → s.Refuses r .denied 0#32
  /-- ABORT-CHECK without a run. -/
  | abortDenied (r : Request) : r.whole = true → r.code = 4#8 → r.field = 2#8 → s.path.testing = false →
      s.Refuses r .denied 0#32
  /-- SAVE during a save or a load. -/
  | saveBusy (r : Request) : r.whole = true → r.code = 4#8 → r.field = 4#8 → s.store.op ≠ .idle →
      s.Refuses r .busy 0#32
  /-- RELOAD at the wrong time. -/
  | reloadBusy (r : Request) : r.whole = true → r.code = 4#8 → r.field = 5#8 → s.Busy → s.Refuses r .busy 0#32
  /-- RELOAD without a FRESH PARK_STATUS showing applied. -/
  | reloadDenied (r : Request) : r.whole = true → r.code = 4#8 → r.field = 5#8 → ¬s.Busy →
      s.parkAppliedFresh = false → s.Refuses r .denied 0#32

/-- The reply an OK answer puts in the reply queue (R158 to R160, section 12.1). -/
def okReply (id : CanId) (code group index field : Byte) (request value : Word32) : Reply :=
  ⟨replyFrame id ⟨true, code, group, index, field, request⟩ .ok value, false⟩

end Sys2Proof.Machine
end

