-- ==== Sys2Proof/WellFormed.lean ====
section
/-! DEFINITION. Which commands can be put to the part: a received frame carries exactly the data bytes its data
length says, and a remote frame none (R1, R9). Every other operand is well formed by its type. -/

namespace Sys2Proof

/-- A frame has as many data bytes as its data length says; a remote frame carries no data bytes (R9). -/
def Frame.wf (f : Frame) : Bool :=
  if f.remote then f.data.isEmpty else f.data.length == f.dlc.val

/-- A command is well formed when the frame it brings is. -/
def Instr.wf : Instr → Bool
  | .frameReceived _ f => f.wf
  | _ => true

end Sys2Proof
end

