-- ==== Sys2Proof/Certificates/Slice0/Obligations.lean ====
section
/-! DEFINITION. What is claimed of the model of the KH-240: one definition per statement, listed in OBLIGATIONS.json. -/

open Sys2Proof Sys2Proof.Machine

/-! ### The machine -/

/-- A step takes the command at the front of the queue and carries it out on the state with the queue's rest. -/
def Obligations.StepRunsTheFrontCommand : Prop :=
  ∀ (c : Instr) (rest : List Instr) (s : State), step { s with pending := c :: rest } = exec c { s with pending := rest }

/-! ### The part's life (chapter 11) -/

/-- POWER_ON_RESET: ports, queues, counters, park control, path check and channel records at their power-on values,
the stored image and the marker's cell as they were, the marker read from its cell, the last save NONE. POWER_LOSS
during a save, then POWER_ON_RESET: the stored image is the one before the save, a pending operation on the marker's
cell is not made, and the last save reads NONE; without a save running, image and cell stand (R7, R18, R21, R58, R140,
R153, R168, R169, R170). That KEY keeps its level, and what else is read before the load has ended, are the model's
choices, notes/assumptions/2.md and 3.md; so is what loss of power leaves of attempts and of the store's volatile
fields, notes/assumptions/22.md. -/
def Obligations.PowerIsLostAndComesBack : Prop :=
  (∀ s : State, ∃ t, exec .powerOnReset s = .next t ∧
    t.powered = true ∧ t.asleep = false ∧ t.start = some .powerOn ∧ t.store.op = .loading ∧
    t.portV = ⟨0, 0, .active, 0, none⟩ ∧ t.portB = ⟨0, 0, .active, 0, none⟩ ∧
    t.vToB = [] ∧ t.shedding = false ∧ t.bToV = [] ∧
    (∀ n, t.counters.get n = ⟨0#8, false⟩) ∧
    t.park = ⟨false, false, .idle, none⟩ ∧ t.sup.state = .unavailable ∧ t.path.testing = false ∧ t.path.lastRun = .none ∧
    (∀ c l, (t.path.results.get c).get l = ⟨.none, 0, false⟩) ∧
    (∀ c, (t.channels.records.get c).advert = none ∧ (t.channels.records.get c).check = .unchecked ∧
      (t.channels.records.get c).lostSinceRead = false) ∧
    t.route.mergeId = none ∧ t.store.image = s.store.image ∧ t.store.cell = s.store.cell ∧
    t.store.marker = s.store.cell ∧ t.store.lastSave = .none ∧ t.pending = s.pending ∧ t.key = s.key) ∧
  (∀ s : State, s.powered = true → s.store.op = .saving → ∃ t u,
    exec .powerLoss s = .next t ∧ t.powered = false ∧ t.store.image = s.store.image ∧ t.store.cell = s.store.cell ∧
    t.store.pendingCell = .none ∧ t.portV.attempt = none ∧ t.portB.attempt = none ∧
    exec .powerOnReset t = .next u ∧ u.store.image = s.store.image ∧ u.store.marker = s.store.cell ∧
    u.store.lastSave = .none) ∧
  ∀ s : State, s.powered = true → s.store.op ≠ .saving → ∃ t,
    exec .powerLoss s = .next t ∧ t.powered = false ∧
    t.store = { s.store with op := .idle, pendingCell := .none, copy := none } ∧
    t.portV = { s.portV with attempt := none } ∧ t.portB = { s.portB with attempt := none } ∧ t.key = s.key ∧
    t.pending = s.pending

/-- WARM_RESET, and RESTART_TIMER_EXPIRY, whose warm reset is the same one (R161): the latch follows the rule of R138;
counters, check results, advert copies, check states and lost-since-read markers are kept, the ports, queues, slots
and the responder start afresh, and the load of the start begins (R7, R18, R58, R130, R138, R153, R165, R170). The
time that an expiry leaves is the model's choice, notes/assumptions/4.md. That the working copies stand until the load
ends is the model's choice, notes/assumptions/3.md. -/
def Obligations.WarmResetFollowsTheLatchRule : Prop :=
  (∀ s : State, s.powered = true → ∃ t, exec .warmReset s = .next t ∧
    t.park = ⟨s.park.prq || s.park.holdInForce, s.park.holdInForce, .idle, none⟩ ∧
    t.start = some .warm ∧ t.asleep = false ∧ t.sup.state = .unavailable ∧ t.sup.ctx = none ∧
    t.store.op = .loading ∧ t.store.image = s.store.image ∧
    t.store.cell = (if s.store.op = .saving then s.store.pendingCell.applied s.store.cell else s.store.cell) ∧
    t.store.marker = t.store.cell ∧
    t.store.lastSave = (if s.store.op = .saving then .cut else s.store.lastSave) ∧
    t.counters = s.counters ∧ t.route = s.route ∧
    t.path.results = s.path.results ∧ t.path.testing = false ∧
    t.path.lastRun = (if s.path.testing then .aborted .reset else s.path.lastRun) ∧
    (∀ c, (t.channels.records.get c).advert = (s.channels.records.get c).advert ∧
      (t.channels.records.get c).check = (s.channels.records.get c).check ∧
      (t.channels.records.get c).lostSinceRead = (s.channels.records.get c).lostSinceRead ∧
      (t.channels.records.get c).age = .lost) ∧
    t.portV = ⟨0, 0, .active, 0, none⟩ ∧ t.portB = ⟨0, 0, .active, 0, none⟩ ∧
    t.vToB = [] ∧ t.bToV = [] ∧ t.shedding = false ∧ t.merger = Merger.start ∧ t.resp = Responder.start ∧
    t.pending = s.pending ∧ t.key = s.key ∧ t.powered = true) ∧
  ∀ (s : State) (r : Running), s.awake = true → s.resp.restartTimer = some r → ∃ t,
    exec .restartTimerExpiry s = .next t ∧ exec .warmReset { s with now := max s.now (r.start + r.dur) } = .next t

/-- KEY_FALL in HOLDING and RELEASING: SECURING with reason KEY-OFF. In CHECKING the path check aborts with cause
KEY-OFF, and the supervisor goes to STANDBY with reason NONE, or to UNAVAILABLE with the first unavailable condition; in
UNAVAILABLE, STANDBY, SECURING and SECURED without a handover no state changes, and the sleep delay timer starts where
R171 has it run. KEY_RISE in a running part: KEY is high, the sleep delay timer is stopped, and the supervisor outside
UNAVAILABLE and STANDBY does not move on it (R85, R88, R91, R100, R102, R150, R171). -/
def Obligations.KeyEdgesAreTaken : Prop :=
  (∀ s : State, s.running = true → s.key = true → (s.sup.state = .holding ∨ s.sup.state = .releasing) →
    ∃ t, exec .keyFall s = .next t ∧ t.key = false ∧ s.EntersSecuring t .keyOff ∧
      t.calm = { s with key := false }.calm) ∧
  (∀ s : State, s.running = true → s.key = true → s.sup.state = .checking → s.path.testing = true →
    ∃ t, exec .keyFall s = .next t ∧ t.path.testing = false ∧ t.path.lastRun = .aborted .keyOff ∧
      t.path.results = s.path.results ∧
      (∀ c, (t.channels.records.get c).check = (s.channels.records.get c).check) ∧
      (s.unavailableReasons = [] → t.sup.state = .standby ∧ t.sup.reason = .none) ∧
      (∀ r rest, s.unavailableReasons = r :: rest → t.sup.state = .unavailable ∧ t.sup.reason = r) ∧
      t.calm = { s with key := false }.calm) ∧
  (∀ s : State, s.running = true → s.key = true → s.path.testing = false → s.sup.handover = false →
    s.sleepTimer = none →
    (s.sup.state = .unavailable ∨ s.sup.state = .standby ∨ s.sup.state = .securing ∨ s.sup.state = .secured) →
    exec .keyFall s = .next { s with
      key := false
      sleepTimer := if s.store.op = .idle ∧ s.sup.state ≠ .securing
        then some ⟨s.now, s.work.settings.sleepDelay⟩ else none }) ∧
  ∀ s : State, s.running = true → s.key = false → ∃ t, exec .keyRise s = .next t ∧
    t.key = true ∧ t.sleepTimer = none ∧ t.calm = { s with key := true }.calm ∧
    (s.sup.state ≠ .unavailable → s.sup.state ≠ .standby →
      t = { s with key := true, sleepTimer := none })

/-- SLEEP_DELAY_EXPIRY: sleep is entered; both attempts end, every timer stops, and the records, queues, supervisor
and latch are kept (R7, R39, R123, R171). Where the frame in attempt at Port V is the reply of the RESTART that is
pending, the FAILED of that attempt begins the warm reset of R161; that this comes in place of the sleep is read by
inference, notes/assumptions/17.md. The time that an expiry leaves is the model's choice, notes/assumptions/4.md. The
control queue is kept where its head is not in attempt, and a cab status slot is kept where it is not SENDING and becomes
EMPTY where it is SENDING with the renew marker clear (R165); what else they do is the model's choice and is not stated
(notes/assumptions/38.md, notes/assumptions/39.md). -/
def Obligations.SleepDelayExpiryEntersSleep : Prop :=
  (∀ (s : State) (r : Running), s.awake = true → s.sleepTimer = some r →
    (∀ f p rest, s.portV.attempt = some ⟨.reply, f⟩ → s.resp.replies = p :: rest → p.restart = false) →
    ∃ t, exec .sleepDelayExpiry s = .next t ∧
    t.asleep = true ∧ t.portV = { s.portV with attempt := none } ∧ t.portB = { s.portB with attempt := none } ∧
    t.sleepTimer = none ∧ t.park = { s.park with timer := none } ∧ t.path = { s.path with timer := none } ∧
    t.merger.refresh = none ∧ t.merger.stage = none ∧ t.merger.driver.stale = none ∧ t.merger.driver.loss = none ∧
    t.merger.slotA.discard = none ∧ t.merger.slotB.discard = none ∧ t.signals.reversal = none ∧
    t.resp.period = none ∧ t.resp.restartTimer = none ∧
    (∀ k : Fin 20, t.signals.records.get k = { s.signals.records.get k with stale := none, loss := none }) ∧
    (∀ c, t.channels.records.get c = { s.channels.records.get c with stale := none, loss := none }) ∧
    (∀ w x, (t.creep.wheels.get w).rest ≠ .running x) ∧
    (∀ c, t.sup.ctx = some c → c.holdLimit = none) ∧
    (∀ n f, s.portB.attempt = some ⟨.slot n, f⟩ →
      (t.merger.slot n).state = .done ∧ (t.merger.slot n).outcome = some .failed ∧
      (t.merger.slot n).frame = (s.merger.slot n).frame) ∧
    ((∀ f, s.portB.attempt ≠ some ⟨.control, f⟩) → t.merger.control = s.merger.control) ∧
    ((∀ f, s.resp.cab ≠ .sending f) → t.resp.cab = s.resp.cab ∧ t.resp.renew = s.resp.renew) ∧
    (∀ f, s.resp.cab = .sending f → s.resp.renew = false → t.resp.cab = .empty ∧ t.resp.renew = false) ∧
    t.sup.state = s.sup.state ∧ t.sup.reason = s.sup.reason ∧ t.vToB = s.vToB ∧ t.bToV = s.bToV ∧
    t.shedding = s.shedding ∧ t.resp.requests = s.resp.requests ∧ t.resp.replies = s.resp.replies ∧
    t.signals.window = s.signals.window ∧ t.store = s.store ∧ t.work = s.work ∧ t.counters = s.counters ∧
    t.pending = s.pending ∧ t.key = s.key) ∧
  ∀ (s : State) (r : Running) (f : Frame) (p : Reply) (rest : List Reply), s.awake = true → s.sleepTimer = some r →
    s.portV.attempt = some ⟨.reply, f⟩ → s.resp.replies = p :: rest → p.restart = true → ∃ t,
    exec .sleepDelayExpiry s = .next t ∧ t.asleep = false ∧ t.start = some .warm ∧
    exec .warmReset { s with now := max s.now (r.start + r.dur) } = .next t

/-- WAKE: the blocks take their values at wake; an asserted latch gives SECURING with reason KEY-OFF, a deasserted one
UNAVAILABLE with the first unavailable condition (R101, R139, R172). -/
def Obligations.WakeTakesItsStartFromTheLatch : Prop :=
  ∀ s : State, s.powered = true → s.asleep = true → ∃ t, exec .wake s = .next t ∧
    t.asleep = false ∧ t.key = true ∧
    t.portV = ⟨0, 0, .active, 0, none⟩ ∧ t.portB = ⟨0, 0, .active, 0, none⟩ ∧
    t.vToB = [] ∧ t.bToV = [] ∧ t.shedding = false ∧
    t.signals.window = [] ∧ t.signals.keptSign = .none ∧ t.signals.reversal = none ∧
    (∀ k : Fin 20, (t.signals.records.get k).age = .lost ∧ (t.signals.records.get k).value = 0) ∧
    (∀ c, (t.channels.records.get c).handshake = (if (s.work.channels.get c).expected then .listening else .absent) ∧
      (t.channels.records.get c).advert = (s.channels.records.get c).advert ∧
      (t.channels.records.get c).check = (s.channels.records.get c).check) ∧
    t.calculator.payloadUsed = s.work.settings.maxPayload ∧ t.calculator.record.valid = false ∧
    (∀ w, (t.creep.wheels.get w).watched = false) ∧
    t.merger.driver = DriverDemand.start ∧ t.merger.control = [] ∧
    t.path = s.path ∧ t.resp.requests = [] ∧ t.resp.replies = [] ∧
    t.work = s.work ∧ t.store = s.store ∧ t.route = s.route ∧ t.pending = s.pending ∧
    t.sup.autoPending = true ∧ t.park.prq = s.park.prq ∧
    (s.park.prq = true → t.sup.state = .securing ∧ t.sup.reason = .keyOff ∧ t.park.conf = .waiting ∧
      t.merger.mode = .secure) ∧
    (s.park.prq = false → t.sup.state = .unavailable ∧ t.unavailableReasons.head? = some t.sup.reason ∧
      t.sup.ctx = none ∧ t.merger.mode = .none)

/-- LOAD_END of a start: the image is tested, a good one gives the working copies and a bad one the defaults and empty
tables; an asserted latch gives SECURING with reason RESET-IN-HOLD and a context of step 0, a deasserted one
UNAVAILABLE with the first unavailable condition; the merge identifier in force follows the route table's check (R13,
R80, R101, R166, R170). The fields of the empty tables that the spec leaves open are the model's choice,
notes/assumptions/10.md, and so is the merge identifier of an entry wider than its format, notes/assumptions/15.md. -/
def Obligations.LoadEndOfAStartGivesTheStartingState : Prop :=
  ∀ (s : State) (k : StartKind), s.awake = true → s.store.op = .loading → s.start = some k →
    s.sup.state = .unavailable → ∃ t, exec .loadEnd s = .next t ∧
    t.start = none ∧ t.store.op = .idle ∧ t.store.imageGood = s.store.image.good ∧ t.store.image = s.store.image ∧
    t.store.marker = s.store.marker ∧ t.store.cell = s.store.cell ∧
    t.work = (if s.store.image.good then s.store.image.contents else Working.blank) ∧
    (t.route.state = .inForce ↔ routesValid t.work.routes = true) ∧
    (t.signals.state = .inForce ↔ signalsValid t.work.signals = true) ∧
    (t.channels.state = .inForce ↔ channelsValid t.work.channels = true) ∧
    (t.calculator.state = .inForce ↔ curvesValid t.work.gradeCurve t.work.drumCurve = true) ∧
    State.MergeIdAfterCheck s.route.mergeId t ∧
    (∀ c, (t.channels.records.get c).handshake =
      if (t.work.channels.get c).expected then .listening else .absent) ∧
    t.calculator.payloadUsed = t.work.settings.maxPayload ∧ t.sup.autoPending = true ∧ t.park.prq = s.park.prq ∧
    (s.park.prq = true → t.sup.state = .securing ∧ t.sup.reason = .resetInHold ∧ t.park.conf = .waiting ∧
      t.merger.mode = .secure ∧ ∃ c, t.sup.ctx = some c ∧ c.step = 0 ∧ c.uphill = none ∧ c.holdLimit = none) ∧
    (s.park.prq = false → t.sup.state = .unavailable ∧ t.unavailableReasons.head? = some t.sup.reason ∧
      t.sup.ctx = none) ∧
    t.portV = s.portV ∧ t.portB = s.portB ∧ t.path = s.path ∧ t.pending = s.pending ∧ t.key = s.key

/-- LOAD_END of a RELOAD: the working copies, the image state and the four table states are taken afresh, every
channel's handshake restarts, payload used is the maximum, the merge identifier in force follows the route table's check,
and the traffic of the part is untouched (R13, R58, R77, R166, R167). The fields of the empty tables that the spec leaves
open are the model's choice, notes/assumptions/10.md, and so is the merge identifier of an entry wider than its format,
notes/assumptions/15.md. -/
def Obligations.LoadEndOfAReloadTakesTheImage : Prop :=
  ∀ s : State, s.awake = true → s.store.op = .loading → s.start = none → ∃ t, exec .loadEnd s = .next t ∧
    t.store = { s.store with op := .idle, imageGood := s.store.image.good } ∧
    t.work = (if s.store.image.good then s.store.image.contents else Working.blank) ∧
    (t.route.state = .inForce ↔ routesValid t.work.routes = true) ∧
    (t.signals.state = .inForce ↔ signalsValid t.work.signals = true) ∧
    (t.channels.state = .inForce ↔ channelsValid t.work.channels = true) ∧
    (t.calculator.state = .inForce ↔ curvesValid t.work.gradeCurve t.work.drumCurve = true) ∧
    State.MergeIdAfterCheck s.route.mergeId t ∧
    (∀ c, (t.channels.records.get c).handshake =
        (if (t.work.channels.get c).expected then .listening else .absent) ∧
      (t.channels.records.get c).age = .lost ∧
      (t.channels.records.get c).advert = (s.channels.records.get c).advert) ∧
    t.calculator.payloadUsed = t.work.settings.maxPayload ∧
    t.portV = s.portV ∧ t.portB = s.portB ∧ t.vToB = s.vToB ∧ t.bToV = s.bToV ∧ t.shedding = s.shedding ∧
    t.merger.driver = s.merger.driver ∧ t.merger.control = s.merger.control ∧
    t.resp.requests = s.resp.requests ∧ t.resp.replies = s.resp.replies ∧ t.pending = s.pending ∧ t.key = s.key

/-- SAVE_COMPLETE: the copy becomes the stored image, which a later load finds good and takes whole; the last save is
COMPLETED and a pending operation on the marker's cell is made (R166, R168, R169). -/
def Obligations.SaveCompleteStoresTheCopy : Prop :=
  ∀ (s : State) (w : Working), s.awake = true → s.store.op = .saving → s.store.copy = some w → ∃ t,
    exec .saveComplete s = .next t ∧ t.store.image.good = true ∧ t.store.image.loaded = w ∧
    t.store.lastSave = .completed ∧ t.store.op = .idle ∧ t.store.copy = none ∧
    t.store.cell = s.store.pendingCell.applied s.store.cell ∧ t.store.pendingCell = .none ∧
    t.store.marker = s.store.marker ∧ t.store.imageGood = s.store.imageGood ∧
    { t with store := s.store, sleepTimer := s.sleepTimer } = s

/-! ### Ports (section 1.1) -/

/-- RECEIVE_ERROR raises the receive error count by 1, a count of 127 staying at 127; TRANSMIT_ERROR that does not
pass 255 raises the transmit error count by 8. The port is PASSIVE exactly while a count is 128 or more, and the rest
of the part stands. RECESSIVE_SEQUENCE at a port that is OFF-BUS counts up to 128; at 128 the port recovers with both
error counts and the recovery count 0, and on Port V nothing else changes (R3, R4, R6). That errors count during a start
and without a frame in attempt too is read by inference, notes/assumptions/20.md. -/
def Obligations.ErrorsAndRecoveryMoveTheCounts : Prop :=
  (∀ (s : State) (p : Port), s.awake = true → (s.port p).onBus = true →
    exec (.receiveError p) s = .next (s.setPort p { s.port p with
      rxErr := if (s.port p).rxErr < 127 then (s.port p).rxErr + 1 else 127
      mode := if 128 ≤ (s.port p).txErr then .passive else .active }) ∧
    ((s.port p).txErr + 8 ≤ 255 →
      exec (.transmitError p) s = .next (s.setPort p { s.port p with
        txErr := (s.port p).txErr + 8
        mode := if 128 ≤ (s.port p).txErr + 8 ∨ 128 ≤ (s.port p).rxErr then .passive else .active }))) ∧
  ∀ (s : State) (p : Port), s.awake = true → (s.port p).mode = .offBus →
    ((s.port p).recovery < 127 →
      exec (.recessiveSequence p) s =
        .next (s.setPort p { s.port p with recovery := (s.port p).recovery + 1 })) ∧
    ((s.port p).recovery = 127 → ∃ t, exec (.recessiveSequence p) s = .next t ∧
      t.port p = { s.port p with txErr := 0, rxErr := 0, recovery := 0, mode := .active } ∧
      (p = .v → t = s.setPort .v (t.port .v)) ∧
      t.calm = (s.setPort p (t.port p)).calm)

/-- TRANSMIT_ERROR past 255: OFF-BUS with the transmit error count 255 and recovery count 0, the event counted, the
attempt over, its source told FAILED. Port B: a slot is DONE with outcome FAILED, the control queue loses its head, the
V-to-B queue keeps it; HOLDING and RELEASING go to SECURING with reason PORT-B-OFF, SECURED drops a pending handover,
and other states change nothing. Port V: a reply and a B-to-V frame stay where they are, the cab status slot is EMPTY
or renewed, and the reply of the pending RESTART brings the warm reset; no block is told of the port (R5, R17, R88, R91,
R98, R123, R125, R161, R162, R164). An error without a frame in attempt is read by inference, notes/assumptions/20.md;
that the source is told before the supervisor is the model's choice, notes/assumptions/26.md, and so is that a transmit
error count of 248 to 254 becomes 255, notes/assumptions/35.md. -/
def Obligations.BusOffFailsItsSource : Prop :=
  (∀ (s : State) (a : Attempt), s.awake = true → s.portB.onBus = true → 255 < s.portB.txErr + 8 →
    s.portB.attempt = some a → ((∃ n, a.source = .slot n) ∨ a.source = .control ∨ a.source = .vToB) →
    (s.sup.state = .unavailable ∨ s.sup.state = .standby ∨ s.sup.state = .checking ∨ s.sup.state = .securing ∨
      s.sup.state = .secured ∧ s.sup.handover = false) →
    exec (.transmitError .b) s = .next { s with
      portB := { s.portB with mode := .offBus, txErr := 255, recovery := 0, attempt := none }
      counters := s.counters.set .busOffB s.counters.busOffB.bump
      merger := match a.source with
        | .slot n => s.merger.setSlot n { s.merger.slot n with state := .done, outcome := some .failed }
        | .control => { s.merger with control := s.merger.control.tail }
        | _ => s.merger }) ∧
  (∀ s : State, s.awake = true → s.portB.onBus = true → 255 < s.portB.txErr + 8 → s.Slotted → s.sup.state = .secured →
    s.sup.handover = true → ∃ t, exec (.transmitError .b) s = .next t ∧
    t.portB = { s.portB with mode := .offBus, txErr := 255, recovery := 0, attempt := none } ∧
    t.sup = { s.sup with handover := false } ∧ t.park = s.park ∧
    t.merger.mode = (if s.reinforced then .secure else .none) ∧
    t.counters = s.counters.set .busOffB s.counters.busOffB.bump ∧
    t.portV = s.portV ∧ t.vToB = s.vToB ∧ t.bToV = s.bToV ∧ t.signals = s.signals ∧ t.store = s.store ∧
    t.work = s.work) ∧
  (∀ s : State, s.awake = true → s.portB.onBus = true → 255 < s.portB.txErr + 8 → s.Slotted →
    (s.sup.state = .holding ∨ s.sup.state = .releasing) → ∃ t, exec (.transmitError .b) s = .next t ∧
    t.portB.mode = .offBus ∧ t.portB.attempt = none ∧ t.portB.recovery = 0 ∧ t.portB.rxErr = s.portB.rxErr ∧
    t.sup.state = .securing ∧ t.sup.reason = .portBOff ∧ t.park.prq = true ∧ t.park.conf = .waiting ∧
    t.merger.mode = .secure ∧
    t.counters = (s.counters.set .busOffB s.counters.busOffB.bump).set .secures s.counters.secures.bump ∧
    t.portV = s.portV ∧ t.vToB = s.vToB ∧ t.bToV = s.bToV ∧ t.signals = s.signals ∧ t.store = s.store ∧
    t.work = s.work) ∧
  ∀ s u : State, s.awake = true → s.portV.onBus = true → 255 < s.portV.txErr + 8 →
    u = { s with
      portV := { s.portV with mode := .offBus, txErr := 255, recovery := 0, attempt := none }
      counters := s.counters.set .busOffV s.counters.busOffV.bump } →
    (s.portV.attempt = none → exec (.transmitError .v) s = .next u) ∧
    (∀ f, s.portV.attempt = some ⟨.bToV, f⟩ → exec (.transmitError .v) s = .next u) ∧
    (∀ f r rest, s.portV.attempt = some ⟨.reply, f⟩ → s.resp.replies = r :: rest → r.restart = false →
      exec (.transmitError .v) s = .next u) ∧
    (∀ f r rest, s.portV.attempt = some ⟨.reply, f⟩ → s.resp.replies = r :: rest → r.restart = true →
      ∃ t, exec (.transmitError .v) s = .next t ∧ exec .warmReset u = .next t) ∧
    (∀ f, s.portV.attempt = some ⟨.cab, f⟩ → s.resp.renew = false →
      exec (.transmitError .v) s = .next { u with resp := { s.resp with cab := .empty } }) ∧
    (∀ f, s.portV.attempt = some ⟨.cab, f⟩ → s.resp.renew = true →
      exec (.transmitError .v) s = .next { u with
        resp := { s.resp with cab := .waiting s.cabStatus, renew := false, period := some ⟨s.now, 100⟩ } })

/-- TRANSMIT_ATTEMPT_START. Port B's arbiter gives the LOADED slot, the OLDER of two; else the head of the control
queue; else the head of the V-to-B queue. Port V's gives the head reply; else the waiting cab status frame; else the
head of the B-to-V queue. A slot given moves to SENDING with its discard timer stopped, the cab status slot to
SENDING, and a queue keeps its frame (R2, R19, R20, R123, R164). -/
def Obligations.ArbitersGiveTheFirstReady : Prop :=
  (∀ s : State, s.running = true → s.portB.onBus = true → s.portB.attempt = none →
    (∀ n f, (s.merger.slot n).state = .loaded → (s.merger.slot n).frame = some f →
      ((s.merger.slot n.other).state = .loaded →
        (s.merger.slot n).order = some .older ∧ (s.merger.slot n.other).order = some .newer) →
      exec (.transmitAttemptStart .b) s = .next { s with
        portB := { s.portB with attempt := some ⟨.slot n, f⟩ }
        merger := s.merger.setSlot n { s.merger.slot n with state := .sending, discard := none } }) ∧
    (s.merger.slotA.state ≠ .loaded → s.merger.slotB.state ≠ .loaded →
      (∀ f rest, s.merger.control = f :: rest →
        exec (.transmitAttemptStart .b) s = .next { s with
          portB := { s.portB with attempt := some ⟨.control, f⟩ } }) ∧
      (∀ f rest, s.merger.control = [] → s.vToB = f :: rest →
        exec (.transmitAttemptStart .b) s = .next { s with
          portB := { s.portB with attempt := some ⟨.vToB, f⟩ } }))) ∧
  (∀ s : State, s.running = true → s.portV.onBus = true → s.portV.attempt = none →
    (∀ r rest, s.resp.replies = r :: rest →
      exec (.transmitAttemptStart .v) s = .next { s with
        portV := { s.portV with attempt := some ⟨.reply, r.frame⟩ } }) ∧
    (s.resp.replies = [] →
      (∀ f, s.resp.cab = .waiting f →
        exec (.transmitAttemptStart .v) s = .next { s with
          portV := { s.portV with attempt := some ⟨.cab, f⟩ }
          resp := { s.resp with cab := .sending f } }) ∧
      (∀ f rest, s.resp.cab = .empty → s.bToV = f :: rest →
        exec (.transmitAttemptStart .v) s = .next { s with
          portV := { s.portV with attempt := some ⟨.bToV, f⟩ } })))

/-- FRAME_SENT lowers the transmit error count by 1, not below 0, ends the attempt and tells its source SENT: a slot
is DONE with its frame and load order, a queue loses its head, shedding goes off at or below the low water mark, the
cab status slot becomes EMPTY or is renewed, and the reply of a pending RESTART brings the warm reset. With four replies
and requests waiting, the room that SENT makes serves the head request at once, and that one alone: a complete request of
a management row does what the row does, and one that R157 refuses is answered with its result. That a management row is a request that the responder serves in the
same step is the model's choice, notes/assumptions/6.md (R2, R3, R4, R16, R17,
R123, R125, R156, R161, R162, R164). -/
def Obligations.FrameSentReleasesItsSource : Prop :=
  (∀ (s : State) (f : Frame) (u : State), s.running = true →
    u = { s with portB := { s.portB with
      txErr := s.portB.txErr - 1, attempt := none
      mode := if s.portB.mode = .offBus then .offBus else PortMode.ofCounts (s.portB.txErr - 1) s.portB.rxErr } } →
    (∀ n, s.portB.attempt = some ⟨.slot n, f⟩ →
      exec (.frameSent .b) s = .next { u with
        merger := s.merger.setSlot n { s.merger.slot n with state := .done, outcome := some .sent } }) ∧
    (s.portB.attempt = some ⟨.control, f⟩ →
      exec (.frameSent .b) s = .next { u with merger := { s.merger with control := s.merger.control.tail } }) ∧
    (s.portB.attempt = some ⟨.vToB, f⟩ →
      exec (.frameSent .b) s = .next { u with
        vToB := s.vToB.tail
        shedding := if s.vToB.tail.length ≤ s.work.settings.lowWater then false else s.shedding })) ∧
  (∀ (s : State) (f : Frame) (u : State), s.running = true →
    u = { s with portV := { s.portV with
      txErr := s.portV.txErr - 1, attempt := none
      mode := if s.portV.mode = .offBus then .offBus else PortMode.ofCounts (s.portV.txErr - 1) s.portV.rxErr } } →
    (∀ r rest, s.portV.attempt = some ⟨.reply, f⟩ → s.resp.replies = r :: rest → r.restart = false →
      s.resp.requests = [] →
      exec (.frameSent .v) s = .next { u with resp := { s.resp with replies := rest } }) ∧
    (∀ r rest q waiting, s.portV.attempt = some ⟨.reply, f⟩ → s.resp.replies = r :: rest → r.restart = false →
      rest.length = 3 → s.resp.requests = q :: waiting →
      (∀ c, requestOf c = some (frameRequest q) → s.portV.mode ≠ .offBus → ∃ t,
        exec c { u with resp := { s.resp with replies := rest, requests := [] } } = .next t ∧
        exec (.frameSent .v) s = .next { t with resp := { t.resp with requests := waiting } }) ∧
      (∀ code v, u.Refuses (frameRequest q) code v →
        exec (.frameSent .v) s = .next { u with resp := { s.resp with
          requests := waiting
          replies := rest ++ [⟨replyFrame s.work.settings.replyId (frameRequest q) code v, false⟩] } })) ∧
    (∀ r rest, s.portV.attempt = some ⟨.reply, f⟩ → s.resp.replies = r :: rest → r.restart = true →
      ∃ t, exec (.frameSent .v) s = .next t ∧ exec .warmReset u = .next t) ∧
    (s.portV.attempt = some ⟨.cab, f⟩ → s.resp.renew = false →
      exec (.frameSent .v) s = .next { u with resp := { s.resp with cab := .empty } }) ∧
    (s.portV.attempt = some ⟨.cab, f⟩ → s.resp.renew = true →
      exec (.frameSent .v) s = .next { u with
        resp := { s.resp with cab := .waiting s.cabStatus, renew := false, period := some ⟨s.now, 100⟩ } }) ∧
    (s.portV.attempt = some ⟨.bToV, f⟩ →
      exec (.frameSent .v) s = .next { u with bToV := s.bToV.tail }))

/-! ### Routes and forward queues (sections 1.2, 1.3) -/

/-- FRAME_RECEIVED. A frame that no entry matches while the table is IN FORCE gets its port's default action: PASS
offers it to the other port's queue, where it joins or, the queue holding 24, is refused and counted; DROP discards it
uncounted. A Port V frame of a PASS-SHED entry is refused and counted as shed while shedding is on, else offered in
the same way; a join that reaches the high water mark turns shedding on (R1, R3, R9, R12, R15, R16). That the request identifier in
force is the setting as it stands is the model's choice, notes/assumptions/36.md. -/
def Obligations.OfferedFramesJoinOrAreCounted : Prop :=
  (∀ (s : State) (p : Port) (f : Frame), s.running = true → (s.port p).onBus = true → s.route.state = .inForce →
    s.matchEntry p f = none → (p = .b ∨ f.id ≠ s.work.settings.requestId) →
    (s.work.settings.defaultAction p = .drop → exec (.frameReceived p f) s = .next (s.afterTaking p)) ∧
    (s.work.settings.defaultAction p = .pass → p = .b →
      exec (.frameReceived p f) s = .next (if s.bToV.length < 24
        then { s.afterTaking p with bToV := s.bToV ++ [f] }
        else { s.afterTaking p with counters := s.counters.set .bToVDrops s.counters.bToVDrops.bump })) ∧
    (s.work.settings.defaultAction p = .pass → p = .v →
      exec (.frameReceived p f) s = .next (if s.vToB.length < 24
        then { s.afterTaking p with
          vToB := s.vToB ++ [f]
          shedding := if s.work.settings.highWater ≤ s.vToB.length + 1 then true else s.shedding }
        else { s.afterTaking p with counters := s.counters.set .vToBDrops s.counters.vToBDrops.bump }))) ∧
  ∀ (s : State) (f : Frame), s.HandsTo .v f .passShed →
    exec (.frameReceived .v f) s = .next (
      if s.shedding = true then
        { s.afterTaking .v with counters := s.counters.set .shedFrames s.counters.shedFrames.bump }
      else if s.vToB.length < 24 then
        { s.afterTaking .v with
          vToB := s.vToB ++ [f], shedding := decide (s.work.settings.highWater ≤ s.vToB.length + 1) }
      else { s.afterTaking .v with counters := s.counters.set .vToBDrops s.counters.vToBDrops.bump })

/-- An entry matches a frame when it is valid, has the frame's arrival port and format, and agrees with its identifier
wherever the mask is set. FRAME_RECEIVED while the table is IN FORCE: the entry a frame is classified by matches it, no
entry of a lower index does, and its action is done. PASS, PASS-SHED and CHANNEL with also-pass offer the frame, remote
or not, to the other port's queue; a remote frame of another entry is discarded; MERGE hands a frame of data length 8
to the driver demand record, a shorter one to none. MANAGE is the statement RequestsAreQueuedAndJudged; the channel
block's and the signal block's taking stand in their own statements (R1, R8, R9, R10, R11, R15, R16, R115). That an
11-bit entry's bits above its 11 are compared too is the model's choice, notes/assumptions/15.md. -/
def Obligations.LowestMatchingEntryActs : Prop :=
  (∀ (s : State) (p : Port) (f : Frame),
    (∀ e : RouteEntry, e.matches p f = true ↔ e.valid = true ∧ e.port = p ∧ e.ext = f.id.isExt ∧
      ∀ i : Nat, i < 29 → e.mask.getLsbD i = true → f.id.bits.getLsbD i = e.id.getLsbD i) ∧
    (∀ e : RouteEntry, s.matchEntry p f = some e → ∃ k : Fin 96, s.work.routes.get k = e ∧ e.matches p f = true ∧
      ∀ j : Fin 96, j < k → (s.work.routes.get j).matches p f = false) ∧
    (s.matchEntry p f = none → ∀ k : Fin 96, (s.work.routes.get k).matches p f = false)) ∧
  ∀ (s : State) (p : Port) (f : Frame) (e : RouteEntry), s.running = true → (s.port p).onBus = true →
    s.route.state = .inForce → s.matchEntry p f = some e →
    (f.remote = true ∨ e.extract = [] →
      (e.action = .pass → exec (.frameReceived p f) s = .next (s.offering p f false)) ∧
      (e.action = .passShed → exec (.frameReceived p f) s = .next (s.offering p f true))) ∧
    (e.action = .pass ∨ e.action = .passShed ∨ e.action = .channel ∧ e.alsoPass = true →
      ∃ t, exec (.frameReceived p f) s = .next t ∧
        t.vToB = (s.offering p f (decide (e.action = .passShed))).vToB ∧
        t.bToV = (s.offering p f (decide (e.action = .passShed))).bToV ∧
        t.shedding = (s.offering p f (decide (e.action = .passShed))).shedding) ∧
    (f.remote = true →
      (e.action = .channel → e.alsoPass = true → exec (.frameReceived p f) s = .next (s.offering p f false)) ∧
      (e.action = .take ∨ e.action = .merge ∨ e.action = .manage ∨ e.action = .channel ∧ e.alsoPass = false →
        exec (.frameReceived p f) s = .next (s.afterTaking p))) ∧
    (f.remote = false → e.extract = [] →
      (e.action = .take → exec (.frameReceived p f) s = .next (s.afterTaking p)) ∧
      (e.action = .merge → f.dlc.val ≠ 8 → exec (.frameReceived p f) s = .next (s.afterTaking p)) ∧
      (e.action = .merge → f.dlc.val = 8 → ∃ t, exec (.frameReceived p f) s = .next t ∧
        t.calm = ({ s.afterTaking p with merger := { s.merger with driver := {
          demands := ⟨4 * (byteAt f.data 0).toNat, 4 * (byteAt f.data 1).toNat, 4 * (byteAt f.data 2).toNat,
            4 * (byteAt f.data 3).toNat⟩
          age := .fresh
          stale := some ⟨s.now, s.work.settings.demandStale⟩
          loss := some ⟨s.now, s.work.settings.demandLoss⟩
          last := some ⟨f.id, f.data⟩ } } } : State).calm))

/-- FRAME_RECEIVED while the route table is SUSPENDED: a Port V data frame of length 8 on the merge identifier reaches
the driver demand record, a shorter or a remote one reaches no block; a remote frame on the request identifier is
discarded; any other frame, on neither identifier, gets the default action, PASS offering it to the other port's queue
and DROP discarding it (R12, R14, R15, R115). That the request identifier in force is the setting as it stands is the
model's choice, notes/assumptions/36.md. -/
def Obligations.SuspendedTableStillTakesTheDriverDemand : Prop :=
  ∀ (s : State) (p : Port) (f : Frame), s.running = true → (s.port p).onBus = true → s.route.state = .suspended →
    (p = .v → s.route.mergeId = some f.id →
      (f.remote = false → f.dlc.val = 8 →
        ∃ t, exec (.frameReceived p f) s = .next t ∧
          t.calm = ({ s.afterTaking p with merger := { s.merger with driver := {
            demands := ⟨4 * (byteAt f.data 0).toNat, 4 * (byteAt f.data 1).toNat, 4 * (byteAt f.data 2).toNat,
              4 * (byteAt f.data 3).toNat⟩
            age := .fresh
            stale := some ⟨s.now, s.work.settings.demandStale⟩
            loss := some ⟨s.now, s.work.settings.demandLoss⟩
            last := some ⟨f.id, f.data⟩ } } } : State).calm) ∧
      (f.remote = true ∨ f.dlc.val ≠ 8 → exec (.frameReceived p f) s = .next (s.afterTaking p))) ∧
    (p = .v → s.route.mergeId ≠ some f.id → f.id = s.work.settings.requestId → f.remote = true →
      exec (.frameReceived p f) s = .next (s.afterTaking p)) ∧
    ((p = .v → s.route.mergeId ≠ some f.id ∧ s.work.settings.requestId ≠ f.id) →
      (s.work.settings.defaultAction p = .drop → exec (.frameReceived p f) s = .next (s.afterTaking p)) ∧
      (s.work.settings.defaultAction p = .pass → exec (.frameReceived p f) s = .next (s.offering p f false)))

/-! ### Signals (chapter 2) -/

/-- The raw field of an entry that lies within bytes 0 to 7: bit `i` is the bit R26's walk reaches, and no bit stands
beyond the length (R24, R26). -/
def Obligations.RawFieldIsAssembledBitByBit : Prop :=
  ∀ (e : SigEntry) (data : List Byte), e.bitOff ≤ 7 → 1 ≤ e.length → e.length ≤ 16 → e.fits = true →
    e.raw data < 2 ^ e.length ∧
    ∀ i, i < e.length → (e.raw data).testBit i =
      (byteAt data (if e.big then e.bytePos - (e.bitOff + i) / 8 else e.bytePos + (e.bitOff + i) / 8)).getLsbD
        ((e.bitOff + i) % 8)

/-- For a role other than the WHEEL roles: the sign-adjusted raw value times the gain over 1024, rounded half away
from zero, plus the offset, held to the role's range, which is the one of R28's table (R28). -/
def Obligations.ScaledValueIsRoundedAndClamped : Prop :=
  ∀ (e : SigEntry) (data : List Byte), e.role.isWheel = false →
    (∃ x q : Int,
      x = (if e.signed = true ∧ 2 ^ (e.length - 1) ≤ e.raw data then (e.raw data : Int) - 2 ^ e.length else e.raw data) ∧
      1024 * |q| ≤ |x * e.gain| + 512 ∧ |x * e.gain| + 512 < 1024 * (|q| + 1) ∧ 0 ≤ q * (x * e.gain) ∧
      e.value data = max e.role.range.1 (min e.role.range.2 (q + e.offset))) ∧
    (e.role = .grade → e.role.range = (-450, 450)) ∧ (e.role = .payload → e.role.range = (0, 20000)) ∧
    (e.role = .drumSpeed → e.role.range = (-200, 200)) ∧ (e.role = .engineTorque → e.role.range = (0, 4000)) ∧
    (e.role = .gearRatio → e.role.range = (-20000, 20000)) ∧ (e.role = .reservoir → e.role.range = (0, 1500)) ∧
    (e.role = .parkStatus → e.role.range = (0, 3)) ∧
    (e.role = .parkReleaseReq ∨ e.role = .driverPresent ∨ e.role = .pendantActive ∨ e.role = .holdInhibit ∨
      e.role = .liftAxle → e.role.range = (0, 1))

/-- For a WHEEL role the value is the raw value, unscaled; with a direction sub-field its two bits give forward for 1,
backward for 2 and unknown for 0 and 3, and without one the code is none (R29). -/
def Obligations.WheelValueIsTheRawCount : Prop :=
  ∀ (e : SigEntry) (data : List Byte) (w : Wheel), e.role = .wheel w →
    e.value data = e.raw data ∧ 0 ≤ e.value data ∧ e.value data ≤ 2 ^ e.length - 1 ∧
    (e.dirSub = none → e.dirCode data = .none) ∧
    (∀ b o, e.dirSub = some (b, o) → o ≤ 6 →
      let lo := (byteAt data b).getLsbD o
      let hi := (byteAt data b).getLsbD (o + 1)
      e.dirCode data = if lo && !hi then .forward else if !lo && hi then .backward else .unknown)

/-- FRAME_RECEIVED with one signal to extract, named once or more often in the list of a TAKE entry: it is extracted
once. A short frame and a no-data field each count one event and leave every record; otherwise the record is renewed,
its marker taken, and the other records stand. The next state is then that of the role's consumers, who take the notice
from the state with the record renewed: the grade window, payload limiter, reversal tracker and creep monitor their sample,
then the calculator works afresh; the drive-away test, the PARK_STATUS renewal, the release request, the usable set,
the entry test and the SECURING notices of RESERVOIR, DRIVER_PRESENT and PENDANT_ACTIVE as each role has it. Their order
is the model's choice, notes/assumptions/7.md (R1, R10, R27, R30, R31, R32, R33, R59, R60, R75, R85, R104). -/
def Obligations.ExtractionRenewsOrCounts : Prop :=
  ∀ (s : State) (p : Port) (f : Frame) (r : RouteEntry) (k : Fin 20) (e : SigEntry),
    s.running = true → (s.port p).onBus = true → s.route.state = .inForce → s.signals.state = .inForce →
    f.remote = false → s.matchEntry p f = some r → r.action = .take → r.extract ≠ [] → (∀ j ∈ r.extract, j = k) →
    e = s.work.signals.get k → e.role ≠ .none →
    (e.short f.dlc.val = true → exec (.frameReceived p f) s = .next { s.afterTaking p with
      counters := s.counters.set .shortFrames s.counters.shortFrames.bump }) ∧
    (e.short f.dlc.val = false → e.noData f.data = true → exec (.frameReceived p f) s = .next { s.afterTaking p with
      counters := s.counters.set .noDataFields s.counters.noDataFields.bump }) ∧
    (e.short f.dlc.val = false → e.noData f.data = false → ∃ t, exec (.frameReceived p f) s = .next t ∧
      t.signals.records.get k = {
        value := e.value f.data, age := .fresh, updated := false
        stale := some ⟨s.now, e.stale⟩, loss := some ⟨s.now, e.loss⟩
        dir := if e.role.isWheel then e.dirCode f.data else (s.signals.records.get k).dir } ∧
      (∀ j, j ≠ k → t.signals.records.get j = s.signals.records.get j) ∧
      (e.role ≠ .grade → t.signals.window = s.signals.window) ∧
      (e.role = .grade → t.signals.window = pushWindow s.signals.window (e.value f.data)) ∧
      t.portV = (s.afterTaking p).portV ∧ t.portB = (s.afterTaking p).portB ∧
      t.vToB = s.vToB ∧ t.bToV = s.bToV ∧ t.work = s.work ∧ t.store = s.store) ∧
    (e.short f.dlc.val = false → e.noData f.data = false →
      let before := s.signals.records.get k
      let value := e.value f.data
      let code := if e.role.isWheel then e.dirCode f.data else before.dir
      let u := (s.afterTaking p).setRecord k
        ⟨value, .fresh, true, some ⟨s.now, e.stale⟩, some ⟨s.now, e.loss⟩, code⟩
      let wasOne := before.age ≠ .lost ∧ before.value = 1
      let answers (t : State) : Prop := exec (.frameReceived p f) s =
        .next (t.setRecord k { t.signals.records.get k with updated := false })
      (e.role = .grade → answers (u.gradeSample value).evaluate.testEntry) ∧
      (e.role = .payload → answers
        (u.setPayload (limitPayload s.work.settings s.calculator.payloadUsed value.toNat)).evaluate) ∧
      (e.role = .drumSpeed → answers (u.drumSample value).evaluate) ∧
      (e.role = .engineTorque ∨ e.role = .gearRatio → answers u.driveNotice) ∧
      (e.role = .reservoir → answers u.evaluate.testEntry) ∧
      (e.role = .parkStatus → answers (u.parkRenewal value)) ∧
      (e.role = .parkReleaseReq → value = 1 → ¬wasOne → answers u.releaseRequest) ∧
      (e.role = .parkReleaseReq → value ≠ 1 ∨ wasOne → answers u) ∧
      (e.role = .driverPresent → value ≠ 1 → wasOne → answers (u.testEntry.securingNotice .driverAbsent)) ∧
      (e.role = .driverPresent → value = 1 ∨ ¬wasOne → answers u.testEntry) ∧
      (e.role = .pendantActive → value = 1 → ¬wasOne → answers (u.testEntry.securingNotice .pendant)) ∧
      (e.role = .pendantActive → value ≠ 1 ∨ wasOne → answers u.testEntry) ∧
      (e.role = .holdInhibit → answers u.testEntry) ∧
      (e.role = .liftAxle → answers (u.rework.noticeSet s.channels.derived)) ∧
      (∀ w, e.role = .wheel w → answers (u.watchWheels.wheelSample w value.toNat code)))

/-- STALE_TIMER_EXPIRY and LOSS_TIMER_EXPIRY: a FRESH record goes HELD with its value and loss timer kept, a FRESH or
HELD one goes LOST with its value kept and both timers stopped; of what notices do not change, the rest stands (R31).
The time that an expiry leaves is the model's choice, notes/assumptions/4.md. -/
def Obligations.SignalExpiriesAgeTheRecord : Prop :=
  ∀ (s : State) (k : Fin 20) (x : Running), s.awake = true →
    ((s.signals.records.get k).stale = some x → (s.signals.records.get k).age = .fresh →
      ∃ t, exec (.staleTimerExpiry k) s = .next t ∧
        t.signals.records.get k = { s.signals.records.get k with age := .held, stale := none } ∧
        t.quiet = ((s.reach x).setRecord k { s.signals.records.get k with age := .held, stale := none }).quiet) ∧
    ((s.signals.records.get k).loss = some x → (s.signals.records.get k).age ≠ .lost →
      ∃ t, exec (.lossTimerExpiry k) s = .next t ∧
        t.signals.records.get k = { s.signals.records.get k with age := .lost, stale := none, loss := none } ∧
        t.quiet =
          ((s.reach x).setRecord k { s.signals.records.get k with age := .lost, stale := none, loss := none }).quiet)

/-- The grade window takes a sample at its end, dropping the oldest of five; g_f is the sample that stands at position
n / 2 of the samples sorted ascending. The payload limiter: a sample at or above payload used is taken up to the
maximum, one below lowers payload used by at most the fall step and not below the sample. LOSS_TIMER_EXPIRY of PAYLOAD
makes payload used the maximum payload setting (R31, R34, R64). The time that an expiry leaves is the model's choice,
notes/assumptions/4.md. -/
def Obligations.GradeAndPayloadAreFiltered : Prop :=
  ((∀ (w : List Int) (x : Int), w.length < 5 → pushWindow w x = w ++ [x]) ∧
  (∀ (w : List Int) (y x : Int), (y :: w).length = 5 → pushWindow (y :: w) x = w ++ [x]) ∧
  (∀ w : List Int, ∃ sorted : List Int, sorted.Perm w ∧ sorted.Pairwise (· ≤ ·) ∧
    filteredGrade w = sorted[w.length / 2]?)) ∧
  (∀ (set : Settings) (used sample : Nat), used ≤ set.maxPayload →
    limitPayload set used sample ≤ set.maxPayload ∧
    used ≤ limitPayload set used sample + set.payloadFallStep ∧
    (used ≤ sample → limitPayload set used sample = min sample set.maxPayload) ∧
    (sample < used → sample ≤ limitPayload set used sample ∧ limitPayload set used sample ≤ used ∧
      (limitPayload set used sample = sample ∨ limitPayload set used sample + set.payloadFallStep = used))) ∧
  ∀ (s : State) (k : Fin 20) (x : Running), s.awake = true → (s.signals.records.get k).loss = some x →
    (s.signals.records.get k).age ≠ .lost → s.signals.bindings.get k = .payload →
    ∃ t, exec (.lossTimerExpiry k) s = .next t ∧ t.calculator.payloadUsed = s.work.settings.maxPayload ∧
      (t.signals.records.get k).age = .lost ∧
      t.quiet = ((s.reach x).setRecord k
        { s.signals.records.get k with age := .lost, stale := none, loss := none }).quiet

/-- The reversal tracker: a sample of 0 or of the kept sign changes nothing, a first nonzero sample is kept, an
opposite one is a drum reversal, which starts or restarts the window timer for the reversal window.
REVERSAL_WINDOW_EXPIRY stops the timer and tells the calculator, which works the record afresh: in SECURING it then
stands as that evaluation gives it (R36, R37, R59, R60). That a window of 0 s leaves a running
timer as it was, notes/assumptions/31.md, and the time that an expiry leaves, notes/assumptions/4.md, are the model's
choices. -/
def Obligations.OppositeDrumSpeedOpensTheReversalWindow : Prop :=
  (∀ (s : State) (x : Int),
    (x = 0 → s.drumSample x = s) ∧
    (x ≠ 0 → s.signals.keptSign = .none →
      s.drumSample x = { s with signals := { s.signals with keptSign := if 0 < x then .positive else .negative } }) ∧
    ((0 < x ∧ s.signals.keptSign = .positive) ∨ (x < 0 ∧ s.signals.keptSign = .negative) → s.drumSample x = s) ∧
    ((0 < x ∧ s.signals.keptSign = .negative) ∨ (x < 0 ∧ s.signals.keptSign = .positive) →
      (s.drumSample x).signals.keptSign = (if 0 < x then .positive else .negative) ∧
      (s.drumSample x).signals.reversal = (if s.work.settings.reversalWindow = 0 then s.signals.reversal
        else some ⟨s.now, 1000 * s.work.settings.reversalWindow⟩) ∧
      (s.drumSample x).signals.records = s.signals.records ∧ (s.drumSample x).signals.window = s.signals.window)) ∧
  ∀ (s : State) (x : Running), s.awake = true → s.signals.reversal = some x →
    ∃ t, exec .reversalWindowExpiry s = .next t ∧ t.signals = { s.signals with reversal := none } ∧
      t.calm = { s with now := max s.now (x.start + x.dur), signals := { s.signals with reversal := none } }.calm ∧
      (s.sup.state = .securing →
        t.calculator.record = ({ s with signals := { s.signals with reversal := none } } : State).evaluation)

/-! ### Channels (chapter 3) -/

/-- STATUS_STALE_EXPIRY and STATUS_LOSS_EXPIRY: a FRESH status goes HELD; a FRESH or HELD one goes LOST with both
timers stopped and the lost-since-read marker set, and an expected channel is then LOST (R49, R50). The time that an
expiry leaves is the model's choice, notes/assumptions/4.md. -/
def Obligations.StatusExpiriesAgeTheChannel : Prop :=
  ∀ (s : State) (c : Chan) (x : Running), s.awake = true →
    ((s.channels.records.get c).stale = some x → (s.channels.records.get c).age = .fresh →
      ∃ t, exec (.statusStaleExpiry c) s = .next t ∧ (t.channels.records.get c).age = .held ∧
        (t.channels.records.get c).stale = none ∧
        (t.channels.records.get c).loss = (s.channels.records.get c).loss ∧
        (t.channels.records.get c).pressure = (s.channels.records.get c).pressure ∧
        (t.channels.records.get c).fault = (s.channels.records.get c).fault ∧
        t.calm = ((s.reach x).setChannel c { s.channels.records.get c with age := .held, stale := none }).calm) ∧
    ((s.channels.records.get c).loss = some x → (s.channels.records.get c).age ≠ .lost →
      ∃ t, exec (.statusLossExpiry c) s = .next t ∧ (t.channels.records.get c).age = .lost ∧
        (t.channels.records.get c).stale = none ∧ (t.channels.records.get c).loss = none ∧
        (t.channels.records.get c).lostSinceRead = true ∧
        ((s.channels.records.get c).handshake ≠ .absent → (t.channels.records.get c).handshake = .lost) ∧
        (∀ d, d ≠ c → (t.channels.records.get d).calm = (s.channels.records.get d).calm) ∧
        t.signals = s.signals ∧ t.work = s.work ∧ t.store = s.store)

/-- FRAME_RECEIVED: an advert that repeats the copy for the third time in LISTENING, its fault flag clear, is answered
with an accept frame in the control queue and the channel is ACCEPTED; with the flag set it is FAULT. An identical advert
in ACCEPTED, SHORT or FAULT keeps the record and is answered again, where the control queue has room. Earlier identical
adverts in LISTENING raise the count; one that differs, a first one, and any advert in LOST become the copy with count 1 in
LISTENING, and the check state is kept unless the copy differed (R42, R43, R44, R45, R46, R47, R125). -/
def Obligations.ThirdIdenticalAdvertIsAccepted : Prop :=
  (∀ (s : State) (p : Port) (f : Frame) (c : Chan), s.HandsTo p f .channel → s.channels.state = .inForce →
    frameKind f = 1#4 → 4 ≤ f.dlc.val → s.identifierChannel f.id = some c → (frameChannel f).toNat = c.number →
    1 ≤ (byteAt f.data 1).toNat → (byteAt f.data 1).toNat ≤ 250 →
    (s.channels.records.get c).handshake = .listening → (s.channels.records.get c).count = 2 →
    (s.channels.records.get c).advert = some (frameAdvert f) → s.merger.control.length < 4 →
    ∃ t, exec (.frameReceived p f) s = .next t ∧
      (t.channels.records.get c).handshake =
        (if (s.channels.records.get c).fault then .fault else .accepted) ∧
      (t.channels.records.get c).count = 3 ∧ (t.channels.records.get c).advert = some (frameAdvert f) ∧
      t.merger.control = s.merger.control ++ [⟨(s.work.channels.get c).acceptId, false, 4,
        [3#4 ++ frameChannel f, byteAt f.data 1, if (byteAt f.data 2).getLsbD 0 then 1#8 else 0#8, byteAt f.data 3]⟩] ∧
      t.signals = s.signals ∧ t.work = s.work ∧ t.store = s.store ∧ t.vToB = s.vToB ∧ t.bToV = s.bToV) ∧
  ∀ (s : State) (p : Port) (f : Frame) (c : Chan), s.HandsTo p f .channel → s.channels.state = .inForce →
    frameKind f = 1#4 → 4 ≤ f.dlc.val → s.identifierChannel f.id = some c → (frameChannel f).toNat = c.number →
    1 ≤ (byteAt f.data 1).toNat → (byteAt f.data 1).toNat ≤ 250 → s.channels.derived = s.deriveChannels →
    let r := s.channels.records.get c
    let a := frameAdvert f
    let accept : Frame := ⟨(s.work.channels.get c).acceptId, false, 4,
      [3#4 ++ frameChannel f, byteAt f.data 1, if (byteAt f.data 2).getLsbD 0 then 1#8 else 0#8, byteAt f.data 3]⟩
    let becomes (n : ChannelRecord) : Prop := exec (.frameReceived p f) s = .next { s.afterTaking p with
      channels := { s.channels with records := s.channels.records.set c n } }
    (r.handshake = .accepted ∨ r.handshake = .short ∨ r.handshake = .fault → r.advert = some a →
      exec (.frameReceived p f) s = .next { s.afterTaking p with merger := { s.merger with
        control := if s.merger.control.length < 4 then s.merger.control ++ [accept] else s.merger.control } }) ∧
    (r.handshake = .listening → r.count < 2 → r.advert = some a → becomes { r with count := r.count + 1 }) ∧
    (r.handshake = .listening ∧ r.advert ≠ some a ∨ r.handshake = .lost →
      becomes { r with advert := some a, count := 1, handshake := .listening
                       check := if r.advert = none ∨ r.advert = some a then r.check else .unchecked })

/-- An advert that differs from the copy a record holds makes its check state UNCHECKED, whatever the handshake state,
but in ABSENT, where no advert is taken; an identical one, or a first one, leaves the check state. FRAME_RECEIVED: an
advert without an identifier channel, with another channel's number or with an advertised maximum outside 1 to 250
units is counted and changes nothing else (R42, R43, R46). -/
def Obligations.AdvertsThatDifferLoseTheCheck : Prop :=
  (∀ (r : ChannelRecord) (a : Advert),
    (∀ old, r.handshake ≠ .absent → r.advert = some old →
      ¬(old.channel = a.channel ∧ old.max = a.max ∧ old.liftable = a.liftable ∧ old.revision = a.revision) →
      (r.takeAdvert a).check = .unchecked ∧ (r.takeAdvert a).advert = some a ∧ (r.takeAdvert a).count = 1 ∧
      (r.takeAdvert a).handshake = .listening) ∧
    (r.advert = some a ∨ r.advert = none → (r.takeAdvert a).check = r.check) ∧
    (r.takeAdvert a).age = r.age ∧ (r.takeAdvert a).lostSinceRead = r.lostSinceRead ∧
    (r.takeAdvert a).pressure = r.pressure) ∧
  ∀ (s : State) (p : Port) (f : Frame), s.HandsTo p f .channel → s.channels.state = .inForce →
    frameKind f = 1#4 → 4 ≤ f.dlc.val →
    (∀ c, s.identifierChannel f.id = some c →
      (frameChannel f).toNat ≠ c.number ∨ (byteAt f.data 1).toNat < 1 ∨ 250 < (byteAt f.data 1).toNat) →
    exec (.frameReceived p f) s = .next { s.afterTaking p with
      counters := s.counters.set .unknownAdverts s.counters.unknownAdverts.bump }

/-- FRAME_RECEIVED: a status frame sets the channel's pressure and fault flag, makes its status FRESH and restarts
both timers; a set fault flag takes ACCEPTED and SHORT to FAULT (R42, R48). -/
def Obligations.StatusFrameRenewsTheChannel : Prop :=
  ∀ (s : State) (p : Port) (f : Frame) (c : Chan), s.HandsTo p f .channel → s.channels.state = .inForce →
    frameKind f = 2#4 → 3 ≤ f.dlc.val → s.identifierChannel f.id = some c → (frameChannel f).toNat = c.number →
    ∃ t, exec (.frameReceived p f) s = .next t ∧
      (t.channels.records.get c).pressure = 4 * (byteAt f.data 1).toNat ∧
      (t.channels.records.get c).fault = (byteAt f.data 2).getLsbD 0 ∧
      (t.channels.records.get c).age = .fresh ∧
      (t.channels.records.get c).stale = some ⟨s.now, s.work.settings.statusStale⟩ ∧
      (t.channels.records.get c).loss = some ⟨s.now, s.work.settings.statusLoss⟩ ∧
      ((s.channels.records.get c).handshake = .accepted ∨ (s.channels.records.get c).handshake = .short →
        (byteAt f.data 2).getLsbD 0 = true → (t.channels.records.get c).handshake = .fault) ∧
      ((s.channels.records.get c).handshake = .listening → (t.channels.records.get c).handshake = .listening) ∧
      (∀ d, d ≠ c → (t.channels.records.get d).calm = (s.channels.records.get d).calm) ∧
      t.signals = s.signals ∧ t.work = s.work ∧ t.store = s.store ∧ t.vToB = s.vToB ∧ t.bToV = s.bToV

/-- A channel is lifted when its setting or its advert copy makes it liftable and LIFT_AXLE is bound and raised or LOST.
It is usable exactly when the table is IN FORCE, it is ACCEPTED, its status FRESH or HELD, its axle not lifted and its
check PASSED, or UNCHECKED with check required off. B is the sum of the usable channels' brake factors; the lowest
advertised maximum is one of the usable channels' maxima and not above any of them, and is absent exactly when no usable
channel has an advert copy (R53, R54, R55, R57). -/
def Obligations.UsableSetGivesTheBrakeFactorSum : Prop :=
  ∀ s : State,
    (∀ c, s.lifted c = true ↔
      ((s.work.channels.get c).liftable = true ∨
        ∃ a, (s.channels.records.get c).advert = some a ∧ a.liftable = true) ∧
      ∃ k, s.signalOf .liftAxle = some k ∧
        ((s.signals.records.get k).age = .lost ∨ (s.signals.records.get k).value = 1)) ∧
    (∀ c, s.deriveChannels.usable.get c = true ↔
      s.channels.state = .inForce ∧ (s.channels.records.get c).handshake = .accepted ∧
      (s.channels.records.get c).age ≠ .lost ∧ s.lifted c = false ∧
      ((s.channels.records.get c).check = .passed ∨
        (s.work.settings.checkRequired = false ∧ (s.channels.records.get c).check = .unchecked))) ∧
    s.deriveChannels.b =
      (if s.channelUsable .c1 then s.work.channels.c1.brakeFactor else 0) +
      (if s.channelUsable .c2 then s.work.channels.c2.brakeFactor else 0) +
      (if s.channelUsable .c3 then s.work.channels.c3.brakeFactor else 0) +
      (if s.channelUsable .c4 then s.work.channels.c4.brakeFactor else 0) ∧
    (s.deriveChannels.lowestMax = none ↔
      ∀ c, s.channelUsable c = true → (s.channels.records.get c).advert = none) ∧
    (∀ m, s.deriveChannels.lowestMax = some m →
      (∃ c a, s.channelUsable c = true ∧ (s.channels.records.get c).advert = some a ∧ m = 4 * a.max.toNat) ∧
      ∀ c a, s.channelUsable c = true → (s.channels.records.get c).advert = some a → m ≤ 4 * a.max.toNat)

/-! ### Creep monitor (chapter 6) -/

/-- REST_TIMER_EXPIRY sets the wheel's still marker, keeps its last count and leaves the other wheels; the rest
condition is worked afresh (R106, R107). The time that an expiry leaves is the model's choice, notes/assumptions/4.md. -/
def Obligations.RestTimerMakesTheWheelStill : Prop :=
  ∀ (s : State) (w : Wheel) (x : Running), s.awake = true → (s.creep.wheels.get w).rest = .running x →
    ∃ t, exec (.restTimerExpiry w) s = .next t ∧
      t.creep.wheels.get w = { s.creep.wheels.get w with rest := .expired, still := true } ∧
      (∀ v, v ≠ w → t.creep.wheels.get v = s.creep.wheels.get v) ∧
      (t.creep.restHolds = true ↔ (∃ u v, u ≠ v ∧ (t.creep.wheels.get u).watched = true ∧
          (t.creep.wheels.get v).watched = true) ∧
        ∀ v, (t.creep.wheels.get v).watched = true → (t.creep.wheels.get v).still = true) ∧
      t.quiet = (s.reach x).quiet

/-- A wheel's first sample becomes its last count, starts the rest timer with the still marker clear and, in a hold state,
fills an absent reference count of its entry. A later count that is a movement becomes the last count and starts the rest
timer afresh with the still marker clear; an increment of 0 changes nothing; one above half the counter's range is a
glitch, which is counted and becomes the last count and the reference count of the wheel's entry, the accumulators, rest
timer, still marker and everything else as they were (R105, R106, R107). -/
def Obligations.WheelSampleIsMovementOrGlitch : Prop :=
  (∀ (s : State) (w : Wheel) (count : Nat) (code : DirCode), (s.creep.wheels.get w).last = none →
    let t := s.wheelSample w count code
    let tracks := s.creep.wheels.set w { s.creep.wheels.get w with
      last := some count, rest := .running ⟨s.now, s.work.settings.restTime⟩, still := false }
    let fill (c : Context) : Context := { c with
      wheels := c.wheels.set w ((c.wheels.get w).map fun e => { e with reference := some (e.reference.getD count) }) }
    t.creep.wheels = tracks ∧ t.quiet = s.quiet ∧
    ((s.creep.wheels.get w).watched = true ∨ s.creep.restHolds = restCondition s.creep.wheels →
      t.counters = s.counters) ∧
    (s.sup.state.isHold = true → t = { s with
      creep := ⟨tracks, restCondition tracks, s.creep.watchedCount⟩
      sup := { s.sup with ctx := s.sup.ctx.map fill } })) ∧
  ∀ (s : State) (w : Wheel) (count last : Nat) (code : DirCode), (s.creep.wheels.get w).last = some last →
    last < 2 ^ s.wheelLength w → count < 2 ^ s.wheelLength w → 1 ≤ s.wheelLength w →
    let inc := if last ≤ count then count - last else count + 2 ^ s.wheelLength w - last
    let refer (c : Context) : Context := { c with
      wheels := c.wheels.set w ((c.wheels.get w).map fun e => { e with reference := some count }) }
    (inc = 0 → s.wheelSample w count code = s) ∧
    (1 ≤ inc → inc ≤ 2 ^ (s.wheelLength w - 1) →
      (s.wheelSample w count code).creep.wheels.get w = { s.creep.wheels.get w with
        last := some count, rest := .running ⟨s.now, s.work.settings.restTime⟩, still := false } ∧
      (s.wheelSample w count code).quiet = s.quiet) ∧
    (2 ^ (s.wheelLength w - 1) < inc →
      (s.wheelSample w count code).creep.wheels.get w = { s.creep.wheels.get w with last := some count } ∧
      s.wheelSample w count code = { s with
        creep := { s.creep with wheels := s.creep.wheels.set w { s.creep.wheels.get w with last := some count } }
        counters := s.counters.set .wheelGlitches s.counters.wheelGlitches.bump
        sup := { s.sup with ctx := s.sup.ctx.map refer } })

/-- A wheel is watched exactly when its role is bound and its record is not LOST; one that is not has no last count, no
rest timer, no still marker, and no reference in a context, whose accumulators stand. LOSS_TIMER_EXPIRY of a WHEEL
record: the wheel is watched no more and loses its tracking, the watched ones keep theirs, and in HOLDING and RELEASING a
number that has changed to below two secures with reason WHEEL-LOST (R31, R88, R90, R91, R104, R108). The time that an
expiry leaves is the model's choice, notes/assumptions/4.md. -/
def Obligations.UnwatchedWheelLosesItsTracking : Prop :=
  (∀ (s : State) (w : Wheel),
    (s.wheelWatched w = true ↔
      ∃ k, s.signalOf (.wheel w) = some k ∧ (s.signals.records.get k).age ≠ .lost) ∧
    (s.wheelWatched w = true → s.trackWheels.creep.wheels.get w = { s.creep.wheels.get w with watched := true }) ∧
    (s.wheelWatched w = false → s.trackWheels.creep.wheels.get w = ⟨false, none, .stopped, false⟩) ∧
    s.trackWheels.creep.watchedCount = (Wheel.all.filter s.wheelWatched).length ∧
    (∀ c e, s.sup.ctx = some c → c.wheels.get w = some e → ∃ c', s.trackWheels.sup.ctx = some c' ∧
      c'.wheels.get w = some (if s.wheelWatched w then e else { e with reference := none }))) ∧
  ∀ (s : State) (k : Fin 20) (w : Wheel) (x : Running), s.awake = true → s.signals.bindings.get k = .wheel w →
    s.signalOf (.wheel w) = some k → (s.signals.records.get k).loss = some x →
    (s.signals.records.get k).age ≠ .lost →
    ∃ t, exec (.lossTimerExpiry k) s = .next t ∧
      t.creep.wheels.get w = ⟨false, none, .stopped, false⟩ ∧
      (∀ v, v ≠ w → s.wheelWatched v = true →
        t.creep.wheels.get v = { s.creep.wheels.get v with watched := true }) ∧
      t.creep.watchedCount = (Wheel.all.filter fun v => s.wheelWatched v && decide (v ≠ w)).length ∧
      (s.sup.state = .holding ∨ s.sup.state = .releasing →
        (t.creep.watchedCount < 2 → t.creep.watchedCount ≠ s.creep.watchedCount →
          t.sup.state = .securing ∧ t.sup.reason = .wheelLost ∧ t.park.prq = true ∧
          t.counters = s.counters.set .secures s.counters.secures.bump) ∧
        (2 ≤ t.creep.watchedCount → t.sup.state = s.sup.state ∧ t.park = s.park ∧ t.counters = s.counters))

/-- In a context, a movement of a wheel with an entry is added to one accumulator, held to 65535: to the uphill one for a
direction code that is the context's uphill direction, to none for a wheel without a code in RELEASING, else to the
downhill one. A downhill accumulator at or above the creep threshold is creep: a report, with every entry zeroed and its
reference the wheel's last count. A sample that is a movement in a hold state comes to this with its tracking record
moved and the rest condition worked afresh (R105, R106, R107, R110, R111). -/
def Obligations.MovementAccumulatesToCreep : Prop :=
  (∀ (s : State) (c : Context) (w : Wheel) (e : WheelEntry) (inc : Nat) (code : DirCode),
    s.sup.ctx = some c → c.wheels.get w = some e →
    let uphill := (code = .forward ∧ c.uphill = some .forward) ∨ (code = .backward ∧ c.uphill = some .backward)
    let uncounted := code = .none ∧ s.sup.state = .releasing
    let total := min (e.down + inc) 65535
    let entries (es : PerWheel (Option WheelEntry)) : State :=
      { s with sup := { s.sup with ctx := some { c with wheels := es } } }
    (uphill → s.accumulate w inc code =
      entries (c.wheels.set w (some { e with up := min (e.up + inc) 65535 }))) ∧
    (uncounted → s.accumulate w inc code = s) ∧
    (¬uphill → ¬uncounted → total < s.work.settings.creepThreshold →
      s.accumulate w inc code = entries (c.wheels.set w (some { e with down := total }))) ∧
    (¬uphill → ¬uncounted → s.work.settings.creepThreshold ≤ total →
      s.accumulate w inc code = (entries (PerWheel.build fun v =>
        if (c.wheels.get v).isSome then some ⟨(s.creep.wheels.get v).last, 0, 0⟩ else none)).creepReport)) ∧
  ∀ (s : State) (w : Wheel) (count last : Nat) (code : DirCode), (s.creep.wheels.get w).last = some last →
    last < 2 ^ s.wheelLength w → count < 2 ^ s.wheelLength w → 1 ≤ s.wheelLength w →
    s.sup.state.isHold = true → s.path.testing = false →
    let inc := if last ≤ count then count - last else count + 2 ^ s.wheelLength w - last
    let tracks := s.creep.wheels.set w { s.creep.wheels.get w with
      last := some count, rest := .running ⟨s.now, s.work.settings.restTime⟩, still := false }
    1 ≤ inc → inc ≤ 2 ^ (s.wheelLength w - 1) →
    s.wheelSample w count code = State.accumulate
      { s with creep := ⟨tracks, restCondition tracks, s.creep.watchedCount⟩ } w inc code

/-- A creep report. In HOLDING, in SECURING and in an UPHILL release below step 3 the step rises by one, the escalation is
counted and the record is worked afresh at the new step; an UPHILL release goes back to HOLDING, and HOLDING is left, for
SECURING with reason INSUFFICIENT, exactly when that record is insufficient. At step 3 a rollaway is counted: HOLDING and
an UPHILL release go to SECURING with reason ROLLAWAY, SECURING takes that reason. In SECURED the reinforcement flag is
set and a pending handover dropped; a DOWNHILL release, UNAVAILABLE, STANDBY and CHECKING do not heed it (R59, R60, R81,
R87, R90, R93, R95, R98). -/
def Obligations.CreepEscalatesOrRollsAway : Prop :=
  (∀ s : State, s.sup.state = .unavailable ∨ s.sup.state = .standby ∨ s.sup.state = .checking → s.creepReport = s) ∧
  ∀ (s : State) (c : Context), s.sup.ctx = some c →
    let t := s.creepReport
    let raised : Context := { c with step := c.step + 1 }
    let record := State.evaluation { s with sup := { s.sup with ctx := some raised } }
    let counted := s.counters.set .escalations s.counters.escalations.bump
    let rolled := s.counters.set .rollaways s.counters.rollaways.bump
    let secured := t.sup.state = .securing ∧ t.park.prq = true ∧ t.park.conf = .waiting ∧ t.merger.mode = .secure ∧
      t.sup.ctx = some { c with step := t.escalation, release := none, reinforced := false, holdLimit := none }
    let escalated (stay : Context) := t.calculator.record = record ∧ t.escalation = c.step + 1 ∧
      (record.insufficient = false → t.sup = { s.sup with state := .holding, reason := t.sup.reason, ctx := some stay } ∧
        t.park.prq = s.park.prq ∧ t.counters = counted) ∧
      (record.insufficient = true → secured ∧ t.sup.reason = .insufficient ∧
        t.counters = counted.set .secures s.counters.secures.bump)
    let uphillRelease := s.sup.state = .releasing ∧ ∃ rel, c.release = some rel ∧ rel.dir = .uphill
    (s.sup.state = .securing → c.step < 3 → t.calculator.record = record ∧
      t.sup = { s.sup with ctx := some raised } ∧ t.park = s.park ∧ t.counters = counted) ∧
    (s.sup.state = .securing → c.step = 3 → t.sup = { s.sup with reason := .rollaway } ∧
      t.calculator = s.calculator ∧ t.park = s.park ∧ t.counters = rolled) ∧
    (s.sup.state = .holding → c.step < 3 → escalated raised ∧
      (record.insufficient = false → t.sup.reason = s.sup.reason)) ∧
    (uphillRelease → c.step < 3 → escalated { raised with release := none } ∧
      (record.insufficient = false → t.sup.reason = .none ∧ t.merger.mode = .hold)) ∧
    (s.sup.state = .holding ∨ uphillRelease → c.step = 3 → secured ∧ t.escalation = 3 ∧ t.sup.reason = .rollaway ∧
      t.counters = rolled.set .secures s.counters.secures.bump) ∧
    (s.sup.state = .secured → t.sup = { s.sup with ctx := some { c with reinforced := true }, handover := false } ∧
      t.merger.mode = .secure ∧ t.park = s.park ∧ t.counters = s.counters ∧ t.calculator = s.calculator) ∧
    (s.sup.state = .releasing → (∀ rel, c.release = some rel → rel.dir = .downhill) → t = s) ∧
    t.calm = s.calm

/-! ### The hold calculator (chapter 4) -/

/-- A record worked with the tables SUSPENDED or the grade window empty holds P_u, M and B, every other field 0, and is
not valid. With the tables IN FORCE and a filtered grade it holds S, A_d, F_slope, F_drum, F_load, m, F_hold as stages 1
to 7 give them; with B = 0 the pressures are 0, the flag clear and the record not valid; with B above 0 P_raw, P_limit,
P_hold and the insufficient flag are as stages 8 to 10 give them, and it is valid. Each "rounded up" is the least
integer not below the quotient. S is the grade curve at g_f; A_d is 400 for a LOST drum speed, else the drum curve at
the speed's magnitude, at 0 for an unbound one, plus the reversal allowance while the window runs, held to 400 (R61,
R63, R65, R66, R67, R68, R69, R70, R71). That the reservoir's bound does not fall below 0 is read by inference,
notes/assumptions/29.md. -/
def Obligations.RecordIsWorkedStageByStage : Prop :=
  (∀ s : State, s.calculator.state = .suspended ∨ s.gf = none →
    let set := s.work.settings
    s.evaluation = ⟨0, s.calculator.payloadUsed, min (set.chassisMass + s.calculator.payloadUsed) set.maxGross, 0, 0, 0,
      0, 0, 0, s.channels.derived.b, 0, 0, 0, false, false⟩) ∧
  ∀ (s : State) (g : Int), s.calculator.state = .inForce → s.gf = some g →
    let r := s.evaluation
    let set := s.work.settings
    let full := r.load + (r.load * r.margin + 999) / 1000
    let drum := s.work.drumCurve
    let speed : Nat := match s.effective .drumSpeed with
      | .value v _ => v.natAbs
      | .unbound | .lost => 0
    let extra := if s.signals.reversal.isSome then set.reversalAllowance else 0
    r.slopeS = slopeForce s.work.gradeCurve g ∧
    (s.effective .drumSpeed = .lost → r.drumAllowance = 400) ∧
    (s.effective .drumSpeed ≠ .lost → ∃ a : Nat, r.drumAllowance = min (a + extra) 400 ∧
      (curvesValid s.work.gradeCurve drum = true → (drum.get 4).x ≤ speed → a = (drum.get 4).y) ∧
      (curvesValid s.work.gradeCurve drum = true → ∀ i j : Fin 5, j.val = i.val + 1 → (drum.get i).x ≤ speed →
        speed < (drum.get j).x →
        ((drum.get j).y - (drum.get i).y : Int) * (speed - (drum.get i).x) ≤
          (a - (drum.get i).y : Int) * ((drum.get j).x - (drum.get i).x) ∧
        (a - (drum.get i).y : Int) * ((drum.get j).x - (drum.get i).x) <
          ((drum.get j).y - (drum.get i).y : Int) * (speed - (drum.get i).x) +
            ((drum.get j).x - (drum.get i).x : Int))) ∧
    r.payload = s.calculator.payloadUsed ∧ r.b = s.channels.derived.b ∧
    r.mass = min (set.chassisMass + r.payload) set.maxGross ∧
    r.slopeS * r.mass ≤ 1000 * r.slopeLoad ∧ 1000 * r.slopeLoad < r.slopeS * r.mass + 1000 ∧
    r.slopeS * r.payload * r.drumAllowance ≤ 1000000 * r.drumLoad ∧
    1000000 * r.drumLoad < r.slopeS * r.payload * r.drumAllowance + 1000000 ∧
    r.load = r.slopeLoad + r.drumLoad ∧
    r.margin = set.baseMargin + (match s.sup.ctx with | some c => c.step | none => 0) * set.stepMargin ∧
    r.force = min full 65535 ∧ r.drumAllowance ≤ 400 ∧
    (s.channels.derived.b = 0 → r.pRaw = 0 ∧ r.pLimit = 0 ∧ r.pHold = 0 ∧ r.insufficient = false ∧ r.valid = false) ∧
    (0 < s.channels.derived.b → r.valid = true ∧
      r.force * 10 ≤ r.b * r.pRaw ∧ r.b * r.pRaw < r.force * 10 + r.b ∧
      (s.channels.derived.lowestMax = none →
        r.pLimit = min set.maxServicePressure (s.reservoirValue - set.reservoirReserve)) ∧
      (∀ m, s.channels.derived.lowestMax = some m →
        r.pLimit = min (min set.maxServicePressure (s.reservoirValue - set.reservoirReserve)) m) ∧
      (r.insufficient = true ↔ 65535 < full ∨ r.pLimit < max r.pRaw set.holdFloor) ∧
      r.pHold = (if r.insufficient then r.pLimit else max r.pRaw set.holdFloor))

/-- S from a valid grade curve: exact at a breakpoint's grade, the least integer not below the interpolated force
between two, and the last force at or beyond the last grade; a is held to 450 and the sign of g_f plays no part (R62,
R63). -/
def Obligations.SlopeForceIsInterpolatedUpwards : Prop :=
  ∀ (curve : Vector Breakpoint 8) (drum : Vector Breakpoint 5) (g : Int), curvesValid curve drum = true →
    let a := min g.natAbs 450
    slopeForce curve g = slopeForce curve (-g) ∧
    ((curve.get 7).x ≤ a → slopeForce curve g = (curve.get 7).y) ∧
    ∀ i j : Fin 8, j.val = i.val + 1 → (curve.get i).x ≤ a → a < (curve.get j).x →
      (a = (curve.get i).x → slopeForce curve g = (curve.get i).y) ∧
      (curve.get i).y ≤ slopeForce curve g ∧ slopeForce curve g ≤ (curve.get j).y ∧
      ((curve.get j).y - (curve.get i).y) * (a - (curve.get i).x) ≤
        (slopeForce curve g - (curve.get i).y) * ((curve.get j).x - (curve.get i).x) ∧
      (slopeForce curve g - (curve.get i).y) * ((curve.get j).x - (curve.get i).x) <
        ((curve.get j).y - (curve.get i).y) * (a - (curve.get i).x) + ((curve.get j).x - (curve.get i).x)

/-- The drive-away test. With torque and ratio there it works F_drive rounded down, passes UPHILL exactly for a gear that
drives uphill, with a sample in the window and F_drive at least F_load by 1000 plus the release margin over 1000, the
product rounded up, and DOWNHILL exactly for one that drives the other way with at least the downhill torque; else, and
with torque or ratio LOST or unbound, it fails. A notice of torque or ratio works it in HOLDING and RELEASING with the
context's direction: HOLDING goes on a pass to RELEASING, whose ramp starts from the target; RELEASING goes on FAIL back
to HOLDING, the release part gone, and takes the direction of a pass; in other states it is not worked. Of
LOSS_TIMER_EXPIRY of ENGINE_TORQUE in RELEASING the same is said (R31, R72, R73, R74, R75, R79, R88, R89, R90). F_drive
kept by a test that compares none, notes/assumptions/16.md, and the time that an expiry leaves, notes/assumptions/4.md,
are the model's choices. -/
def Obligations.DriveAwayTestReleasesAndReturns : Prop :=
  (∀ (s : State) (up : Option Heading) (torque ratio : Int) (a b : Bool),
    s.effective .engineTorque = .value torque a → s.effective .gearRatio = .value ratio b →
    let force := (s.driveTest up).2
    let set := s.work.settings
    let uphill := (up = some .forward ∧ 0 < ratio) ∨ (up = some .backward ∧ ratio < 0)
    let downhill := (up = some .forward ∧ ratio < 0) ∨ (up = some .backward ∧ 0 < ratio)
    1000000 * force ≤ torque.toNat * ratio.natAbs * set.drivelineFactor ∧
    torque.toNat * ratio.natAbs * set.drivelineFactor < 1000000 * force + 1000000 ∧
    ((s.driveTest up).1 = .passUphill ↔ uphill ∧ s.gf.isSome = true ∧
      s.calculator.record.load * (1000 + set.releaseMargin) ≤ 1000 * force) ∧
    ((s.driveTest up).1 = .passDownhill ↔ downhill ∧ (set.downhillTorque : Int) ≤ torque)) ∧
  (∀ (s : State) (up : Option Heading),
    (s.effective .engineTorque = .lost ∨ s.effective .engineTorque = .unbound ∨ s.effective .gearRatio = .lost ∨
      s.effective .gearRatio = .unbound) → s.driveTest up = (.fail, 0)) ∧
  (∀ (s : State) (c : Context), s.sup.ctx = some c →
    let o := (s.driveTest c.uphill).1
    let t := s.driveNotice
    (s.sup.state = .holding ∨ s.sup.state = .releasing →
      t.calculator = { s.calculator with lastOutcome := o, lastForce := (s.driveTest c.uphill).2 } ∧
      t.calm = s.calm ∧ t.counters = s.counters) ∧
    (s.sup.state = .holding → o ≠ .fail → t.merger.mode = .ramp ∧ t.merger.conf = .idle ∧ t.sup = { s.sup with
      state := .releasing, reason := .none
      ctx := some { c with release := some ⟨(s.calculator.record.pHold + 3) / 4 * 4,
        ⟨s.now, s.work.settings.rampTime⟩, if o = .passUphill then .uphill else .downhill⟩ } }) ∧
    (s.sup.state = .holding → o = .fail → t.sup = s.sup ∧ t.merger = s.merger) ∧
    (s.sup.state = .releasing → o = .fail → t.merger.mode = .hold ∧
      t.sup = { s.sup with state := .holding, reason := .none, ctx := some { c with release := none } }) ∧
    (∀ rel, s.sup.state = .releasing → o ≠ .fail → c.release = some rel → t.merger = s.merger ∧ t.sup = { s.sup with
      ctx := some { c with release := some { rel with
        dir := if o = .passUphill then .uphill else .downhill } } })) ∧
  (∀ s : State, s.sup.state ≠ .holding → s.sup.state ≠ .releasing → s.driveNotice = s) ∧
  ∀ (s : State) (k : Fin 20) (x : Running) (c : Context), s.awake = true → s.sup.state = .releasing →
    s.sup.ctx = some c → s.signals.bindings.get k = .engineTorque → s.signalOf .engineTorque = some k →
    (s.signals.records.get k).loss = some x → (s.signals.records.get k).age ≠ .lost →
    ∃ t, exec (.lossTimerExpiry k) s = .next t ∧ t.merger.mode = .hold ∧ t.park = { s.park with holdInForce := true } ∧
      t.sup = { s.sup with state := .holding, reason := .none, ctx := some { c with release := none } }

/-! ### The hold supervisor (chapter 5) -/

/-- The unavailable conditions in their order, and what a notice of them does in UNAVAILABLE and STANDBY where no further
entry follows (the driver does not brake and auto-check is off): UNAVAILABLE takes the reason of the first, or goes to
STANDBY with none left, and STANDBY goes to UNAVAILABLE; other states do not move. STATUS_LOSS_EXPIRY of the only usable
channel in STANDBY gives UNAVAILABLE with reason NO-CHANNEL; CLEAR_SAFE_START with the marker the only condition gives
STANDBY (R49, R52, R54, R56, R78, R82, R83, R160, R169). That the conditions are taken before the tests on a new record
is the model's choice, notes/assumptions/7.md; so are the time that an expiry leaves, notes/assumptions/4.md, and that a
row is a request served at once, notes/assumptions/6.md. -/
def Obligations.UnavailableFollowsItsConditions : Prop :=
  (∀ s : State,
    let store := s.store.imageGood = false ∨ s.store.op = .loading
    let config := s.route.state = .suspended ∨ s.signals.state = .suspended ∨ s.channels.state = .suspended ∨
      s.calculator.state = .suspended
    let noChannel := s.channels.derived.b = 0
    (s.unavailableReasons.head? = some .store ↔ store) ∧
    (s.unavailableReasons.head? = some .config ↔ ¬store ∧ config) ∧
    (s.unavailableReasons.head? = some .safeStart ↔ ¬store ∧ ¬config ∧ s.store.marker = true) ∧
    (s.unavailableReasons.head? = some .noChannel ↔ ¬store ∧ ¬config ∧ s.store.marker = false ∧ noChannel) ∧
    (s.unavailableReasons = [] ↔ ¬store ∧ ¬config ∧ s.store.marker = false ∧ ¬noChannel)) ∧
  (∀ s : State, s.work.settings.autoCheck = false → s.driverBraking = false →
    let t := s.noticeConditions
    (s.sup.state = .unavailable → s.unavailableReasons = [] →
      t.sup = ⟨.standby, .none, none, false, s.sup.autoPending⟩ ∧ t.merger.mode = .none ∧
      ∀ k, t.channels.records.get k = (s.channels.records.get k).standby) ∧
    (∀ r rest, s.sup.state = .unavailable → s.unavailableReasons = r :: rest → t.sup = { s.sup with reason := r }) ∧
    (∀ r rest, s.sup.state = .standby → s.unavailableReasons = r :: rest →
      t.sup = ⟨.unavailable, r, none, false, s.sup.autoPending⟩ ∧ t.merger.mode = .none) ∧
    (s.sup.state = .standby → s.unavailableReasons = [] → t = s) ∧ t.park.prq = s.park.prq ∧ t.calm = s.calm) ∧
  (∀ s : State, s.sup.state ≠ .unavailable → s.sup.state ≠ .standby → s.noticeConditions = s) ∧
  (∀ (s : State) (c : Chan) (x : Running), s.awake = true → s.sup.state = .standby → s.path.testing = false →
    s.work.settings.autoCheck = false → s.unavailableReasons = [] → s.channels.derived = s.deriveChannels →
    (∀ d, s.channelUsable d = true ↔ d = c) → (s.channels.records.get c).loss = some x →
    ∃ t, exec (.statusLossExpiry c) s = .next t ∧ t.sup.state = .unavailable ∧ t.sup.reason = .noChannel ∧
      t.channels.derived.b = 0 ∧ t.park.prq = s.park.prq) ∧
  ∀ s : State, s.Serves → s.sup.state = .unavailable → s.unavailableReasons = [.safeStart] → s.store.op = .idle →
    s.work.settings.autoCheck = false → s.driverBraking = false →
    ∃ t, exec .clearSafeStart s = .next t ∧ t.store.marker = false ∧ t.store.cell = false ∧
      t.sup = ⟨.standby, .none, none, false, s.sup.autoPending⟩

/-- In STANDBY the test of the entry conditions leaves the state STANDBY unless every condition of R84 holds. Where all
hold, a context of step 0 is made, its entries' references the counts of the watched wheels, and the record is worked
afresh at step 0: the supervisor enters HOLDING with the hold-limit timer started, which it leaves at once, for SECURING
with reason INSUFFICIENT, exactly when that record is insufficient (R75, R79, R80, R84, R85, R88, R91, R109). -/
def Obligations.HoldingNeedsEveryEntryCondition : Prop :=
  ∀ s : State, s.sup.state = .standby →
    let met := s.creep.restHolds = true ∧
      (s.signals.window.length = 5 ∧ (s.effective .grade).isFresh = true ∧
        ∃ g, s.gf = some g ∧ s.work.settings.entryGrade ≤ g.natAbs) ∧
      ((s.effective .reservoir).isFresh = true ∧ s.calculator.record.valid = true ∧
        s.calculator.record.insufficient = false) ∧
      (∃ c, s.work.settings.entryDemand ≤ s.driverDemand c) ∧
      (s.holdInhibited = false ∧ s.driverPresent = true ∧ s.pendantActive = false) ∧
      s.parkApplied = false ∧ (s.driveTest (headingOf s.gf)).1 = .fail ∧ s.key = true ∧ s.portB.mode ≠ .offBus
    let t := s.testHold
    let record := State.evaluation { s with sup := { s.sup with ctx := none } }
    (¬met → t.sup = s.sup ∧ t.park = s.park) ∧
    (met → t.calculator.record = record ∧
      (∃ c, t.sup.ctx = some c ∧ c.step = 0 ∧ c.entryP = s.calculator.record.pHold ∧ c.uphill = headingOf s.gf ∧
        c.release = none ∧ c.reinforced = false ∧
        (∀ w, c.wheels.get w = if (s.signalOf (.wheel w)).isSome then
          some ⟨if (s.creep.wheels.get w).watched then (s.creep.wheels.get w).last else none, 0, 0⟩ else none) ∧
        (record.insufficient = false → c.holdLimit = some ⟨s.now, 1000 * s.work.settings.holdLimit⟩)) ∧
      (record.insufficient = false → t.sup.state = .holding ∧ t.sup.reason = .none ∧ t.park.prq = s.park.prq ∧
        t.merger.mode = .hold ∧ t.counters = s.counters) ∧
      (record.insufficient = true → t.sup.state = .securing ∧ t.sup.reason = .insufficient ∧ t.park.prq = true ∧
        t.merger.mode = .secure ∧ t.counters = s.counters.set .secures s.counters.secures.bump))

/-- The ways out of HOLDING and RELEASING by a timer or a notice. HOLD_LIMIT_EXPIRY gives SECURING with reason HOLD-LIMIT;
RAMP_TIMER_EXPIRY in RELEASING gives STANDBY with reason NONE, the context discarded and SHORT and cleared FAULT channels
ACCEPTED. A SECURING notice gives SECURING with its reason, so a record worked afresh that is insufficient gives
INSUFFICIENT. LOSS_TIMER_EXPIRY of a DRIVER_PRESENT that showed present gives DRIVER-ABSENT, that of RESERVOIR
gives RESERVOIR where the record then worked is not insufficient, and STATUS_LOSS_EXPIRY of the only usable channel gives
NO-CHANNEL. A PARK_STATUS renewal showing applied gives STANDBY with reason PARKED-BY-DRIVER. STANDBY is said where no
further entry follows: auto-check is off, and the driver does not brake or the spring brake shows applied (R31, R49, R52,
R56, R59, R78, R81, R88, R90, R91). The time that an expiry leaves is the model's choice, notes/assumptions/4.md, and so
is that RESERVOIR's notice comes after the record's, notes/assumptions/7.md. -/
def Obligations.HoldTimersAndNoticesEndTheHold : Prop :=
  (∀ (s : State) (c : Context) (x : Running), s.awake = true → s.sup.ctx = some c → c.holdLimit = some x →
    (s.sup.state = .holding ∨ s.sup.state = .releasing) → ∃ t, exec .holdLimitExpiry s = .next t ∧
      State.EntersSecuring { s with now := max s.now (x.start + x.dur) } t .holdLimit ∧
      t.calm = { s with now := max s.now (x.start + x.dur) }.calm) ∧
  (∀ (s : State) (c : Context) (rel : Release), s.awake = true → s.sup.state = .releasing → s.sup.ctx = some c →
    c.release = some rel → s.driverBraking = false → s.work.settings.autoCheck = false →
    ∃ t, exec .rampTimerExpiry s = .next t ∧
      t.sup = ⟨.standby, .none, none, false, s.sup.autoPending⟩ ∧
      t.park = { s.park with holdInForce := false } ∧ t.merger.mode = .none ∧ t.merger.refresh = none ∧
      (∀ k, t.channels.records.get k = (s.channels.records.get k).standby) ∧
      t.calm = { s with now := max s.now (rel.ramp.start + rel.ramp.dur) }.calm) ∧
  (∀ s : State, s.sup.state = .holding ∨ s.sup.state = .releasing →
    (∀ r, State.EntersSecuring s (s.securingNotice r) r ∧ (s.securingNotice r).calm = s.calm) ∧
    (s.evaluation.insufficient = true → State.EntersSecuring s s.evaluate .insufficient ∧ s.evaluate.calm = s.calm) ∧
    (s.evaluation.insufficient = false → s.evaluate.sup = s.sup ∧ s.evaluate.park = s.park ∧
      s.evaluate.calculator.record = s.evaluation ∧ s.evaluate.calm = s.calm) ∧
    (s.parkApplied = true → s.work.settings.autoCheck = false →
      (s.parkRenewal 1).sup = ⟨.standby, .parkedByDriver, none, false, s.sup.autoPending⟩ ∧
      (s.parkRenewal 1).park.prq = s.park.prq ∧ (s.parkRenewal 1).park.holdInForce = false ∧
      (s.parkRenewal 1).merger.mode = .none ∧ (s.parkRenewal 1).calm = s.calm)) ∧
  (∀ (s u : State) (k : Fin 20) (x : Running), s.awake = true → (s.sup.state = .holding ∨ s.sup.state = .releasing) →
    (s.signals.records.get k).loss = some x → (s.signals.records.get k).age ≠ .lost →
    u = (s.reach x).setRecord k { s.signals.records.get k with age := .lost, stale := none, loss := none } →
    (s.signals.bindings.get k = .driverPresent → (s.signals.records.get k).value = 1 →
      ∃ t, exec (.lossTimerExpiry k) s = .next t ∧ State.EntersSecuring u t .driverAbsent ∧ t.calm = u.calm) ∧
    (s.signals.bindings.get k = .reservoir → u.evaluation.insufficient = false →
      ∃ t, exec (.lossTimerExpiry k) s = .next t ∧ State.EntersSecuring u t .reservoir ∧ t.calm = u.calm)) ∧
  ∀ (s : State) (c : Chan) (x : Running), s.awake = true → (s.sup.state = .holding ∨ s.sup.state = .releasing) →
    s.path.testing = false → s.channels.derived = s.deriveChannels → (∀ d, s.channelUsable d = true ↔ d = c) →
    (s.channels.records.get c).loss = some x → (s.channels.records.get c).age ≠ .lost →
    ∃ t, exec (.statusLossExpiry c) s = .next t ∧ State.EntersSecuring (s.reach x) t .noChannel ∧
      t.channels.derived.b = 0

/-! ### Park control (chapter 8) -/

/-- PARK_CONFIRM_EXPIRY in SECURING: OVERDUE, the unconfirmed secure counted, the safe-start marker set at once and
its cell at once or, during a save, at its end. A PARK_STATUS renewal showing applied, in time or late, gives SECURED
with the reason kept, PRQ as it was and the hold mode NONE. In SECURED a renewal showing released or fault gives SECURING
again with the reason kept, the secure counted and a pending handover dropped; one showing applied or moving changes
nothing (R91, R92, R96, R134, R135, R169). The time that an expiry leaves is the model's choice,
notes/assumptions/4.md. -/
def Obligations.SpringIsConfirmedOrOverdue : Prop :=
  (∀ (s : State) (x : Running), s.awake = true → s.sup.state = .securing → s.park.conf = .waiting →
    s.park.timer = some x → exec .parkConfirmExpiry s = .next { s with
      now := max s.now (x.start + x.dur)
      park := { s.park with conf := .overdue, timer := none }
      counters := s.counters.set .unconfirmedSecures s.counters.unconfirmedSecures.bump
      store := if s.store.op = .saving then { s.store with marker := true, pendingCell := .write }
        else { s.store with marker := true, cell := true } }) ∧
  (∀ s : State, s.sup.state = .securing → (s.park.conf = .waiting ∨ s.park.conf = .overdue) →
    (s.parkRenewal 1).sup = { s.sup with state := .secured } ∧
    (s.parkRenewal 1).park = ⟨s.park.prq, true, .confirmed, none⟩ ∧
    (s.parkRenewal 1).merger.mode = .none ∧ (s.parkRenewal 1).calm = s.calm) ∧
  ∀ s : State, s.sup.state = .secured → s.park.conf = .confirmed → s.path.testing = false →
    (∀ x, x = 0 ∨ x = 3 → State.EntersSecuring s (s.parkRenewal x) s.sup.reason ∧ (s.parkRenewal x).calm = s.calm) ∧
    (∀ x, x = 1 ∨ x = 2 → s.parkRenewal x = s)

/-- A release request in SECURED is not taken with a condition of R97 unmet. Taken, with the safe-start marker set, it
deasserts PRQ and gives UNAVAILABLE with reason SAFE-START; on a shallow grade it deasserts PRQ and gives STANDBY, or
UNAVAILABLE with the first unavailable condition. On a steep grade with the rest of R97's conditions a handover begins:
a context of step 0, hold mode HOLD and stage 1 running until the build is confirmed; without them nothing changes. The
causes of R98 drop it, KEY falling among them. The build confirmed deasserts PRQ and gives HOLDING with the hold-limit
timer started, or UNAVAILABLE with reason SAFE-START where the marker is set (R79, R80, R81, R97, R98, R102, R126, R127,
R137). The entry P_hold of the new context is the model's choice, notes/assumptions/33.md. -/
def Obligations.ReleaseIsHandedOver : Prop :=
  (∀ s : State, s.sup.state = .secured →
    (s.sup.handover = true ∨ s.key = false ∨ s.driverPresent = false ∨ s.driverBraking = false →
      s.releaseRequest = s) ∧
    (s.sup.handover = false → s.key = true → s.driverPresent = true → s.driverBraking = true →
      s.store.marker = true → s.releaseRequest.sup = ⟨.unavailable, .safeStart, none, false, s.sup.autoPending⟩ ∧
        s.releaseRequest.park = ⟨false, false, .idle, none⟩ ∧ s.releaseRequest.merger.mode = .none ∧
        s.releaseRequest.calm = s.calm)) ∧
  (∀ s : State, s.sup.state = .secured → s.sup.handover = false → s.key = true → s.driverPresent = true →
    s.driverBraking = true → s.store.marker = false →
    let t := s.releaseRequest
    let steep := ∃ g, s.gf = some g ∧ s.work.settings.entryGrade ≤ g.natAbs
    let ready := steep ∧ s.calculator.record.valid = true ∧ s.calculator.record.insufficient = false ∧
      s.reservoirLost = false ∧ s.pendantActive = false ∧ 2 ≤ s.creep.watchedCount ∧ s.portB.mode ≠ .offBus
    let record := State.evaluation { s with sup := { s.sup with ctx := none } }
    let level := (record.pHold + 3) / 4 * 4
    let built := (∃ d, s.channels.derived.usable.get d = true) ∧ ∀ d, s.channels.derived.usable.get d = true →
      level ≤ (s.channels.records.get d).pressure + s.work.settings.buildTolerance
    (s.gf.isSome = true → ¬steep → s.work.settings.autoCheck = false ∨ 0 < s.work.settings.entryDemand →
      t.park = ⟨false, false, .idle, none⟩ ∧ t.merger.mode = .none ∧ t.calm = s.calm ∧
      (s.unavailableReasons = [] → t.sup = ⟨.standby, .none, none, false, s.sup.autoPending⟩) ∧
      (∀ r rest, s.unavailableReasons = r :: rest → t.sup = ⟨.unavailable, r, none, false, s.sup.autoPending⟩)) ∧
    (ready → t.calculator.record = record ∧
      (∃ c, t.sup.ctx = some c ∧ c.step = 0 ∧ c.uphill = headingOf s.gf ∧ c.reinforced = false ∧
        c.entryP = s.calculator.record.pHold) ∧
      (record.valid = true → ¬built →
        (record.insufficient = false → t.sup.state = .secured ∧ t.sup.reason = s.sup.reason ∧ t.sup.handover = true ∧
          t.sup.ctx.bind (·.holdLimit) = none ∧ t.park = s.park ∧ t.merger.mode = .hold ∧ t.merger.conf = .stage1 ∧
          t.merger.stage = some ⟨s.now, s.work.settings.buildStage1⟩ ∧ t.merger.confirmLevel = level) ∧
        (record.insufficient = true → t.sup.state = .secured ∧ t.sup.handover = false ∧ t.park = s.park ∧
          t.merger.mode = .none)) ∧
      (record.valid = true → built → record.insufficient = false → t.sup.state = .holding ∧ t.sup.reason = .none ∧
        t.sup.handover = false ∧ t.park = ⟨false, true, .idle, none⟩ ∧ t.merger.mode = .hold) ∧
      t.calm = s.calm) ∧
    (s.gf = none ∨ steep ∧ ¬ready → t = s)) ∧
  (∀ (s : State) (r : Reason), s.sup.state = .secured → s.sup.handover = true →
    (s.securingNotice r).sup = { s.sup with handover := false } ∧ (s.securingNotice r).park = s.park ∧
    (s.securingNotice r).merger.mode = (if s.reinforced then .secure else .none) ∧
    (s.securingNotice r).counters = s.counters ∧ (s.securingNotice r).calm = s.calm) ∧
  (∀ s : State, s.running = true → s.key = true → s.sup.state = .secured → s.sup.handover = true →
    s.path.testing = false → ∃ t, exec .keyFall s = .next t ∧ t.key = false ∧
      t.sup = { s.sup with handover := false } ∧ t.park = s.park ∧
      t.merger.mode = (if s.reinforced then .secure else .none)) ∧
  ∀ (s : State) (c : Context), s.sup.state = .secured → s.sup.handover = true → s.sup.ctx = some c →
    (s.store.marker = false → s.buildConfirmed.sup.state = .holding ∧ s.buildConfirmed.sup.reason = .none ∧
      s.buildConfirmed.sup.handover = false ∧ s.buildConfirmed.park = ⟨false, true, .idle, none⟩ ∧
      s.buildConfirmed.sup.ctx =
        some { c with holdLimit := some ⟨s.now, 1000 * s.work.settings.holdLimit⟩, reinforced := false }) ∧
    (s.store.marker = true → s.buildConfirmed.sup = ⟨.unavailable, .safeStart, none, false, s.sup.autoPending⟩ ∧
      s.buildConfirmed.park = ⟨false, false, .idle, none⟩)

/-! ### The demand merger (chapter 7) -/

/-- The hold component by the hold mode: 0 under NONE; the check level on the channel under test alone under CHECK; on a
usable channel the target under HOLD and SECURE, P_limit under SECURE with the reinforcement flag, 0 from a record that
is not valid, and under RAMP the ramp value, P_start falling to 0 over the ramp time and rounded up; 0 on others. A
demand frame made now carries on each channel a demand, in 4 kPa units, no lower than the effective driver demand and
that component and less than 4 kPa above the greater of them; the demand origin, the rolling count and the bytes
copied from the last driver frame follow (R72, R79, R89, R118, R119, R121, R145, R173). -/
def Obligations.DemandFrameIsNeverBelowTheDriver : Prop :=
  (∀ (s : State) (id : CanId),
    (∀ c, s.driverDemand c ≤ s.demand c ∧ s.component c ≤ s.demand c ∧
      s.demand c < max (s.driverDemand c) (s.component c) + 4 ∧
      (s.merger.mode = .none → s.component c = 0) ∧
      (s.demand c ≤ 1020 → frameDemand (s.demandFrame id) c = s.demand c)) ∧
    (s.demandFrame id).id = id ∧ (s.demandFrame id).dlc = 8 ∧ (s.demandFrame id).wf = true ∧
    byteAt (s.demandFrame id).data 4 = s.merger.mode.origin ∧
    (byteAt (s.demandFrame id).data 5).extractLsb' 0 4 = s.merger.rolling ∧
    (∀ last, s.merger.driver.last = some last →
      (byteAt (s.demandFrame id).data 5).extractLsb' 4 4 = (byteAt last.bytes 5).extractLsb' 4 4 ∧
      byteAt (s.demandFrame id).data 6 = byteAt last.bytes 6 ∧ byteAt (s.demandFrame id).data 7 = byteAt last.bytes 7) ∧
    (s.merger.driver.last = none →
      (byteAt (s.demandFrame id).data 5).extractLsb' 4 4 = 0#4 ∧
      byteAt (s.demandFrame id).data 6 = 0#8 ∧ byteAt (s.demandFrame id).data 7 = 0#8)) ∧
  ∀ (s : State) (c : Chan),
    let r := s.calculator.record
    let target := if r.valid then (r.pHold + 3) / 4 * 4 else 0
    let usable := s.channels.derived.usable.get c = true
    (s.merger.mode = .hold ∨ s.merger.mode = .secure ∨ s.merger.mode = .ramp → ¬usable → s.component c = 0) ∧
    (s.merger.mode = .hold → usable → s.component c = target) ∧
    (s.merger.mode = .secure → usable →
      ((∃ ctx, s.sup.ctx = some ctx ∧ ctx.reinforced = true) → s.component c = if r.valid then r.pLimit else 0) ∧
      ((∀ ctx, s.sup.ctx = some ctx → ctx.reinforced = false) → s.component c = target)) ∧
    (∀ ctx rel, s.merger.mode = .ramp → usable → s.sup.ctx = some ctx → ctx.release = some rel → 0 < rel.ramp.dur →
      let gone := min (s.now - rel.ramp.start) rel.ramp.dur
      rel.pStart * (rel.ramp.dur - gone) ≤ rel.ramp.dur * s.component c ∧
      rel.ramp.dur * s.component c < rel.pStart * (rel.ramp.dur - gone) + rel.ramp.dur) ∧
    (s.merger.mode = .check → ∀ d l, s.path.chan = some d → s.path.level = some l →
      let setting := match l with
        | .low => s.work.settings.lowLevel
        | .medium => s.work.settings.mediumLevel
        | .high => s.work.settings.highLevel
      s.component c = if d = c then (setting + 3) / 4 * 4 else 0) ∧
    (s.merger.mode = .check → s.path.chan = none → s.component c = 0)

/-- REFRESH_TIMER_EXPIRY in a hold state: a demand frame is made into a slot, the rolling count goes on by one and the
timer restarts for the refresh interval; outside the merger and the time nothing changes (R117, R120, R121, R122). The
time that an expiry leaves is the model's choice, notes/assumptions/4.md. -/
def Obligations.RefreshMakesADemandFrame : Prop :=
  ∀ (s : State) (x : Running) (id : CanId), s.awake = true → s.Slotted → s.merger.refresh = some x →
    s.sup.state.isHold = true → s.demandId = some id → ∃ t, exec .refreshTimerExpiry s = .next t ∧
      t.merger.rolling = s.merger.rolling + 1#4 ∧
      t.merger.refresh = some ⟨max s.now (x.start + x.dur), s.work.settings.refreshInterval⟩ ∧
      (∃ n, (t.merger.slot n).state = .loaded ∧
        (t.merger.slot n).frame = some (State.demandFrame { s with now := max s.now (x.start + x.dur) } id) ∧
        (t.merger.slot n).discard = some ⟨max s.now (x.start + x.dur), s.work.settings.slotDiscardTime⟩) ∧
      t.merger.driver = s.merger.driver ∧ t.merger.control = s.merger.control ∧ t.merger.mode = s.merger.mode ∧
      t.merger.conf = s.merger.conf ∧ { t with merger := s.merger, now := s.now } = s

/-- A frame made is loaded into a free slot, an EMPTY one before a DONE one, A of two EMPTY, the OLDER of two DONE: it
is NEWER there and the other slot's frame OLDER; with no slot free it replaces the frame of the NEWER LOADED slot,
whose load order stays. SLOT_DISCARD_EXPIRY in LOADED makes the slot EMPTY, frame and load order absent, counts the
event and leaves the rest of the part (R122, R124). The time that an expiry leaves is the model's choice,
notes/assumptions/4.md. -/
def Obligations.FrameIsPlacedInASlotOrDiscarded : Prop :=
  (∀ (m : Merger) (f : Frame) (d : Timer) (n : SlotName),
    ((m.slot n).state = .empty ∧ ((m.slot n.other).state ≠ .empty ∨ n = .a) ∨
      (m.slot n).state = .done ∧ (m.slot n.other).state ≠ .empty ∧ (m.slot n.other).state ≠ .done ∨
      (m.slot n).state = .done ∧ (m.slot n.other).state = .done ∧
        (m.slot n).order = some .older ∧ (m.slot n.other).order = some .newer →
      (m.place f d).slot n = ⟨.loaded, none, some f, some .newer, d⟩ ∧
      (m.place f d).slot n.other = { m.slot n.other with
        order := if (m.slot n.other).frame.isSome then some .older else (m.slot n.other).order }) ∧
    ((m.slot n).state = .loaded ∧ ((m.slot n.other).state = .sending ∨
        (m.slot n.other).state = .loaded ∧ (m.slot n).order = some .newer ∧
          (m.slot n.other).order = some .older) →
      (m.place f d).slot n = { m.slot n with frame := some f, discard := d } ∧
      (m.place f d).slot n.other = m.slot n.other)) ∧
  ∀ (s : State) (n : SlotName) (x : Running), s.awake = true → (s.merger.slot n).state = .loaded →
    (s.merger.slot n).discard = some x → exec (.slotDiscardExpiry n) s = .next { s with
      now := max s.now (x.start + x.dur)
      merger := s.merger.setSlot n ⟨.empty, none, none, none, none⟩
      counters := s.counters.set .slotDiscards s.counters.slotDiscards.bump }

/-- DRIVER_DEMAND_STALE_EXPIRY and DRIVER_DEMAND_LOSS_EXPIRY: a FRESH record goes HELD with its demands in effect; a
FRESH or HELD one goes LOST, every effective demand is 0, and demands and last frame stay in the record (R116). The
time that an expiry leaves is the model's choice, notes/assumptions/4.md. -/
def Obligations.DriverDemandExpiriesAgeTheRecord : Prop :=
  ∀ (s : State) (x : Running), s.awake = true →
    (s.merger.driver.stale = some x → s.merger.driver.age = .fresh →
      ∃ t, exec .driverDemandStaleExpiry s = .next t ∧
        t.merger.driver = { s.merger.driver with age := .held, stale := none } ∧
        (∀ c, t.driverDemand c = s.driverDemand c) ∧
        t.calm = ((s.reach x).setDriver { s.merger.driver with age := .held, stale := none }).calm) ∧
    (s.merger.driver.loss = some x → s.merger.driver.age ≠ .lost →
      ∃ t, exec .driverDemandLossExpiry s = .next t ∧
        t.merger.driver = { s.merger.driver with age := .lost, stale := none, loss := none } ∧
        (∀ c, t.driverDemand c = 0) ∧
        t.calm = ((s.reach x).setDriver { s.merger.driver with age := .lost, stale := none, loss := none }).calm)

/-- BUILD_STAGE_1_EXPIRY counts a slow build and starts stage 2. BUILD_STAGE_2_EXPIRY ends the confirmation: with
every usable channel built nothing more happens; in SECURING, where other channels are built, one ACCEPTED channel
below the level becomes SHORT and is counted; with no usable channel HOLDING goes to SECURING with reason CONFIRM. In
HOLDING the usable channels below the level become SHORT, leave the usable set together and are counted each: with some
left, B above 0 and a record that is not insufficient the hold goes on with the rest, whose build is confirmed afresh; with
none left it is SECURING with reason NO-CHANNEL or CONFIRM, which is left free, notes/assumptions/8.md (R51, R54, R56, R59,
R88, R91, R126, R127, R128). The time that an expiry leaves is the model's choice, notes/assumptions/4.md, and so is the
order in which a changed set is told, notes/assumptions/7.md. -/
def Obligations.BuildStagesEndWithTheirTimer : Prop :=
  ∀ (s : State) (x : Running) (level : Nat), s.awake = true → s.merger.stage = some x →
    s.levelInForce = some level →
    (s.merger.conf = .stage1 → exec .buildStage1Expiry s = .next { s with
      now := max s.now (x.start + x.dur)
      counters := s.counters.set .slowBuilds s.counters.slowBuilds.bump
      merger := { s.merger with conf := .stage2
                                stage := some ⟨max s.now (x.start + x.dur), s.work.settings.buildStage2⟩ } }) ∧
    (s.merger.conf = .stage2 → s.usableList ≠ [] →
      (∀ c ∈ s.usableList, level ≤ (s.channels.records.get c).pressure + s.work.settings.buildTolerance) →
      exec .buildStage2Expiry s = .next { s with
        now := max s.now (x.start + x.dur), merger := { s.merger with conf := .idle, stage := none } }) ∧
    (∀ c, s.merger.conf = .stage2 → s.sup.state = .securing → s.path.testing = false →
      2 ≤ s.usableList.length → c ∈ s.usableList →
      (∀ d ∈ s.usableList,
        level ≤ (s.channels.records.get d).pressure + s.work.settings.buildTolerance ↔ d ≠ c) →
      (s.channels.records.get c).handshake = .accepted → ∃ t, exec .buildStage2Expiry s = .next t ∧
        t.channels.records = s.channels.records.set c { s.channels.records.get c with handshake := .short } ∧
        t.counters = s.counters.set .shortChannels s.counters.shortChannels.bump ∧
        t.sup.state = .securing ∧ t.park = s.park ∧ t.store = s.store ∧ t.signals = s.signals) ∧
    (s.merger.conf = .stage2 → s.sup.state = .holding → s.usableList = [] → ∃ t, exec .buildStage2Expiry s = .next t ∧
      t.sup.state = .securing ∧ t.sup.reason = .confirm ∧ t.park.prq = true ∧ t.merger.mode = .secure) ∧
    (s.merger.conf = .stage2 → s.sup.state = .holding → s.path.testing = false →
      s.channels.derived = s.deriveChannels →
      let lags (c : Chan) : Bool := decide (c ∈ s.usableList ∧
        (s.channels.records.get c).pressure + s.work.settings.buildTolerance < level)
      let lagging := s.usableList.filter lags
      let records := PerChan.build fun c =>
        if lags c then { s.channels.records.get c with handshake := .short } else s.channels.records.get c
      let shortened := s.counters.set .shortChannels (lagging.foldl (fun n _ => n.bump) s.counters.shortChannels)
      let u := State.rework { s.reach x with channels := { s.channels with records := records }, counters := shortened }
      (∀ c, u.channels.derived.usable.get c = (s.channels.derived.usable.get c && !lags c)) ∧
      (lagging ≠ [] → lagging ≠ s.usableList → 0 < u.channels.derived.b → u.evaluation.insufficient = false →
        ∃ t, exec .buildStage2Expiry s = .next t ∧ t.channels = u.channels ∧ t.counters = shortened ∧ t.sup = s.sup ∧
          t.park = s.park ∧ t.calculator.record = u.evaluation ∧ t.merger.mode = s.merger.mode ∧ t.calm = u.calm ∧
          ∀ target, t.levelInForce = some target → t.merger.conf =
            if ∀ c ∈ t.usableList, target ≤ (s.channels.records.get c).pressure + s.work.settings.buildTolerance
            then .idle else .stage1) ∧
      (lagging ≠ [] → lagging = s.usableList → ∃ t r, exec .buildStage2Expiry s = .next t ∧
        (r = .noChannel ∨ r = .confirm) ∧ State.EntersSecuring u t r ∧ t.channels = u.channels ∧
        t.channels.derived.b = 0 ∧ t.calm = { u with choices := s.choices + 1 }.calm))

/-! ### The path check (chapter 9) -/

/-- LEVEL_TIMER_EXPIRY with the channel under test ACCEPTED and not lifted is a level failure: the level's record is
FAIL with the achieved pressure, the levels above read NOT-RUN, those below stand, and the channel's check state is
FAILED (R57, R148, R149). The time that an expiry leaves is the model's choice, notes/assumptions/4.md. -/
def Obligations.LevelTimeoutFailsTheChannel : Prop :=
  ∀ (s : State) (c : Chan) (l : Level) (x : Running), s.awake = true → s.path.testing = true →
    s.path.chan = some c → s.path.level = some l → s.path.timer = some x →
    (s.channels.records.get c).handshake = .accepted → s.lifted c = false →
    ∃ t, exec .levelTimerExpiry s = .next t ∧
      (t.path.results.get c).get l = ⟨.fail, (s.channels.records.get c).pressure, true⟩ ∧
      (∀ k ∈ l.above, (t.path.results.get c).get k = ⟨.notRun, 0, true⟩) ∧
      (∀ k, k ≠ l → k ∉ l.above → (t.path.results.get c).get k = (s.path.results.get c).get k) ∧
      (∀ d, d ≠ c → t.path.results.get d = s.path.results.get d) ∧
      (t.channels.records.get c).check = .failed ∧ t.calm = (s.reach x).calm

/-- The channel under test, ACCEPTED and not lifted, is judged on its own status notices alone: a pressure outside the
check tolerance of the level, which is its setting rounded up to 4 kPa, sets the settle count to 0, one within it raises
the count, and at 3 the level passes: its record is PASS with that pressure, and the next level starts with a frame of
its own. After HIGH the check state is PASSED and the next candidate is tested from LOW, or the run ends and the
supervisor leaves CHECKING. A channel found LISTENING or lifted is abandoned without a record, its check state kept; one
found FAULT or LOST fails its level, and that a lifted one of these does so is the model's choice, notes/assumptions/19.md.
FRAME_RECEIVED: the third settled status frame passes the level (R42, R48, R100, R117, R144, R145, R146, R147, R148,
R149). -/
def Obligations.PathCheckPassesAndAbandons : Prop :=
  (∀ (s : State) (c : Chan) (l : Level), s.path.testing = true → s.path.chan = some c → s.path.level = some l →
    let r := s.channels.records.get c
    let setting (k : Level) : Nat := match k with
      | .low => (s.work.settings.lowLevel + 3) / 4 * 4
      | .medium => (s.work.settings.mediumLevel + 3) / 4 * 4
      | .high => (s.work.settings.highLevel + 3) / 4 * 4
    let settled := r.pressure ≤ setting l + s.work.settings.checkTolerance ∧
      setting l ≤ r.pressure + s.work.settings.checkTolerance
    let t := s.pathStatus c
    let passed := s.path.results.set c ((s.path.results.get c).set l ⟨.pass, r.pressure, true⟩)
    let goesTo (d : Chan) (k : Level) : Prop := t.path.testing = true ∧ t.path.chan = some d ∧ t.path.level = some k ∧
      t.path.settle = 0 ∧ t.path.timer = some ⟨s.now, s.work.settings.levelTimeout⟩ ∧
      ∀ id, s.sup.state = .checking → s.demandId = some id → s.merger.mode = .check →
        t.merger.rolling = s.merger.rolling + 1#4 ∧
        t.merger.lastComponent = PerChan.build fun b => if b = d then setting k else 0
    let next := (channelsAbove (some c)).find? s.candidate
    (∀ d, d ≠ c → s.pathStatus d = s) ∧
    (r.handshake = .accepted → s.lifted c = false →
      (¬settled → t = { s with path := { s.path with settle := 0 } }) ∧
      (settled → s.path.settle < 2 → t = { s with path := { s.path with settle := s.path.settle + 1 } }) ∧
      (settled → 2 ≤ s.path.settle → t.path.results = passed ∧
        (∀ k, l.next = some k → goesTo c k ∧ t.sup = s.sup ∧ t.channels = s.channels) ∧
        (l = .high → (t.channels.records.get c).check = .passed ∧
          (∀ d, next = some d → goesTo d .low ∧ t.sup = s.sup) ∧
          (next = none → s.sup.state = .checking → s.driverBraking = false → s.work.settings.autoCheck = false →
            let u := State.rework (s.setChannel c { r with check := .passed })
            t.path.testing = false ∧ t.path.lastRun = .ended ∧
            (u.unavailableReasons = [] → t.sup.state = .standby ∧ t.sup.reason = .none) ∧
            (∀ a rest, u.unavailableReasons = a :: rest → t.sup.state = .unavailable ∧ t.sup.reason = a)))) ) ∧
    (r.handshake = .listening ∨ r.handshake = .accepted ∧ s.lifted c = true →
      t.path.results = s.path.results ∧ (t.channels.records.get c).check = r.check ∧
      (∀ d, next = some d → goesTo d .low ∧ t.sup = s.sup) ∧
      (next = none → t.path.testing = false ∧ t.path.lastRun = .ended)) ∧
    (r.handshake = .fault ∨ r.handshake = .lost →
      (t.path.results.get c).get l = ⟨.fail, r.pressure, true⟩ ∧ (t.channels.records.get c).check = .failed ∧
      (∀ k ∈ l.above, (t.path.results.get c).get k = ⟨.notRun, 0, true⟩)) ∧
    t.calm = s.calm) ∧
  ∀ (s : State) (p : Port) (f : Frame) (c : Chan) (l k : Level), s.HandsTo p f .channel → s.channels.state = .inForce →
    frameKind f = 2#4 → 3 ≤ f.dlc.val → s.identifierChannel f.id = some c → (frameChannel f).toNat = c.number →
    (byteAt f.data 2).getLsbD 0 = false → s.path.testing = true → s.path.chan = some c → s.path.level = some l →
    l.next = some k → 2 ≤ s.path.settle → (s.channels.records.get c).handshake = .accepted →
    (s.channels.records.get c).age ≠ .lost → s.lifted c = false → s.channels.derived = s.deriveChannels →
    s.merger.mode = .check → 4 * (byteAt f.data 1).toNat ≤ s.work.settings.level l + s.work.settings.checkTolerance →
    s.work.settings.level l ≤ 4 * (byteAt f.data 1).toNat + s.work.settings.checkTolerance →
    ∃ t, exec (.frameReceived p f) s = .next t ∧ t.path.level = some k ∧ t.path.settle = 0 ∧
      t.path.results = s.path.results.set c
        ((s.path.results.get c).set l ⟨.pass, 4 * (byteAt f.data 1).toNat, true⟩) ∧
      t.path.timer = some ⟨s.now, s.work.settings.levelTimeout⟩ ∧ t.sup = s.sup ∧ t.park = s.park

/-! ### The management responder (chapters 10 and 12) -/

/-- CAB_STATUS_PERIOD_EXPIRY makes a cab status frame from the records as they stand and restarts the period: an EMPTY
or WAITING slot holds the frame, a SENDING one is marked for renewal (R163, R164, section 12.1). The time that an
expiry leaves is the model's choice, notes/assumptions/4.md. -/
def Obligations.CabStatusIsMadeEachPeriod : Prop :=
  ∀ (s : State) (x : Running), s.awake = true → s.resp.period = some x →
    let period : Timer := some ⟨max s.now (x.start + x.dur), 100⟩
    let target := (s.calculator.record.pHold + 3) / 4
    let frame : Frame := ⟨s.work.settings.cabStatusId, false, 8,
      [byteOf s.sup.state.number, byteOf s.sup.reason.number, byteOf target, byteOf s.escalation,
        byteOf (s.calculator.record.insufficient.toNat + 2 * s.store.marker.toNat + 4 * s.reinforced.toNat +
          8 * s.shedding.toNat), 0#8, 0#8, 0#8]⟩
    ((∀ f, s.resp.cab ≠ .sending f) → exec .cabStatusPeriodExpiry s = .next { s with
      now := max s.now (x.start + x.dur), resp := { s.resp with cab := .waiting frame, period := period } }) ∧
    (∀ f, s.resp.cab = .sending f → exec .cabStatusPeriodExpiry s = .next { s with
      now := max s.now (x.start + x.dur), resp := { s.resp with renew := true, period := period } })

/-- READ of a field that its group holds answers OK with the value and changes nothing else; READ_LOST_SINCE_READ
returns the marker and clears it; READ_CLEAR_COUNTER returns the counter and sets it to 0 with its marker clear;
READ_CLEAR_CHECK_RESULT returns the record and clears its updated marker (R21, R50, R151, R156, R157, R158). That a
row is a request served at once is the model's choice, notes/assumptions/6.md. So is a counter's packing,
notes/assumptions/11.md. -/
def Obligations.ReadsAnswerTheFieldAsItStands : Prop :=
  ∀ s : State, s.Serves →
    (∀ (g : Group) (index field : Byte) (v : Word32), s.readField g index.toNat field.toNat = some v →
      (g = .channel → field.toNat ≠ 14) →
      exec (.read g.byte index field) s = .next { s with resp := { s.resp with
        replies := s.resp.replies ++ [okReply s.work.settings.replyId codeRead g.byte index field 0#32 v] } }) ∧
    (∀ (index : Byte) (c : Chan), index.toNat = c.number →
      exec (.readLostSinceRead index) s = .next { s with
        channels := { s.channels with
          records := s.channels.records.set c { s.channels.records.get c with lostSinceRead := false } }
        resp := { s.resp with replies := s.resp.replies ++ [okReply s.work.settings.replyId codeRead 5#8 index 14#8 0#32
          (if (s.channels.records.get c).lostSinceRead then 1#32 else 0#32)] } }) ∧
    (∀ (field : Byte) (n : CounterName), counterOf field.toNat = some n →
      exec (.readClearCounter field) s = .next { s with
        counters := s.counters.set n ⟨0#8, false⟩
        resp := { s.resp with replies := s.resp.replies ++
          [okReply s.work.settings.replyId codeReadClear 7#8 0#8 field 0#32 (s.counters.get n).word] } }) ∧
    (∀ (index field : Byte) (c : Chan) (l : Level), index.toNat = c.number → levelOf field.toNat = some l →
      let r := (s.path.results.get c).get l
      exec (.readClearCheckResult index field) s = .next { s with
        path := { s.path with
          results := s.path.results.set c ((s.path.results.get c).set l { r with updated := false }) }
        resp := { s.resp with replies := s.resp.replies ++
          [okReply s.work.settings.replyId codeReadClear 8#8 index field 0#32 r.word] } })

/-- The WRITE rows, not BUSY and with a value that the field takes or holds already: the working copy holds the value,
the reply is OK with the value written, and the group's table state is what the check of the whole table finds; time,
ports, queues, the driver demand record and the store stand. After a write to a table the supervisor is in UNAVAILABLE while
any table is SUSPENDED, and after one to SIGNAL or CHANNEL the usable set, B and lowest advertised maximum are those of
the records as they stand. The maximum payload becomes payload used; the merge identifier in force follows a ROUTE write's
check; a SIGNAL write resets the entry's record and, of GRADE before or after it, empties the window, of DRUM_SPEED clears
the reversal tracker; a CHANNEL write of expected or an identifier restarts the handshake, copy and check state kept (R13,
R24, R25, R40, R41, R54, R55, R62, R64, R83, R157, R159). That a row is a request served at once is
the model's choice, notes/assumptions/6.md; so is the order of a write's notices, notes/assumptions/7.md. That a SIGNAL
write works the usable set afresh is read by inference, notes/assumptions/30.md, and so is that a channel's record
fields take the value they hold, notes/assumptions/14.md; that an identifier or mask too wide for a new format stands is
the model's choice, notes/assumptions/15.md. -/
def Obligations.WritesChangeTheWorkingCopy : Prop :=
  ∀ (s : State) (field : Byte) (v : Word32), s.Serves → s.busy = false →
    let ok (t : State) (group index : Byte) : Prop := t.steady = s.steady ∧ t.resp.replies = s.resp.replies ++
      [okReply t.work.settings.replyId codeWrite group index field v v]
    let held (t : State) : Prop := t.configBad = true → t.sup.state = .unavailable ∧
      t.unavailableReasons.head? = some t.sup.reason
    (∀ x, s.Takes .settings 0#8 field v s.work.settings x (s.work.settings.write field.toNat v) →
      ∃ t, exec (.writeSetting field v) s = .next t ∧ t.work = { s.work with settings := x } ∧ ok t 0#8 0#8 ∧
        t.calculator.payloadUsed = if field = 9#8 then x.maxPayload else s.calculator.payloadUsed) ∧
    (∀ (index : Byte) (k : Fin 96) x, index.toNat = k.val →
      s.Takes .route index field v (s.work.routes.get k) x ((s.work.routes.get k).write field.toNat v) →
      ∃ t, exec (.writeRouteEntry index field v) s = .next t ∧
        t.work = { s.work with routes := s.work.routes.set k x } ∧ ok t 1#8 index ∧ held t ∧
        (t.route.state = .inForce ↔ routesValid (s.work.routes.set k x) = true) ∧
        State.MergeIdAfterCheck s.route.mergeId t) ∧
    (∀ (index : Byte) (k : Fin 20) x, index.toNat = k.val →
      s.Takes .signal index field v (s.work.signals.get k) x ((s.work.signals.get k).write field.toNat v) →
      ∃ t, exec (.writeSignalEntry index field v) s = .next t ∧
        t.work = { s.work with signals := s.work.signals.set k x } ∧ ok t 2#8 index ∧ held t ∧
        t.channels.derived = t.deriveChannels ∧
        (t.signals.state = .inForce ↔ signalsValid (s.work.signals.set k x) = true) ∧
        t.signals.records = s.signals.records.set k ⟨0, .lost, false, none, none, .unknown⟩ ∧
        let touches (r : Role) : Prop := (s.work.signals.get k).role = r ∨ x.role = r
        (touches .grade → t.signals.window = []) ∧ (¬touches .grade → t.signals.window = s.signals.window) ∧
        (touches .drumSpeed → t.signals.keptSign = .none ∧ t.signals.reversal = none) ∧
        (¬touches .drumSpeed → t.signals.keptSign = s.signals.keptSign ∧ t.signals.reversal = s.signals.reversal)) ∧
    (∀ (index : Byte) (c : Chan) x, index.toNat = c.number →
      s.Takes .channel index field v (s.work.channels.get c) x ((s.work.channels.get c).write field.toNat v) →
      ∃ t, exec (.writeChannelEntry index field v) s = .next t ∧
        t.work = { s.work with channels := s.work.channels.set c x } ∧ ok t 5#8 index ∧ held t ∧
        t.channels.derived = t.deriveChannels ∧
        (t.channels.state = .inForce ↔ channelsValid (s.work.channels.set c x) = true) ∧
        (field.toNat ≤ 2 → t.channels.records.get c = { s.channels.records.get c with
          handshake := if x.expected then .listening else .absent
          count := 0, pressure := 0, fault := false, age := .lost, stale := none, loss := none })) ∧
    (∀ (index : Byte) (k : Fin 8) x, index.toNat = k.val →
      s.Takes .gradeCurve index field v (s.work.gradeCurve.get k) x
        ((s.work.gradeCurve.get k).write 450 6000 field.toNat v) →
      ∃ t, exec (.writeCurveBreakpoint .grade index field v) s = .next t ∧
        t.work = { s.work with gradeCurve := s.work.gradeCurve.set k x } ∧ ok t 3#8 index ∧ held t ∧
        (t.calculator.state = .inForce ↔
          curvesValid (s.work.gradeCurve.set k x) s.work.drumCurve = true)) ∧
    (∀ (index : Byte) (k : Fin 5) x, index.toNat = k.val →
      s.Takes .drumCurve index field v (s.work.drumCurve.get k) x
        ((s.work.drumCurve.get k).write 200 400 field.toNat v) →
      ∃ t, exec (.writeCurveBreakpoint .drum index field v) s = .next t ∧
        t.work = { s.work with drumCurve := s.work.drumCurve.set k x } ∧ ok t 4#8 index ∧ held t ∧
        (t.calculator.state = .inForce ↔
          curvesValid s.work.gradeCurve (s.work.drumCurve.set k x) = true))

/-- A request reaches the responder by the request identifier or a MANAGE entry. One that finds four requests waiting is
dropped and counted without a reply; with room in the request queue and none in the reply queue it waits; one that R157
refuses changes nothing and is answered with the result and value that State.Refuses names. The management rows are the
frames of their requests: they do what FRAME_RECEIVED of such a frame does once it is taken, and nothing while no frame
can arrive. (R9, R14, R154, R155, R156, R157, R158, R160, R162). That a row is a request served at once is the model's
choice, notes/assumptions/6.md, and so are the value 0 of a refused COMMAND, notes/assumptions/34.md, and that the request
identifier in force is the setting as it stands, notes/assumptions/36.md; what a WRITE to a
channel's record fields is answered is read by inference, notes/assumptions/14.md. -/
def Obligations.RequestsAreQueuedAndJudged : Prop :=
  (∀ (s : State) (f : Frame), s.HearsRequest f →
    let t := s.afterTaking .v
    (4 ≤ s.resp.requests.length → exec (.frameReceived .v f) s = .next { t with
      counters := s.counters.set .managementDrops s.counters.managementDrops.bump }) ∧
    (s.resp.requests.length < 4 → 4 ≤ s.resp.replies.length → exec (.frameReceived .v f) s = .next { t with
      resp := { s.resp with requests := s.resp.requests ++ [f] } }) ∧
    (∀ r v, s.resp.requests = [] → s.resp.replies.length < 4 → s.Refuses (frameRequest f) r v →
      exec (.frameReceived .v f) s = .next { t with resp := { s.resp with replies := s.resp.replies ++
        [⟨replyFrame s.work.settings.replyId (frameRequest f) r v, false⟩] } })) ∧
  ∀ (s : State) (c : Instr) (q : Request), requestOf c = some q →
    let f : Frame := ⟨s.work.settings.requestId, false, 8, [q.code, q.group, q.index, q.field] ++ wordBytes q.value⟩
    (s.running = false ∨ s.portV.onBus = false → exec c s = .next s) ∧
    (s.HearsRequest f → ∃ t, exec (.frameReceived .v f) s = .next t ∧ exec c (s.afterTaking .v) = .next t) ∧
    (s.running = true → s.portV.onBus = true → 4 ≤ s.resp.requests.length → exec c s = .next { s with
      counters := s.counters.set .managementDrops s.counters.managementDrops.bump }) ∧
    (∀ r v, s.Serves → s.Refuses q r v → exec c s = .next { s with resp := { s.resp with replies := s.resp.replies ++
      [⟨replyFrame s.work.settings.replyId q r v, false⟩] } })

/-- The settings. Each field takes exactly the values of its range in section 12.3, a value held already aside: the fixed ranges; the water marks, the
stale and loss limits, chassis mass and maximum gross, and the check levels against each other; PASS 0 and DROP 6 for a
default action; the compound form for an identifier. A value taken reads back and leaves the other settings as they
were; the default of each is that of the table; there are 45 (R16, R40, R65, R129, R152, R157, R159, R174). -/
def Obligations.SettingsTakeTheirRanges : Prop :=
  (∀ (set : Settings) (v : Word32),
    let n := v.toNat
    let takes (field : Nat) (range : Prop) : Prop := (set.write field v).isSome = true ↔ range
    (∀ row ∈ [(4, 0, 30), (7, 0, 1), (9, 0, 5000), (11, 1, 100), (12, 0, 400), (13, 100, 500), (14, 0, 300),
        (15, 200, 900), (16, 0, 300), (17, 50, 400), (18, 1, 5000), (19, 0, 500), (20, 50, 1000), (21, 10, 200),
        (22, 20, 600), (23, 10, 600), (24, 200, 3000), (25, 0, 1), (26, 50, 2000), (27, 1, 64), (30, 10, 100),
        (31, 10, 200), (32, 50, 1000), (33, 50, 2000), (34, 8, 200), (35, 500, 5000), (39, 100, 2000), (40, 8, 200),
        (44, 500, 10000)], takes row.1 (row.2.1 ≤ n ∧ n ≤ row.2.2)) ∧
    (∀ field ∈ [0, 1], takes field (n = 0 ∨ n = 6)) ∧
    takes 2 (4 ≤ n ∧ n ≤ 23 ∧ set.lowWater < n) ∧ (1 ≤ set.highWater → takes 3 (n < set.highWater)) ∧
    takes 5 (10 ≤ n ∧ n ≤ 2000 ∧ n ≤ set.statusLoss) ∧ takes 6 (set.statusStale ≤ n ∧ n ≤ 5000) ∧
    takes 8 (1000 ≤ n ∧ n ≤ 4000 ∧ n ≤ set.maxGross) ∧ takes 10 (2000 ≤ n ∧ n ≤ 6000 ∧ set.chassisMass ≤ n) ∧
    takes 28 (10 ≤ n ∧ n ≤ 2000 ∧ n ≤ set.demandLoss) ∧ takes 29 (set.demandStale ≤ n ∧ n ≤ 5000) ∧
    takes 36 (50 ≤ n ∧ n ≤ 300 ∧ n < set.mediumLevel ∧ set.mediumLevel < set.highLevel) ∧
    takes 37 (150 ≤ n ∧ n ≤ 500 ∧ set.lowLevel < n ∧ n < set.highLevel) ∧
    takes 38 (300 ≤ n ∧ n ≤ 800 ∧ set.lowLevel < set.mediumLevel ∧ set.mediumLevel < n) ∧
    (∀ field ∈ [41, 42, 43], takes field (n < 2 ^ 11 ∨ 2 ^ 31 ≤ n ∧ n < 2 ^ 31 + 2 ^ 29)) ∧
    (∀ field, 45 ≤ field → takes field False) ∧
    (∀ field x, set.write field v = some x → x.read field = some v ∧
      ∀ other, other ≠ field → x.read other = set.read other)) ∧
  ∀ k : Fin 45, Settings.default.read k.val = some (#v[6#32, 0#32, 18#32, 10#32, 8#32, 100#32, 300#32, 1#32, 1250#32,
    2000#32, 6000#32, 5#32, 150#32, 200#32, 150#32, 650#32, 100#32, 150#32, 900#32, 100#32, 150#32, 30#32, 100#32,
    180#32, 600#32, 0#32, 300#32, 4#32, 100#32, 300#32, 20#32, 40#32, 150#32, 300#32, 40#32, 1500#32, 100#32, 300#32,
    500#32, 500#32, 40#32, 0x6F0#32, 0x6F8#32, 0x6F4#32, 2000#32].get k)

/-- Every group holds exactly the fields that R174 numbers, by index and field number. The values listed here stand at
the numbers of their places: of STATUS the supervisor's state, reason and context, the hold result record, the sample
records, B and the lowest advertised maximum, ages, flags, counts and times left, the table states; every counter, check
result and setting, and a channel record's plain fields. Of the rest (the slots, the wheel entries, the last driver frame,
other enumerated fields) it says the numbers and no value (R22, R157, R158, R174). Where a value is absent is read by
inference, notes/assumptions/13.md, and so are the numbers of enumerated values, notes/assumptions/12.md; that a wheel's
watched field reads as a flag is the model's choice, notes/assumptions/12.md, and so are the reinforcement flag's 0 in a
context where it is absent, notes/assumptions/13.md, and a counter's packing, notes/assumptions/11.md. -/
def Obligations.FieldsAreNumberedInTheirOrder : Prop :=
  ∀ s : State,
    let num (x : Nat) : Option Word32 := some (BitVec.ofNat 32 x)
    let flag (b : Bool) : Option Word32 := some (if b then 1#32 else 0#32)
    let status (index field : Nat) : Option Word32 := s.readField .status index field
    let age (a : Age) : Option Word32 := match a with
      | .fresh => num 0
      | .held => num 1
      | .lost => num 2
    let left (t : Timer) : Option Word32 := match t with
      | some x => num (x.start + x.dur - s.now)
      | none => num 0
    (∀ (g : Group) (index field : Nat), (s.readField g index field).isSome = true ↔ match g with
      | .settings => index = 0 ∧ field < 45
      | .route => index < 96 ∧ field < 8
      | .signal => index < 20 ∧ field < 11
      | .gradeCurve => index < 8 ∧ field < 2
      | .drumCurve => index < 5 ∧ field < 2
      | .channel => 1 ≤ index ∧ index ≤ 4 ∧ field < 15
      | .status => field < [12, 17, 60, 9, 3, 43, 24, 4, 7, 5, 9, 4].getD index 0
      | .counters => index = 0 ∧ field < 17
      | .checkResults => 1 ≤ index ∧ index ≤ 4 ∧ field < 3) ∧
    (status 0 0 = num s.sup.state.number ∧ status 0 1 = num s.sup.reason.number ∧
      status 0 10 = flag s.sup.handover ∧ status 0 11 = flag s.sup.autoPending ∧
      (∀ c, s.sup.ctx = some c → status 0 3 = num c.step ∧ status 0 4 = left c.holdLimit ∧
        status 0 5 = num c.entryP ∧ status 0 9 = flag c.reinforced ∧
        (∀ r, c.release = some r → status 0 6 = num r.pStart ∧ status 0 7 = left (some r.ramp))) ∧
      (s.sup.ctx = none → status 0 3 = some 0xFFFFFFFF#32)) ∧
    (let r := s.calculator.record
     (∀ k : Fin 13, status 1 k.val = num (#v[r.slopeS, r.payload, r.mass, r.slopeLoad, r.drumAllowance, r.drumLoad,
       r.load, r.margin, r.force, r.b, r.pRaw, r.pLimit, r.pHold].get k)) ∧ status 1 13 = flag r.insufficient ∧
     status 1 14 = flag r.valid ∧ status 1 16 = num s.calculator.lastForce) ∧
    (∀ k : Fin 20, let r := s.signals.records.get k
      status 2 (3 * k.val) = some (BitVec.ofInt 32 r.value) ∧ status 2 (3 * k.val + 1) = age r.age ∧
      status 2 (3 * k.val + 2) = flag r.updated) ∧
    (status 3 5 = num s.signals.window.length ∧ status 3 8 = left s.signals.reversal ∧
      (∀ g, s.gf = some g → status 3 6 = some (BitVec.ofInt 32 g))) ∧
    (status 4 1 = num s.channels.derived.b ∧ (∀ m, s.channels.derived.lowestMax = some m → status 4 2 = num m) ∧
      (s.channels.derived.lowestMax = none → status 4 2 = some 0xFFFFFFFF#32)) ∧
    (∀ k : Fin 6, let t := s.creep.wheels.get (#v[.w1, .w2, .w3, .w4, .w5, .w6].get k)
      status 5 (7 * k.val) = flag t.watched ∧ (∀ n, t.last = some n → status 5 (7 * k.val + 1) = num n) ∧
      status 5 (7 * k.val + 3) = flag t.still) ∧ status 5 42 = flag s.creep.restHolds ∧
    (let d := s.merger.driver
     status 6 0 = num d.demands.c1 ∧ status 6 1 = num d.demands.c2 ∧ status 6 2 = num d.demands.c3 ∧
     status 6 3 = num d.demands.c4 ∧ status 6 4 = age d.age ∧ status 6 5 = left d.stale ∧ status 6 6 = left d.loss ∧
     status 6 20 = num s.merger.control.length ∧ status 6 22 = num s.merger.confirmLevel ∧
     status 6 23 = left s.merger.stage) ∧
    (status 7 0 = flag s.park.prq ∧ status 7 1 = flag s.park.holdInForce ∧ status 7 3 = left s.park.timer) ∧
    (status 8 0 = flag s.path.testing ∧ status 8 3 = num s.path.settle ∧ status 8 4 = left s.path.timer) ∧
    (status 9 0 = flag s.store.marker ∧ status 9 2 = flag (!s.store.imageGood)) ∧
    (status 10 1 = num s.portV.txErr ∧ status 10 2 = num s.portV.rxErr ∧ status 10 4 = num s.portB.txErr ∧
      status 10 5 = num s.portB.rxErr ∧ status 10 6 = num s.vToB.length ∧ status 10 7 = num s.bToV.length ∧
      status 10 8 = flag s.shedding) ∧
    (status 11 0 = flag (decide (s.route.state = .suspended)) ∧ status 11 1 = flag (decide (s.signals.state = .suspended)) ∧
      status 11 2 = flag (decide (s.channels.state = .suspended)) ∧
      status 11 3 = flag (decide (s.calculator.state = .suspended))) ∧
    (∀ k : Fin 17, let n : Counter := s.counters.get (#v[.vToBDrops, .bToVDrops, .shedFrames, .busOffV, .busOffB,
        .shortFrames, .noDataFields, .wheelGlitches, .unknownAdverts, .slotDiscards, .slowBuilds, .shortChannels,
        .escalations, .rollaways, .secures, .unconfirmedSecures, .managementDrops].get k)
      s.readField .counters 0 k.val = num (n.count.toNat + if n.saturated then 256 else 0)) ∧
    (∀ (c : Chan) (k : Fin 3), let r := (s.path.results.get c).get (#v[.low, .medium, .high].get k)
      let outcome := match r.outcome with
        | .none => 0
        | .pass => 1
        | .fail => 2
        | .notRun => 3
      s.readField .checkResults c.number k.val =
        num (outcome + 2 ^ 8 * r.pressure + if r.updated then 2 ^ 24 else 0)) ∧
    (∀ c : Chan, let r := s.channels.records.get c
      let field (k : Nat) : Option Word32 := s.readField .channel c.number k
      let e := s.work.channels.get c
      field 0 = flag e.expected ∧ field 3 = num e.brakeFactor ∧ field 4 = flag e.liftable ∧ field 7 = num r.count ∧
      field 8 = num r.pressure ∧ field 9 = flag r.fault ∧ field 10 = age r.age ∧ field 11 = left r.stale ∧
      field 12 = left r.loss ∧ field 14 = flag r.lostSinceRead) ∧
    (∀ k, s.readField .settings 0 k = s.work.settings.read k)

/-- START_CHECK with the preconditions of R99 met and a channel fit to test enters CHECKING, at level LOW of the
lowest-numbered such channel; ABORT_CHECK during a run ends it with cause REQUEST, the check states as they were, and
the supervisor leaves as the unavailable conditions say. Both are answered OK. A run in CHECKING is aborted likewise with
cause DRIVER-DEMAND by a driver demand frame with a demand above 0, with cause PARK by a PARK_STATUS renewal other than
applied and by LOSS_TIMER_EXPIRY of PARK_STATUS, and with cause MOVEMENT by a wheel's movement; STANDBY is said where no
entry to HOLDING follows: the spring brake shows applied or the driver does not brake (R99, R100, R107, R115, R143, R144,
R145, R150, R160). That a row is a request served at once is the model's choice, notes/assumptions/6.md, and so is the time
that an expiry leaves, notes/assumptions/4.md. -/
def Obligations.CheckStartsAndAbortsOnRequest : Prop :=
  (∀ s : State, s.Serves →
    (s.checkPreconditions = true → ∃ t, exec .startCheck s = .next t ∧
      t.resp.replies = s.resp.replies ++ [okReply s.work.settings.replyId codeCommand 0#8 0#8 1#8 0#32 0#32] ∧
      (∀ c, (channelsAbove none).find? s.candidate = some c →
        t.sup.state = .checking ∧ t.sup.reason = .none ∧ t.path.testing = true ∧ t.path.chan = some c ∧
        t.path.level = some .low ∧ t.path.settle = 0 ∧
        t.path.timer = some ⟨s.now, s.work.settings.levelTimeout⟩ ∧ t.merger.mode = .check ∧
        t.path.results = s.path.results) ∧
      t.calm = ({ s with resp := t.resp } : State).calm) ∧
    (s.path.testing = true → s.sup.state = .checking → s.driverBraking = false →
      ∃ t, exec .abortCheck s = .next t ∧
      t.resp.replies = s.resp.replies ++ [okReply s.work.settings.replyId codeCommand 0#8 0#8 2#8 0#32 0#32] ∧
      t.path.testing = false ∧ t.path.lastRun = .aborted .request ∧ t.path.results = s.path.results ∧
      (∀ c, (t.channels.records.get c).check = (s.channels.records.get c).check) ∧
      (s.unavailableReasons = [] → t.sup.state = .standby ∧ t.sup.reason = .none) ∧
      (∀ r rest, s.unavailableReasons = r :: rest → t.sup.state = .unavailable ∧ t.sup.reason = r) ∧
      t.calm = ({ s with resp := t.resp } : State).calm)) ∧
  (∀ (s : State) (p : Port) (f : Frame), s.HandsTo p f .merge → f.dlc.val = 8 → s.path.testing = true →
    s.sup.state = .checking → s.parkApplied = true → (∃ i < 4, byteAt f.data i ≠ 0#8) →
    ∃ t, exec (.frameReceived p f) s = .next t ∧ State.AbortsCheck s t .driverDemand) ∧
  (∀ (s : State) (k : Fin 20) (x : Running), s.path.testing = true → s.sup.state = .checking → s.driverBraking = false →
    (∀ status, status ≠ 1 → State.AbortsCheck s (s.parkRenewal status) .park) ∧ (s.parkRenewal 1).path = s.path ∧
    (s.awake = true → s.signals.bindings.get k = .parkStatus → (s.signals.records.get k).loss = some x →
      (s.signals.records.get k).age ≠ .lost →
      ∃ t, exec (.lossTimerExpiry k) s = .next t ∧ State.AbortsCheck s t .park)) ∧
  ∀ (s : State) (w : Wheel) (count last : Nat) (code : DirCode), s.path.testing = true → s.sup.state = .checking →
    s.driverBraking = false → (s.creep.wheels.get w).last = some last → last < 2 ^ s.wheelLength w →
    count < 2 ^ s.wheelLength w → 1 ≤ s.wheelLength w →
    let inc := if last ≤ count then count - last else count + 2 ^ s.wheelLength w - last
    1 ≤ inc → inc ≤ 2 ^ (s.wheelLength w - 1) → State.AbortsCheck s (s.wheelSample w count code) .movement

/-- CLEAR_SAFE_START clears the marker at once and its cell at once or after the save; SAVE copies the working copies
as they stand; RELOAD empties the grade window, suspends the route table and takes the supervisor to UNAVAILABLE with
reason STORE; the first RESTART starts a restart timer of 100 ms and a further one changes nothing. All are answered
OK (R83, R160, R161, R167, R168, R169). That a row is a request served at once is the model's choice,
notes/assumptions/6.md. -/
def Obligations.StoreCommandsBeginTheirWork : Prop :=
  ∀ s : State, s.Serves →
    let answered (t : State) (field : Byte) (restart : Bool) : Prop := t.resp.requests = [] ∧
      t.resp.replies = s.resp.replies ++
        [{ okReply s.work.settings.replyId codeCommand 0#8 0#8 field 0#32 0#32 with restart := restart }]
    (∃ t, exec .clearSafeStart s = .next t ∧ answered t 3#8 false ∧ t.work = s.work ∧
      t.store = (if s.store.op = .saving then { s.store with marker := false, pendingCell := .erase }
        else { s.store with marker := false, cell := false }) ∧
      (s.sup.state = .securing ∨ s.sup.state = .secured → t.sup = s.sup ∧ t.park = s.park) ∧
      t.calm = ({ s with resp := t.resp, store := t.store } : State).calm) ∧
    (s.store.op = .idle → ∃ t, exec .save s = .next t ∧ answered t 4#8 false ∧
      t.store = { s.store with op := .saving, copy := some s.work } ∧ t.sleepTimer = none ∧
      { t with store := s.store, sleepTimer := s.sleepTimer, resp := s.resp } = s) ∧
    (s.busy = false → s.parkAppliedFresh = true → ∃ t, exec .reload s = .next t ∧ answered t 5#8 false ∧
      t.store = { s.store with op := .loading } ∧ t.route = { s.route with state := .suspended } ∧
      t.sup.state = .unavailable ∧ t.sup.reason = .store ∧ t.signals.window = [] ∧ t.signals.keptSign = .none ∧
      t.signals.reversal = none ∧ (∀ k : Fin 20, (t.signals.records.get k).age = .lost) ∧
      t.creep.watchedCount = 0 ∧ t.calculator.payloadUsed = s.work.settings.maxPayload ∧ t.sleepTimer = none ∧
      t.work = s.work ∧ t.merger.driver = s.merger.driver ∧ t.path = s.path ∧ t.portV = s.portV ∧
      t.portB = s.portB ∧ t.vToB = s.vToB ∧ t.bToV = s.bToV) ∧
    (∃ t, exec .restart s = .next t ∧ answered t 6#8 (!s.resp.restartPending) ∧ t.resp.restartPending = true ∧
      (s.resp.restartPending = false → t.resp.restartTimer = some ⟨s.now, 100⟩) ∧
      (s.resp.restartPending = true → t.resp.restartTimer = s.resp.restartTimer) ∧ { t with resp := s.resp } = s)

/-! ### Laws that every step keeps -/

/-- Every step keeps the laws that tie the supervisor's state to PRQ, the hold-in-force marker, the confirmation
state, the hold context, the safe-start marker, the path check and sleep (R80, R81, R83, R131, R132, R133, R137, R143,
R171). -/
def Obligations.LawfulIsKept : Prop :=
  ∀ s t : State, s.Lawful → step s = .next t → t.Lawful

/-- Every step keeps the sizes of the queues, the window and the counts (R3, R6, R15, R34, R125, R146, R155, R156). -/
def Obligations.BoundedIsKept : Prop :=
  ∀ s t : State, s.Bounded → step s = .next t → t.Bounded

/-- Every step keeps the laws of the demand slots and of the frames in attempt: a slot is SENDING exactly while its
frame is Port B's frame in attempt, so one at most, and two frames never share a load order (R2, R19, R20, R122,
R123). -/
def Obligations.SlottedIsKept : Prop :=
  ∀ s t : State, s.Slotted → step s = .next t → t.Slotted

/-- The state after reset keeps the three sets of laws (R131, R140, R170). What the spec leaves open in it is the
model's choice, notes/assumptions/1.md to 4.md. -/
def Obligations.ResetKeepsTheLaws : Prop :=
  State.reset.Lawful ∧ State.reset.Bounded ∧ State.reset.Slotted
end

