-- ==== Sys2Proof/Laws/Calm.lean ====
section
/-! SUPPORT. The notices a command sends leave the calm view of the state alone: one lemma per operation. -/

namespace Sys2Proof.Machine

@[simp] theorem State.calm_count (s : State) (n : CounterName) : (s.count n).calm = s.calm := rfl

@[simp] theorem State.calm_restartRefresh (s : State) : s.restartRefresh.calm = s.calm := by
  unfold restartRefresh; split <;> rfl

@[simp] theorem State.calm_enterRefresh (s : State) : s.enterRefresh.calm = s.calm := by
  unfold enterRefresh; split
  · simp
  · rfl

@[simp] theorem State.calm_tendSleep (s : State) : s.tendSleep.calm = s.calm := by
  unfold tendSleep; split <;> rfl

@[simp] theorem State.calm_makeCab (s : State) : s.makeCab.calm = s.calm := by
  unfold makeCab; dsimp only; split <;> rfl

@[simp] theorem Merger.driver_setSlot (m : Merger) (n : SlotName) (x : Slot) : (m.setSlot n x).driver = m.driver := by
  cases n <;> rfl

@[simp] theorem Merger.control_setSlot (m : Merger) (n : SlotName) (x : Slot) :
    (m.setSlot n x).control = m.control := by
  cases n <;> rfl

@[simp] theorem Merger.driver_place (m : Merger) (f : Frame) (t : Timer) : (m.place f t).driver = m.driver := by
  unfold place load; dsimp only
  split
  · split <;> simp
  · split <;> simp

@[simp] theorem Merger.control_place (m : Merger) (f : Frame) (t : Timer) : (m.place f t).control = m.control := by
  unfold place load; dsimp only
  split
  · split <;> simp
  · split <;> simp

@[simp] theorem State.calm_makeDemand (s : State) : s.makeDemand.calm = s.calm := by
  unfold makeDemand
  split
  · simp
  · rw [calm_restartRefresh]; simp [calm]

@[simp] theorem State.calm_makeForComponent (s : State) : s.makeForComponent.calm = s.calm := by
  unfold makeForComponent; split <;> simp

@[simp] theorem State.calm_noticeComponent (s : State) : s.noticeComponent.calm = s.calm := by
  unfold noticeComponent; split <;> simp

@[simp] theorem State.calm_mapContext (s : State) (f : Context → Context) : (s.mapContext f).calm = s.calm := rfl

@[simp] theorem State.calm_assertPark (s : State) : s.assertPark.calm = s.calm := rfl

@[simp] theorem State.calm_deassertPark (s : State) : s.deassertPark.calm = s.calm := rfl

@[simp] theorem State.calm_move (s : State) (st : SupState) (r : Reason) : (s.move st r).calm = s.calm := by
  unfold move; simp; rfl

@[simp] theorem State.calm_changeReason (s : State) (r : Reason) : (s.changeReason r).calm = s.calm := by
  unfold changeReason
  split
  · rfl
  · simp; rfl

@[simp] theorem State.calm_setMode (s : State) (m : HoldMode) : (s.setMode m).calm = s.calm := by
  unfold setMode; cases m <;> rfl

@[simp] theorem State.calm_evaluateCore (s : State) : s.evaluateCore.calm = s.calm := rfl

@[simp] theorem State.calm_workDriveTest (s : State) (u : Option Heading) : (s.workDriveTest u).calm = s.calm := rfl

/-- A change of the supervisor's record alone. -/
theorem State.calm_sup (s : State) (x : Sup) : ({ s with sup := x }).calm = s.calm := rfl

/-- A change of park control's record alone. -/
theorem State.calm_park (s : State) (x : Park) : ({ s with park := x }).calm = s.calm := rfl

/-- A change of the path check's record alone. -/
theorem State.calm_path (s : State) (x : PathCheck) : ({ s with path := x }).calm = s.calm := rfl

@[simp] theorem State.calm_enterUnavailable (s : State) (r : Reason) : (s.enterUnavailable r).calm = s.calm := by
  unfold enterUnavailable; dsimp only
  split <;> simp [calm_sup]

@[simp] theorem State.calm_buildConfirmed (s : State) : s.buildConfirmed.calm = s.calm := by
  unfold buildConfirmed
  split
  · split <;> simp [calm_sup]
  · rfl

@[simp] theorem State.calm_judge (s : State) : s.judge.calm = s.calm := by
  unfold judge
  split
  · split
    · rw [calm_buildConfirmed]; rfl
    · rfl
  · split
    · rw [calm_buildConfirmed]; rfl
    · rfl
  · rfl

@[simp] theorem State.calm_arm (s : State) (l : Nat) : (s.arm l).calm = s.calm := by
  unfold arm; rw [calm_judge]; rfl

@[simp] theorem State.calm_noticeConfirm (s : State) (a : Bool) : (s.noticeConfirm a).calm = s.calm := by
  unfold noticeConfirm
  split
  · rfl
  · split
    · simp
    · rfl

@[simp] theorem State.calm_handMode (s : State) (m : HoldMode) (a : Bool) : (s.handMode m a).calm = s.calm := by
  simp [handMode]

@[simp] theorem State.calm_mergerRecord (s : State) : s.mergerRecord.calm = s.calm := by simp [mergerRecord]

@[simp] theorem State.calm_mergerSet (s : State) : s.mergerSet.calm = s.calm := by simp [mergerSet]

@[simp] theorem State.calm_enterSecuring (s : State) (r : Reason) : (s.enterSecuring r).calm = s.calm := by
  simp [enterSecuring, calm_sup]

@[simp] theorem State.calm_dropHandover (s : State) : s.dropHandover.calm = s.calm := by
  unfold dropHandover
  split
  · simp [calm_sup]
  · rfl

@[simp] theorem State.calm_securingNotice (s : State) (r : Reason) : (s.securingNotice r).calm = s.calm := by
  unfold securingNotice; split <;> simp

@[simp] theorem State.calm_recordInHold (s : State) : s.recordInHold.calm = s.calm := by
  unfold recordInHold; split <;> simp

@[simp] theorem State.calm_evaluateHold (s : State) : s.evaluateHold.calm = s.calm := by simp [evaluateHold]

@[simp] theorem State.calm_enterHolding (s : State) : s.enterHolding.calm = s.calm := by
  simp [enterHolding, calm_sup]

@[simp] theorem State.calm_enterReleasing (s : State) (d : ReleaseDir) : (s.enterReleasing d).calm = s.calm := by
  simp [enterReleasing]

@[simp] theorem State.calm_returnToHolding (s : State) : s.returnToHolding.calm = s.calm := by simp [returnToHolding]

@[simp] theorem State.calm_raiseStep (s : State) : s.raiseStep.calm = s.calm := by simp [raiseStep]

@[simp] theorem State.calm_driveOutcome (s : State) (o : DriveOutcome) : (s.driveOutcome o).calm = s.calm := by
  unfold driveOutcome; split <;> simp

@[simp] theorem State.calm_creepReport (s : State) : s.creepReport.calm = s.calm := by
  unfold creepReport
  split
  · split <;> simp
  · split
    · split <;> simp
    · rfl
  · split <;> simp
  · simp [calm_sup]
  all_goals rfl

@[simp] theorem State.calm_springConfirmed (s : State) : s.springConfirmed.calm = s.calm := by
  unfold springConfirmed; split <;> simp

@[simp] theorem State.calm_holdLimitReached (s : State) : s.holdLimitReached.calm = s.calm := by
  simp [holdLimitReached]

@[simp] theorem State.calm_rework (s : State) : s.rework.calm = s.calm := rfl

/-- Entry to STANDBY a second time makes nothing more of a record (R52). -/
@[simp] theorem ChannelRecord.calm_standby (r : ChannelRecord) : r.standby.calm = r.calm := by
  cases h : r.handshake <;> cases hf : r.fault <;> simp [calm, standby, h, hf]

/-- The check state plays no part in the calm view of a record (R57). -/
@[simp] theorem ChannelRecord.calm_check (r : ChannelRecord) (x : CheckState) : ({ r with check := x }).calm = r.calm := by
  cases h : r.handshake <;> cases hf : r.fault <;> simp [calm, standby, h, hf]

@[simp] theorem State.calm_channelsStandby (s : State) : s.channelsStandby.calm = s.calm := by
  unfold channelsStandby
  rw [calm_rework]
  simp [calm, PerChan.build, PerChan.get]

@[simp] theorem State.calm_enterStandbyCore (s : State) (r : Reason) : (s.enterStandbyCore r).calm = s.calm := by
  unfold enterStandbyCore; dsimp only
  split <;> simp [calm_sup]

@[simp] theorem State.calm_testHold (s : State) : s.testHold.calm = s.calm := by
  unfold testHold; dsimp only
  split
  · split <;> simp
  · rfl

@[simp] theorem State.calm_checkReport (s : State) : s.checkReport.calm = s.calm := by
  unfold checkReport
  split
  · split <;> simp
  · rfl

@[simp] theorem State.calm_startLevel (s : State) (c : Chan) (l : Level) : (s.startLevel c l).calm = s.calm := by
  rw [startLevel, calm_makeForComponent, calm_path]

@[simp] theorem State.calm_stopRun (s : State) (r : LastRun) : (s.stopRun r).calm = s.calm := rfl

@[simp] theorem State.calm_stopLevel (s : State) : s.stopLevel.calm = s.calm := rfl

@[simp] theorem State.calm_chooseChannel (s : State) (a : Option Chan) : (s.chooseChannel a).calm = s.calm := by
  unfold chooseChannel; split <;> simp

@[simp] theorem State.calm_beginCheck (s : State) : s.beginCheck.calm = s.calm := by simp [beginCheck, calm_path]

@[simp] theorem State.calm_writeResult (s : State) (c : Chan) (l : Level) (o : ResultOutcome) (p : Nat) :
    (s.writeResult c l o p).calm = s.calm := rfl

@[simp] theorem State.calm_writeCheck (s : State) (c : Chan) (x : CheckState) : (s.writeCheck c x).calm = s.calm := by
  unfold writeCheck; dsimp only
  split <;> (try rw [calm_evaluateCore]) <;> rw [calm_rework] <;>
    cases c <;> simp [calm, PerChan.build, PerChan.get, PerChan.set]

@[simp] theorem State.calm_finishPassed (s : State) (c : Chan) : (s.finishPassed c).calm = s.calm := by
  simp [finishPassed]

@[simp] theorem State.calm_finishFailed (s : State) (c : Chan) (l : Level) : (s.finishFailed c l).calm = s.calm := by
  unfold finishFailed; cases l <;> simp [Level.above]

@[simp] theorem State.calm_failLevel (s : State) (c : Chan) (l : Level) : (s.failLevel c l).calm = s.calm := by
  simp [failLevel]

@[simp] theorem State.calm_passLevel (s : State) (c : Chan) (l : Level) : (s.passLevel c l).calm = s.calm := by
  unfold passLevel; cases l <;> simp [Level.next]

@[simp] theorem State.calm_abandon (s : State) (c : Chan) : (s.abandon c).calm = s.calm := by simp [abandon]

@[simp] theorem State.calm_judgeLevel (s : State) (c : Chan) (l : Level) : (s.judgeLevel c l).calm = s.calm := by
  unfold judgeLevel; dsimp only
  split
  · split <;> simp [calm_path]
  · rfl

@[simp] theorem State.calm_pathStatus (s : State) (c : Chan) : (s.pathStatus c).calm = s.calm := by
  unfold pathStatus
  split
  · split
    · split <;> simp
    · rfl
  · rfl

@[simp] theorem State.calm_pathSet (s : State) : s.pathSet.calm = s.calm := by
  unfold pathSet
  split
  · split <;> simp
  · rfl

@[simp] theorem State.calm_pathTimeout (s : State) : s.pathTimeout.calm = s.calm := by
  unfold pathTimeout
  split
  · split <;> simp
  · rfl

@[simp] theorem State.calm_abortCheck (s : State) (c : AbortCause) : (s.abortCheck c).calm = s.calm := by
  unfold abortCheck; split <;> simp

@[simp] theorem State.calm_pathDemand (s : State) : s.pathDemand.calm = s.calm := by
  unfold pathDemand; split <;> simp

@[simp] theorem State.calm_enterChecking (s : State) : s.enterChecking.calm = s.calm := by
  simp [enterChecking, calm_sup]

@[simp] theorem State.calm_testCheck (s : State) : s.testCheck.calm = s.calm := by
  unfold testCheck; split <;> simp

@[simp] theorem State.calm_testEntry (s : State) : s.testEntry.calm = s.calm := by
  unfold testEntry; split <;> simp

@[simp] theorem State.calm_enterStandby (s : State) (r : Reason) : (s.enterStandby r).calm = s.calm := by
  simp [enterStandby]

@[simp] theorem State.calm_noticeConditions (s : State) : s.noticeConditions.calm = s.calm := by
  unfold noticeConditions
  split
  · split
    · simp
    · split <;> simp
  · split <;> simp
  all_goals rfl

@[simp] theorem State.calm_requestMarker (s : State) (op : CellOp) :
    (s.requestMarker op).calm = { s.calm with store := s.store.request op } := by
  unfold requestMarker
  dsimp only
  split
  · rfl
  · exact State.calm_noticeConditions _

@[simp] theorem State.calm_noticeSuspended (s : State) : s.noticeSuspended.calm = s.calm := by
  unfold noticeSuspended; split <;> simp

@[simp] theorem State.calm_noticeRecord (s : State) : s.noticeRecord.calm = s.calm := by simp [noticeRecord]

@[simp] theorem State.calm_evaluate (s : State) : s.evaluate.calm = s.calm := by simp [evaluate]

@[simp] theorem State.calm_supSet (s : State) : s.supSet.calm = s.calm := by
  unfold supSet
  split
  · split <;> simp
  · split <;> simp
  · split <;> simp
  all_goals rfl

@[simp] theorem State.calm_tellSet (s : State) : s.tellSet.calm = s.calm := by simp [tellSet]

@[simp] theorem State.calm_noticeSet (s : State) (d : Derived) : (s.noticeSet d).calm = s.calm := by
  unfold noticeSet; split <;> simp

@[simp] theorem State.calm_reworkNotice (s : State) : s.reworkNotice.calm = s.calm := by simp [reworkNotice]

@[simp] theorem State.calm_mergerStatus (s : State) (c : Chan) : (s.mergerStatus c).calm = s.calm := by
  unfold mergerStatus; split <;> simp

@[simp] theorem State.calm_noticeDemand (s : State) : s.noticeDemand.calm = s.calm := by simp [noticeDemand]

@[simp] theorem State.calm_springApplied (s : State) : s.springApplied.calm = s.calm := by
  unfold springApplied; split <;> simp [calm_park]

@[simp] theorem State.calm_beginHandover (s : State) : s.beginHandover.calm = s.calm := by
  simp [beginHandover, calm_sup]

@[simp] theorem State.calm_releaseShallow (s : State) : s.releaseShallow.calm = s.calm := by
  unfold releaseShallow; split <;> simp

@[simp] theorem State.calm_releaseRequest (s : State) : s.releaseRequest.calm = s.calm := by
  unfold releaseRequest; repeat' split
  all_goals simp

@[simp] theorem State.calm_driveNotice (s : State) : s.driveNotice.calm = s.calm := by
  unfold driveNotice; split <;> simp

@[simp] theorem State.calm_parkRenewal (s : State) (x : Int) : (s.parkRenewal x).calm = s.calm := by
  unfold parkRenewal parkRenewalHold; dsimp only
  split <;> simp <;> split <;> (try split) <;> simp

@[simp] theorem State.calm_parkAgeing (s : State) (a : Age) : (s.parkAgeing a).calm = s.calm := by
  unfold parkAgeing; split <;> simp

/-! ### What one calm view says of each field -/

theorem State.pending_of_calm {s t : State} (h : s.calm = t.calm) : s.pending = t.pending := by
  have e := congrArg State.pending h; exact e

theorem State.choices_of_calm {s t : State} (h : s.calm = t.calm) : s.choices = t.choices := by
  have e := congrArg State.choices h; exact e

theorem State.powered_of_calm {s t : State} (h : s.calm = t.calm) : s.powered = t.powered := by
  have e := congrArg State.powered h; exact e

theorem State.asleep_of_calm {s t : State} (h : s.calm = t.calm) : s.asleep = t.asleep := by
  have e := congrArg State.asleep h; exact e

theorem State.key_of_calm {s t : State} (h : s.calm = t.calm) : s.key = t.key := by
  have e := congrArg State.key h; exact e

theorem State.now_of_calm {s t : State} (h : s.calm = t.calm) : s.now = t.now := by
  have e := congrArg State.now h; exact e

theorem State.start_of_calm {s t : State} (h : s.calm = t.calm) : s.start = t.start := by
  have e := congrArg State.start h; exact e

theorem State.portV_of_calm {s t : State} (h : s.calm = t.calm) : s.portV = t.portV := by
  have e := congrArg State.portV h; exact e

theorem State.portB_of_calm {s t : State} (h : s.calm = t.calm) : s.portB = t.portB := by
  have e := congrArg State.portB h; exact e

theorem State.route_of_calm {s t : State} (h : s.calm = t.calm) : s.route = t.route := by
  have e := congrArg State.route h; exact e

theorem State.vToB_of_calm {s t : State} (h : s.calm = t.calm) : s.vToB = t.vToB := by
  have e := congrArg State.vToB h; exact e

theorem State.shedding_of_calm {s t : State} (h : s.calm = t.calm) : s.shedding = t.shedding := by
  have e := congrArg State.shedding h; exact e

theorem State.bToV_of_calm {s t : State} (h : s.calm = t.calm) : s.bToV = t.bToV := by
  have e := congrArg State.bToV h; exact e

theorem State.signals_of_calm {s t : State} (h : s.calm = t.calm) : s.signals = t.signals := by
  have e := congrArg State.signals h; exact e

theorem State.creep_of_calm {s t : State} (h : s.calm = t.calm) : s.creep = t.creep := by
  have e := congrArg State.creep h; exact e

theorem State.store_of_calm {s t : State} (h : s.calm = t.calm) : s.store = t.store := by
  have e := congrArg State.store h; exact e

theorem State.work_of_calm {s t : State} (h : s.calm = t.calm) : s.work = t.work := by
  have e := congrArg State.work h; exact e

theorem State.channels_state_of_calm {s t : State} (h : s.calm = t.calm) : s.channels.state = t.channels.state := by
  have e := congrArg (fun x => x.channels.state) h; exact e

theorem State.calculator_state_of_calm {s t : State} (h : s.calm = t.calm) : s.calculator.state = t.calculator.state := by
  have e := congrArg (fun x => x.calculator.state) h; exact e

theorem State.calculator_payloadUsed_of_calm {s t : State} (h : s.calm = t.calm) : s.calculator.payloadUsed = t.calculator.payloadUsed := by
  have e := congrArg (fun x => x.calculator.payloadUsed) h; exact e

theorem State.merger_driver_of_calm {s t : State} (h : s.calm = t.calm) : s.merger.driver = t.merger.driver := by
  have e := congrArg (fun x => x.merger.driver) h; exact e

theorem State.merger_control_of_calm {s t : State} (h : s.calm = t.calm) : s.merger.control = t.merger.control := by
  have e := congrArg (fun x => x.merger.control) h; exact e

theorem State.resp_requests_of_calm {s t : State} (h : s.calm = t.calm) : s.resp.requests = t.resp.requests := by
  have e := congrArg (fun x => x.resp.requests) h; exact e

theorem State.resp_replies_of_calm {s t : State} (h : s.calm = t.calm) : s.resp.replies = t.resp.replies := by
  have e := congrArg (fun x => x.resp.replies) h; exact e

theorem State.resp_restartPending_of_calm {s t : State} (h : s.calm = t.calm) : s.resp.restartPending = t.resp.restartPending := by
  have e := congrArg (fun x => x.resp.restartPending) h; exact e

theorem State.resp_restartTimer_of_calm {s t : State} (h : s.calm = t.calm) : s.resp.restartTimer = t.resp.restartTimer := by
  have e := congrArg (fun x => x.resp.restartTimer) h; exact e

theorem State.record_of_calm {s t : State} (h : s.calm = t.calm) (c : Chan) :
    (s.channels.records.get c).calm = (t.channels.records.get c).calm := by
  have e := congrArg (fun x => x.channels.records.get c) h
  cases c <;> exact e


theorem State.pending_of_quiet {s t : State} (h : s.quiet = t.quiet) : s.pending = t.pending := by
  have e := congrArg State.pending h; exact e

theorem State.choices_of_quiet {s t : State} (h : s.quiet = t.quiet) : s.choices = t.choices := by
  have e := congrArg State.choices h; exact e

theorem State.powered_of_quiet {s t : State} (h : s.quiet = t.quiet) : s.powered = t.powered := by
  have e := congrArg State.powered h; exact e

theorem State.asleep_of_quiet {s t : State} (h : s.quiet = t.quiet) : s.asleep = t.asleep := by
  have e := congrArg State.asleep h; exact e

theorem State.key_of_quiet {s t : State} (h : s.quiet = t.quiet) : s.key = t.key := by
  have e := congrArg State.key h; exact e

theorem State.now_of_quiet {s t : State} (h : s.quiet = t.quiet) : s.now = t.now := by
  have e := congrArg State.now h; exact e

theorem State.start_of_quiet {s t : State} (h : s.quiet = t.quiet) : s.start = t.start := by
  have e := congrArg State.start h; exact e

theorem State.portV_of_quiet {s t : State} (h : s.quiet = t.quiet) : s.portV = t.portV := by
  have e := congrArg State.portV h; exact e

theorem State.portB_of_quiet {s t : State} (h : s.quiet = t.quiet) : s.portB = t.portB := by
  have e := congrArg State.portB h; exact e

theorem State.route_of_quiet {s t : State} (h : s.quiet = t.quiet) : s.route = t.route := by
  have e := congrArg State.route h; exact e

theorem State.vToB_of_quiet {s t : State} (h : s.quiet = t.quiet) : s.vToB = t.vToB := by
  have e := congrArg State.vToB h; exact e

theorem State.shedding_of_quiet {s t : State} (h : s.quiet = t.quiet) : s.shedding = t.shedding := by
  have e := congrArg State.shedding h; exact e

theorem State.bToV_of_quiet {s t : State} (h : s.quiet = t.quiet) : s.bToV = t.bToV := by
  have e := congrArg State.bToV h; exact e

theorem State.signals_of_quiet {s t : State} (h : s.quiet = t.quiet) : s.signals = t.signals := by
  have e := congrArg State.signals h; exact e

theorem State.store_of_quiet {s t : State} (h : s.quiet = t.quiet) : s.store = t.store := by
  have e := congrArg State.store h; exact e

theorem State.work_of_quiet {s t : State} (h : s.quiet = t.quiet) : s.work = t.work := by
  have e := congrArg State.work h; exact e

/-! ### The wider view -/

/-- States of one calm view have one quiet view. -/
theorem State.quiet_of_calm {s t : State} (h : s.calm = t.calm) : s.quiet = t.quiet := by
  unfold quiet; rw [h]

/-- States of one quiet view have one steady view. -/
theorem State.steady_of_quiet {s t : State} (h : s.quiet = t.quiet) : s.steady = t.steady := by
  unfold steady; rw [h]

@[simp] theorem State.quiet_recheckRest (s : State) : s.recheckRest.quiet = s.quiet := by
  unfold recheckRest; dsimp only
  split
  · rw [quiet_of_calm (calm_testEntry _)]; rfl
  · rfl

@[simp] theorem State.quiet_trackWheels (s : State) : s.trackWheels.quiet = s.quiet := rfl

@[simp] theorem State.calm_tellWheels (s : State) (before : Creep) : (s.tellWheels before).calm = s.calm := by
  unfold tellWheels; dsimp only; (repeat' split) <;> simp

@[simp] theorem State.quiet_watchWheels (s : State) : s.watchWheels.quiet = s.quiet :=
  (quiet_of_calm (calm_tellWheels _ _)).trans (quiet_trackWheels s)

@[simp] theorem State.quiet_setPayload (s : State) (p : Nat) : (s.setPayload p).quiet = s.quiet := rfl

@[simp] theorem State.quiet_evaluate (s : State) : s.evaluate.quiet = s.quiet := quiet_of_calm (calm_evaluate s)

@[simp] theorem State.quiet_testEntry (s : State) : s.testEntry.quiet = s.quiet := quiet_of_calm (calm_testEntry s)

@[simp] theorem State.quiet_securingNotice (s : State) (r : Reason) : (s.securingNotice r).quiet = s.quiet :=
  quiet_of_calm (calm_securingNotice s r)

/-- An ageing signal: its consumers leave the quiet view alone (R31, R32). -/
theorem State.quiet_notify_ageing (s : State) (role : Role) (before after : SampleRecord) :
    (s.notify role .ageing before after).quiet = s.quiet := by
  unfold notify; dsimp only
  cases role <;> dsimp only
  case payload => split <;> simp [payloadMax]
  case engineTorque => exact quiet_of_calm (calm_driveNotice s)
  case gearRatio => exact quiet_of_calm (calm_driveNotice s)
  case reservoir => split <;> simp
  case parkStatus => exact quiet_of_calm (calm_parkAgeing s _)
  case parkReleaseReq =>
    split
    · exact quiet_of_calm (calm_releaseRequest s)
    · rfl
  case driverPresent => split <;> simp
  case pendantActive => split <;> simp
  case liftAxle => exact quiet_of_calm (calm_reworkNotice s)
  all_goals simp

end Sys2Proof.Machine
end

