-- ==== Sys2Proof/Laws/Accepted.lean ====
section
/-! SUPPORT. No notice takes a channel out of ACCEPTED (R52 only adds to them): one lemma per operation. -/

namespace Sys2Proof.Machine

/-- The channel is ACCEPTED. -/
def State.accepted (s : State) (k : Chan) : Bool := decide ((s.channels.records.get k).handshake = .accepted)


@[simp] theorem State.accepted_count (s : State) (n : CounterName) {k : Chan} (h : s.accepted k = true) :
    (s.count n).accepted k = true := h

@[simp] theorem State.accepted_restartRefresh (s : State) {k : Chan} (h : s.accepted k = true) :
    s.restartRefresh.accepted k = true := by
  unfold restartRefresh; split <;> exact h

@[simp] theorem State.accepted_enterRefresh (s : State) {k : Chan} (h : s.accepted k = true) :
    s.enterRefresh.accepted k = true := by
  unfold enterRefresh; split
  · simp (maxDischargeDepth := 9) [h]
  · exact h

@[simp] theorem State.accepted_tendSleep (s : State) {k : Chan} (h : s.accepted k = true) :
    s.tendSleep.accepted k = true := by
  unfold tendSleep; split <;> exact h

@[simp] theorem State.accepted_makeCab (s : State) {k : Chan} (h : s.accepted k = true) :
    s.makeCab.accepted k = true := by
  unfold makeCab; dsimp only; split <;> exact h

@[simp] theorem State.accepted_makeDemand (s : State) {k : Chan} (h : s.accepted k = true) :
    s.makeDemand.accepted k = true := by
  unfold makeDemand
  split
  · simp (maxDischargeDepth := 9) [h]
  · exact accepted_restartRefresh _ h

@[simp] theorem State.accepted_makeForComponent (s : State) {k : Chan} (h : s.accepted k = true) :
    s.makeForComponent.accepted k = true := by
  unfold makeForComponent; split <;> simp (maxDischargeDepth := 9) [h]

@[simp] theorem State.accepted_noticeComponent (s : State) {k : Chan} (h : s.accepted k = true) :
    s.noticeComponent.accepted k = true := by
  unfold noticeComponent; split <;> simp (maxDischargeDepth := 9) [h]

@[simp] theorem State.accepted_mapContext (s : State) (f : Context → Context) {k : Chan} (h : s.accepted k = true) :
    (s.mapContext f).accepted k = true := h

@[simp] theorem State.accepted_assertPark (s : State) {k : Chan} (h : s.accepted k = true) :
    s.assertPark.accepted k = true := h

@[simp] theorem State.accepted_deassertPark (s : State) {k : Chan} (h : s.accepted k = true) :
    s.deassertPark.accepted k = true := h

@[simp] theorem State.accepted_move (s : State) (st : SupState) (r : Reason) {k : Chan} (h : s.accepted k = true) :
    (s.move st r).accepted k = true := by
  unfold move
  exact accepted_makeCab _ (accepted_tendSleep _ (accepted_enterRefresh _ h))

@[simp] theorem State.accepted_changeReason (s : State) (r : Reason) {k : Chan} (h : s.accepted k = true) :
    (s.changeReason r).accepted k = true := by
  unfold changeReason
  split
  · exact h
  · exact accepted_makeCab _ h

@[simp] theorem State.accepted_setMode (s : State) (m : HoldMode) {k : Chan} (h : s.accepted k = true) :
    (s.setMode m).accepted k = true := by
  unfold setMode; cases m <;> exact h

@[simp] theorem State.accepted_evaluateCore (s : State) {k : Chan} (h : s.accepted k = true) :
    s.evaluateCore.accepted k = true := h

@[simp] theorem State.accepted_workDriveTest (s : State) (u : Option Heading) {k : Chan} (h : s.accepted k = true) :
    (s.workDriveTest u).accepted k = true := h

theorem State.accepted_sup (s : State) (x : Sup) {k : Chan} (h : s.accepted k = true) :
    State.accepted (({ s with sup := x })) k = true := h

theorem State.accepted_park (s : State) (x : Park) {k : Chan} (h : s.accepted k = true) :
    State.accepted (({ s with park := x })) k = true := h

theorem State.accepted_path (s : State) (x : PathCheck) {k : Chan} (h : s.accepted k = true) :
    State.accepted (({ s with path := x })) k = true := h

@[simp] theorem State.accepted_enterUnavailable (s : State) (r : Reason) {k : Chan} (h : s.accepted k = true) :
    (s.enterUnavailable r).accepted k = true := by
  unfold enterUnavailable; dsimp only
  split <;> simp (maxDischargeDepth := 9) [h, accepted_sup]

@[simp] theorem State.accepted_buildConfirmed (s : State) {k : Chan} (h : s.accepted k = true) :
    s.buildConfirmed.accepted k = true := by
  unfold buildConfirmed
  split
  · split <;> simp (maxDischargeDepth := 9) [h, accepted_sup]
  · exact h

@[simp] theorem State.accepted_judge (s : State) {k : Chan} (h : s.accepted k = true) :
    s.judge.accepted k = true := by
  unfold judge
  split
  · split
    · exact accepted_buildConfirmed _ h
    · exact h
  · split
    · exact accepted_buildConfirmed _ h
    · exact h
  · exact h

@[simp] theorem State.accepted_arm (s : State) (l : Nat) {k : Chan} (h : s.accepted k = true) :
    (s.arm l).accepted k = true := by
  unfold arm; exact accepted_judge _ h

@[simp] theorem State.accepted_noticeConfirm (s : State) (a : Bool) {k : Chan} (h : s.accepted k = true) :
    (s.noticeConfirm a).accepted k = true := by
  unfold noticeConfirm
  split
  · exact h
  · split
    · simp (maxDischargeDepth := 9) [h]
    · exact h

@[simp] theorem State.accepted_handMode (s : State) (m : HoldMode) (a : Bool) {k : Chan} (h : s.accepted k = true) :
    (s.handMode m a).accepted k = true := by
  simp (maxDischargeDepth := 9) [h, handMode]

@[simp] theorem State.accepted_mergerRecord (s : State) {k : Chan} (h : s.accepted k = true) :
    s.mergerRecord.accepted k = true := by simp (maxDischargeDepth := 9) [h, mergerRecord]

@[simp] theorem State.accepted_mergerSet (s : State) {k : Chan} (h : s.accepted k = true) :
    s.mergerSet.accepted k = true := by simp (maxDischargeDepth := 9) [h, mergerSet]

@[simp] theorem State.accepted_enterSecuring (s : State) (r : Reason) {k : Chan} (h : s.accepted k = true) :
    (s.enterSecuring r).accepted k = true := by
  simp (maxDischargeDepth := 9) [h, enterSecuring, accepted_sup]

@[simp] theorem State.accepted_dropHandover (s : State) {k : Chan} (h : s.accepted k = true) :
    s.dropHandover.accepted k = true := by
  unfold dropHandover
  split
  · simp (maxDischargeDepth := 9) [h, accepted_sup]
  · exact h

@[simp] theorem State.accepted_securingNotice (s : State) (r : Reason) {k : Chan} (h : s.accepted k = true) :
    (s.securingNotice r).accepted k = true := by
  unfold securingNotice; split <;> simp (maxDischargeDepth := 9) [h]

@[simp] theorem State.accepted_recordInHold (s : State) {k : Chan} (h : s.accepted k = true) :
    s.recordInHold.accepted k = true := by
  unfold recordInHold; split <;> simp (maxDischargeDepth := 9) [h]

@[simp] theorem State.accepted_evaluateHold (s : State) {k : Chan} (h : s.accepted k = true) :
    s.evaluateHold.accepted k = true := by simp (maxDischargeDepth := 9) [h, evaluateHold]

@[simp] theorem State.accepted_enterHolding (s : State) {k : Chan} (h : s.accepted k = true) :
    s.enterHolding.accepted k = true := by
  simp (maxDischargeDepth := 9) [h, enterHolding, accepted_sup]

@[simp] theorem State.accepted_enterReleasing (s : State) (d : ReleaseDir) {k : Chan} (h : s.accepted k = true) :
    (s.enterReleasing d).accepted k = true := by
  simp (maxDischargeDepth := 9) [h, enterReleasing]

@[simp] theorem State.accepted_returnToHolding (s : State) {k : Chan} (h : s.accepted k = true) :
    s.returnToHolding.accepted k = true := by simp (maxDischargeDepth := 9) [h, returnToHolding]

@[simp] theorem State.accepted_raiseStep (s : State) {k : Chan} (h : s.accepted k = true) :
    s.raiseStep.accepted k = true := by simp (maxDischargeDepth := 9) [h, raiseStep]

@[simp] theorem State.accepted_driveOutcome (s : State) (o : DriveOutcome) {k : Chan} (h : s.accepted k = true) :
    (s.driveOutcome o).accepted k = true := by
  unfold driveOutcome; split <;> simp (maxDischargeDepth := 9) [h]

@[simp] theorem State.accepted_creepReport (s : State) {k : Chan} (h : s.accepted k = true) :
    s.creepReport.accepted k = true := by
  unfold creepReport
  split
  · split <;> simp (maxDischargeDepth := 9) [h]
  · split
    · split <;> simp (maxDischargeDepth := 9) [h]
    · exact h
  · split <;> simp (maxDischargeDepth := 9) [h]
  · simp (maxDischargeDepth := 9) [h, accepted_sup]
  all_goals exact h

@[simp] theorem State.accepted_springConfirmed (s : State) {k : Chan} (h : s.accepted k = true) :
    s.springConfirmed.accepted k = true := by
  unfold springConfirmed; split <;> simp (maxDischargeDepth := 9) [h]

@[simp] theorem State.accepted_holdLimitReached (s : State) {k : Chan} (h : s.accepted k = true) :
    s.holdLimitReached.accepted k = true := by
  simp (maxDischargeDepth := 9) [h, holdLimitReached]

@[simp] theorem State.accepted_rework (s : State) {k : Chan} (h : s.accepted k = true) :
    s.rework.accepted k = true := h

@[simp] theorem State.accepted_channelsStandby (s : State) {k : Chan} (h : s.accepted k = true) :
    s.channelsStandby.accepted k = true := by
  unfold channelsStandby
  simp only [accepted, decide_eq_true_eq] at h ⊢
  cases k <;> simp_all [rework, PerChan.build, PerChan.get, ChannelRecord.standby]

@[simp] theorem State.accepted_enterStandbyCore (s : State) (r : Reason) {k : Chan} (h : s.accepted k = true) :
    (s.enterStandbyCore r).accepted k = true := by
  unfold enterStandbyCore; dsimp only
  split <;> simp (maxDischargeDepth := 9) [h, accepted_sup]

@[simp] theorem State.accepted_testHold (s : State) {k : Chan} (h : s.accepted k = true) :
    s.testHold.accepted k = true := by
  unfold testHold; dsimp only
  split
  · split <;> simp (maxDischargeDepth := 9) [h]
  · exact h

@[simp] theorem State.accepted_checkReport (s : State) {k : Chan} (h : s.accepted k = true) :
    s.checkReport.accepted k = true := by
  unfold checkReport
  split
  · split <;> simp (maxDischargeDepth := 9) [h]
  · exact h

@[simp] theorem State.accepted_startLevel (s : State) (c : Chan) (l : Level) {k : Chan} (h : s.accepted k = true) :
    (s.startLevel c l).accepted k = true := by
  exact accepted_makeForComponent _ h

@[simp] theorem State.accepted_stopRun (s : State) (r : LastRun) {k : Chan} (h : s.accepted k = true) :
    (s.stopRun r).accepted k = true := h

@[simp] theorem State.accepted_stopLevel (s : State) {k : Chan} (h : s.accepted k = true) :
    s.stopLevel.accepted k = true := h

@[simp] theorem State.accepted_chooseChannel (s : State) (a : Option Chan) {k : Chan} (h : s.accepted k = true) :
    (s.chooseChannel a).accepted k = true := by
  unfold chooseChannel; split <;> simp (maxDischargeDepth := 9) [h]

@[simp] theorem State.accepted_beginCheck (s : State) {k : Chan} (h : s.accepted k = true) :
    s.beginCheck.accepted k = true := by simp (maxDischargeDepth := 9) [h, beginCheck, accepted_path]

@[simp] theorem State.accepted_writeResult (s : State) (c : Chan) (l : Level) (o : ResultOutcome) (p : Nat) {k : Chan} (h : s.accepted k = true) :
    (s.writeResult c l o p).accepted k = true := h

@[simp] theorem State.accepted_writeCheck (s : State) (c : Chan) (x : CheckState) {k : Chan} (h : s.accepted k = true) :
    (s.writeCheck c x).accepted k = true := by
  unfold writeCheck; dsimp only
  simp only [accepted, decide_eq_true_eq] at h ⊢
  split <;> cases c <;> cases k <;> simp_all [rework, evaluateCore, PerChan.get, PerChan.set]

@[simp] theorem State.accepted_finishPassed (s : State) (c : Chan) {k : Chan} (h : s.accepted k = true) :
    (s.finishPassed c).accepted k = true := by
  simp (maxDischargeDepth := 9) [h, finishPassed]

@[simp] theorem State.accepted_finishFailed (s : State) (c : Chan) (l : Level) {k : Chan} (h : s.accepted k = true) :
    (s.finishFailed c l).accepted k = true := by
  unfold finishFailed; cases l <;> simp (maxDischargeDepth := 9) [h, Level.above]

@[simp] theorem State.accepted_failLevel (s : State) (c : Chan) (l : Level) {k : Chan} (h : s.accepted k = true) :
    (s.failLevel c l).accepted k = true := by
  simp (maxDischargeDepth := 9) [h, failLevel]

@[simp] theorem State.accepted_passLevel (s : State) (c : Chan) (l : Level) {k : Chan} (h : s.accepted k = true) :
    (s.passLevel c l).accepted k = true := by
  unfold passLevel; cases l <;> simp (maxDischargeDepth := 9) [h, Level.next]

@[simp] theorem State.accepted_abandon (s : State) (c : Chan) {k : Chan} (h : s.accepted k = true) :
    (s.abandon c).accepted k = true := by simp (maxDischargeDepth := 9) [h, abandon]

@[simp] theorem State.accepted_judgeLevel (s : State) (c : Chan) (l : Level) {k : Chan} (h : s.accepted k = true) :
    (s.judgeLevel c l).accepted k = true := by
  unfold judgeLevel; dsimp only
  split
  · split <;> simp (maxDischargeDepth := 9) [h, accepted_path]
  · exact h

@[simp] theorem State.accepted_pathStatus (s : State) (c : Chan) {k : Chan} (h : s.accepted k = true) :
    (s.pathStatus c).accepted k = true := by
  unfold pathStatus
  split
  · split
    · split <;> simp (maxDischargeDepth := 9) [h]
    · exact h
  · exact h

@[simp] theorem State.accepted_pathSet (s : State) {k : Chan} (h : s.accepted k = true) :
    s.pathSet.accepted k = true := by
  unfold pathSet
  split
  · split <;> simp (maxDischargeDepth := 9) [h]
  · exact h

@[simp] theorem State.accepted_pathTimeout (s : State) {k : Chan} (h : s.accepted k = true) :
    s.pathTimeout.accepted k = true := by
  unfold pathTimeout
  split
  · split <;> simp (maxDischargeDepth := 9) [h]
  · exact h

@[simp] theorem State.accepted_abortCheck (s : State) (c : AbortCause) {k : Chan} (h : s.accepted k = true) :
    (s.abortCheck c).accepted k = true := by
  unfold abortCheck; split <;> simp (maxDischargeDepth := 9) [h]

@[simp] theorem State.accepted_pathDemand (s : State) {k : Chan} (h : s.accepted k = true) :
    s.pathDemand.accepted k = true := by
  unfold pathDemand; split <;> simp (maxDischargeDepth := 9) [h]

@[simp] theorem State.accepted_enterChecking (s : State) {k : Chan} (h : s.accepted k = true) :
    s.enterChecking.accepted k = true := by
  simp (maxDischargeDepth := 9) [h, enterChecking, accepted_sup]

@[simp] theorem State.accepted_testCheck (s : State) {k : Chan} (h : s.accepted k = true) :
    s.testCheck.accepted k = true := by
  unfold testCheck; split <;> simp (maxDischargeDepth := 9) [h]

@[simp] theorem State.accepted_testEntry (s : State) {k : Chan} (h : s.accepted k = true) :
    s.testEntry.accepted k = true := by
  unfold testEntry; split <;> simp (maxDischargeDepth := 9) [h]

@[simp] theorem State.accepted_enterStandby (s : State) (r : Reason) {k : Chan} (h : s.accepted k = true) :
    (s.enterStandby r).accepted k = true := by
  simp (maxDischargeDepth := 9) [h, enterStandby]

@[simp] theorem State.accepted_noticeConditions (s : State) {k : Chan} (h : s.accepted k = true) :
    s.noticeConditions.accepted k = true := by
  unfold noticeConditions
  split
  · split
    · simp (maxDischargeDepth := 9) [h]
    · split <;> simp (maxDischargeDepth := 9) [h]
  · split <;> simp (maxDischargeDepth := 9) [h]
  all_goals exact h

@[simp] theorem State.accepted_noticeRecord (s : State) {k : Chan} (h : s.accepted k = true) :
    s.noticeRecord.accepted k = true := by simp (maxDischargeDepth := 9) [h, noticeRecord]

@[simp] theorem State.accepted_evaluate (s : State) {k : Chan} (h : s.accepted k = true) :
    s.evaluate.accepted k = true := by simp (maxDischargeDepth := 9) [h, evaluate]

@[simp] theorem State.accepted_supSet (s : State) {k : Chan} (h : s.accepted k = true) :
    s.supSet.accepted k = true := by
  unfold supSet
  split
  · split <;> simp (maxDischargeDepth := 9) [h]
  · split <;> simp (maxDischargeDepth := 9) [h]
  · split <;> simp (maxDischargeDepth := 9) [h]
  all_goals exact h

@[simp] theorem State.accepted_tellSet (s : State) {k : Chan} (h : s.accepted k = true) :
    s.tellSet.accepted k = true := by simp (maxDischargeDepth := 9) [h, tellSet]

@[simp] theorem State.accepted_noticeSet (s : State) (d : Derived) {k : Chan} (h : s.accepted k = true) :
    (s.noticeSet d).accepted k = true := by
  unfold noticeSet; split <;> simp (maxDischargeDepth := 9) [h]

@[simp] theorem State.accepted_reworkNotice (s : State) {k : Chan} (h : s.accepted k = true) :
    s.reworkNotice.accepted k = true := by simp (maxDischargeDepth := 9) [h, reworkNotice]

@[simp] theorem State.accepted_mergerStatus (s : State) (c : Chan) {k : Chan} (h : s.accepted k = true) :
    (s.mergerStatus c).accepted k = true := by
  unfold mergerStatus; split <;> simp (maxDischargeDepth := 9) [h]

@[simp] theorem State.accepted_noticeDemand (s : State) {k : Chan} (h : s.accepted k = true) :
    s.noticeDemand.accepted k = true := by simp (maxDischargeDepth := 9) [h, noticeDemand]

@[simp] theorem State.accepted_springApplied (s : State) {k : Chan} (h : s.accepted k = true) :
    s.springApplied.accepted k = true := by
  unfold springApplied; split <;> simp (maxDischargeDepth := 9) [h, accepted_park]

@[simp] theorem State.accepted_beginHandover (s : State) {k : Chan} (h : s.accepted k = true) :
    s.beginHandover.accepted k = true := by
  simp (maxDischargeDepth := 9) [h, beginHandover, accepted_sup]

@[simp] theorem State.accepted_releaseShallow (s : State) {k : Chan} (h : s.accepted k = true) :
    s.releaseShallow.accepted k = true := by
  unfold releaseShallow; split <;> simp (maxDischargeDepth := 9) [h]

@[simp] theorem State.accepted_releaseRequest (s : State) {k : Chan} (h : s.accepted k = true) :
    s.releaseRequest.accepted k = true := by
  unfold releaseRequest; repeat' split
  all_goals simp (maxDischargeDepth := 9) [h]

@[simp] theorem State.accepted_driveNotice (s : State) {k : Chan} (h : s.accepted k = true) :
    s.driveNotice.accepted k = true := by
  unfold driveNotice; split <;> simp (maxDischargeDepth := 9) [h]

@[simp] theorem State.accepted_parkRenewal (s : State) (x : Int) {k : Chan} (h : s.accepted k = true) :
    (s.parkRenewal x).accepted k = true := by
  unfold parkRenewal parkRenewalHold; dsimp only
  split <;> (try split) <;> (try split) <;> simp (maxDischargeDepth := 9) [h]

@[simp] theorem State.accepted_parkAgeing (s : State) (a : Age) {k : Chan} (h : s.accepted k = true) :
    (s.parkAgeing a).accepted k = true := by
  unfold parkAgeing; split <;> simp (maxDischargeDepth := 9) [h]

end Sys2Proof.Machine
end

