-- ==== Sys2Proof/Laws/State.lean ====
section
/-! SUPPORT. What each named update of the state leaves of each field: one lemma per field per update, true by rfl. -/

namespace Sys2Proof.Machine

/-! ### Counting -/

@[simp] theorem State.pending_count (s : State) (n : CounterName) : (s.count n).pending = s.pending := rfl
@[simp] theorem State.choices_count (s : State) (n : CounterName) : (s.count n).choices = s.choices := rfl
@[simp] theorem State.powered_count (s : State) (n : CounterName) : (s.count n).powered = s.powered := rfl
@[simp] theorem State.asleep_count (s : State) (n : CounterName) : (s.count n).asleep = s.asleep := rfl
@[simp] theorem State.key_count (s : State) (n : CounterName) : (s.count n).key = s.key := rfl
@[simp] theorem State.now_count (s : State) (n : CounterName) : (s.count n).now = s.now := rfl
@[simp] theorem State.start_count (s : State) (n : CounterName) : (s.count n).start = s.start := rfl
@[simp] theorem State.sleepTimer_count (s : State) (n : CounterName) : (s.count n).sleepTimer = s.sleepTimer := rfl
@[simp] theorem State.portV_count (s : State) (n : CounterName) : (s.count n).portV = s.portV := rfl
@[simp] theorem State.portB_count (s : State) (n : CounterName) : (s.count n).portB = s.portB := rfl
@[simp] theorem State.route_count (s : State) (n : CounterName) : (s.count n).route = s.route := rfl
@[simp] theorem State.vToB_count (s : State) (n : CounterName) : (s.count n).vToB = s.vToB := rfl
@[simp] theorem State.shedding_count (s : State) (n : CounterName) : (s.count n).shedding = s.shedding := rfl
@[simp] theorem State.bToV_count (s : State) (n : CounterName) : (s.count n).bToV = s.bToV := rfl
@[simp] theorem State.signals_count (s : State) (n : CounterName) : (s.count n).signals = s.signals := rfl
@[simp] theorem State.channels_count (s : State) (n : CounterName) : (s.count n).channels = s.channels := rfl
@[simp] theorem State.calculator_count (s : State) (n : CounterName) : (s.count n).calculator = s.calculator := rfl
@[simp] theorem State.sup_count (s : State) (n : CounterName) : (s.count n).sup = s.sup := rfl
@[simp] theorem State.creep_count (s : State) (n : CounterName) : (s.count n).creep = s.creep := rfl
@[simp] theorem State.merger_count (s : State) (n : CounterName) : (s.count n).merger = s.merger := rfl
@[simp] theorem State.park_count (s : State) (n : CounterName) : (s.count n).park = s.park := rfl
@[simp] theorem State.path_count (s : State) (n : CounterName) : (s.count n).path = s.path := rfl
@[simp] theorem State.resp_count (s : State) (n : CounterName) : (s.count n).resp = s.resp := rfl
@[simp] theorem State.store_count (s : State) (n : CounterName) : (s.count n).store = s.store := rfl
@[simp] theorem State.work_count (s : State) (n : CounterName) : (s.count n).work = s.work := rfl
@[simp] theorem State.counters_count (s : State) (n : CounterName) :
    (s.count n).counters = s.counters.set n (s.counters.get n).bump := rfl

/-! ### Time -/

@[simp] theorem State.pending_reach (s : State) (r : Running) : (s.reach r).pending = s.pending := rfl
@[simp] theorem State.choices_reach (s : State) (r : Running) : (s.reach r).choices = s.choices := rfl
@[simp] theorem State.powered_reach (s : State) (r : Running) : (s.reach r).powered = s.powered := rfl
@[simp] theorem State.asleep_reach (s : State) (r : Running) : (s.reach r).asleep = s.asleep := rfl
@[simp] theorem State.key_reach (s : State) (r : Running) : (s.reach r).key = s.key := rfl
@[simp] theorem State.start_reach (s : State) (r : Running) : (s.reach r).start = s.start := rfl
@[simp] theorem State.sleepTimer_reach (s : State) (r : Running) : (s.reach r).sleepTimer = s.sleepTimer := rfl
@[simp] theorem State.portV_reach (s : State) (r : Running) : (s.reach r).portV = s.portV := rfl
@[simp] theorem State.portB_reach (s : State) (r : Running) : (s.reach r).portB = s.portB := rfl
@[simp] theorem State.route_reach (s : State) (r : Running) : (s.reach r).route = s.route := rfl
@[simp] theorem State.vToB_reach (s : State) (r : Running) : (s.reach r).vToB = s.vToB := rfl
@[simp] theorem State.shedding_reach (s : State) (r : Running) : (s.reach r).shedding = s.shedding := rfl
@[simp] theorem State.bToV_reach (s : State) (r : Running) : (s.reach r).bToV = s.bToV := rfl
@[simp] theorem State.signals_reach (s : State) (r : Running) : (s.reach r).signals = s.signals := rfl
@[simp] theorem State.channels_reach (s : State) (r : Running) : (s.reach r).channels = s.channels := rfl
@[simp] theorem State.calculator_reach (s : State) (r : Running) : (s.reach r).calculator = s.calculator := rfl
@[simp] theorem State.sup_reach (s : State) (r : Running) : (s.reach r).sup = s.sup := rfl
@[simp] theorem State.creep_reach (s : State) (r : Running) : (s.reach r).creep = s.creep := rfl
@[simp] theorem State.merger_reach (s : State) (r : Running) : (s.reach r).merger = s.merger := rfl
@[simp] theorem State.park_reach (s : State) (r : Running) : (s.reach r).park = s.park := rfl
@[simp] theorem State.path_reach (s : State) (r : Running) : (s.reach r).path = s.path := rfl
@[simp] theorem State.resp_reach (s : State) (r : Running) : (s.reach r).resp = s.resp := rfl
@[simp] theorem State.store_reach (s : State) (r : Running) : (s.reach r).store = s.store := rfl
@[simp] theorem State.work_reach (s : State) (r : Running) : (s.reach r).work = s.work := rfl
@[simp] theorem State.counters_reach (s : State) (r : Running) : (s.reach r).counters = s.counters := rfl
@[simp] theorem State.now_reach (s : State) (r : Running) :
    (s.reach r).now = max s.now r.due := rfl

/-! ### Ports -/

@[simp] theorem State.pending_setPort (s : State) (p : Port) (c : PortCtl) : (s.setPort p c).pending = s.pending := by cases p <;> rfl
@[simp] theorem State.choices_setPort (s : State) (p : Port) (c : PortCtl) : (s.setPort p c).choices = s.choices := by cases p <;> rfl
@[simp] theorem State.powered_setPort (s : State) (p : Port) (c : PortCtl) : (s.setPort p c).powered = s.powered := by cases p <;> rfl
@[simp] theorem State.asleep_setPort (s : State) (p : Port) (c : PortCtl) : (s.setPort p c).asleep = s.asleep := by cases p <;> rfl
@[simp] theorem State.key_setPort (s : State) (p : Port) (c : PortCtl) : (s.setPort p c).key = s.key := by cases p <;> rfl
@[simp] theorem State.now_setPort (s : State) (p : Port) (c : PortCtl) : (s.setPort p c).now = s.now := by cases p <;> rfl
@[simp] theorem State.start_setPort (s : State) (p : Port) (c : PortCtl) : (s.setPort p c).start = s.start := by cases p <;> rfl
@[simp] theorem State.sleepTimer_setPort (s : State) (p : Port) (c : PortCtl) : (s.setPort p c).sleepTimer = s.sleepTimer := by cases p <;> rfl
@[simp] theorem State.route_setPort (s : State) (p : Port) (c : PortCtl) : (s.setPort p c).route = s.route := by cases p <;> rfl
@[simp] theorem State.vToB_setPort (s : State) (p : Port) (c : PortCtl) : (s.setPort p c).vToB = s.vToB := by cases p <;> rfl
@[simp] theorem State.shedding_setPort (s : State) (p : Port) (c : PortCtl) : (s.setPort p c).shedding = s.shedding := by cases p <;> rfl
@[simp] theorem State.bToV_setPort (s : State) (p : Port) (c : PortCtl) : (s.setPort p c).bToV = s.bToV := by cases p <;> rfl
@[simp] theorem State.signals_setPort (s : State) (p : Port) (c : PortCtl) : (s.setPort p c).signals = s.signals := by cases p <;> rfl
@[simp] theorem State.channels_setPort (s : State) (p : Port) (c : PortCtl) : (s.setPort p c).channels = s.channels := by cases p <;> rfl
@[simp] theorem State.calculator_setPort (s : State) (p : Port) (c : PortCtl) : (s.setPort p c).calculator = s.calculator := by cases p <;> rfl
@[simp] theorem State.sup_setPort (s : State) (p : Port) (c : PortCtl) : (s.setPort p c).sup = s.sup := by cases p <;> rfl
@[simp] theorem State.creep_setPort (s : State) (p : Port) (c : PortCtl) : (s.setPort p c).creep = s.creep := by cases p <;> rfl
@[simp] theorem State.merger_setPort (s : State) (p : Port) (c : PortCtl) : (s.setPort p c).merger = s.merger := by cases p <;> rfl
@[simp] theorem State.park_setPort (s : State) (p : Port) (c : PortCtl) : (s.setPort p c).park = s.park := by cases p <;> rfl
@[simp] theorem State.path_setPort (s : State) (p : Port) (c : PortCtl) : (s.setPort p c).path = s.path := by cases p <;> rfl
@[simp] theorem State.resp_setPort (s : State) (p : Port) (c : PortCtl) : (s.setPort p c).resp = s.resp := by cases p <;> rfl
@[simp] theorem State.store_setPort (s : State) (p : Port) (c : PortCtl) : (s.setPort p c).store = s.store := by cases p <;> rfl
@[simp] theorem State.work_setPort (s : State) (p : Port) (c : PortCtl) : (s.setPort p c).work = s.work := by cases p <;> rfl
@[simp] theorem State.counters_setPort (s : State) (p : Port) (c : PortCtl) : (s.setPort p c).counters = s.counters := by cases p <;> rfl

/-! ### Channel records -/

@[simp] theorem State.pending_setChannel (s : State) (c : Chan) (r : ChannelRecord) : (s.setChannel c r).pending = s.pending := rfl
@[simp] theorem State.choices_setChannel (s : State) (c : Chan) (r : ChannelRecord) : (s.setChannel c r).choices = s.choices := rfl
@[simp] theorem State.powered_setChannel (s : State) (c : Chan) (r : ChannelRecord) : (s.setChannel c r).powered = s.powered := rfl
@[simp] theorem State.asleep_setChannel (s : State) (c : Chan) (r : ChannelRecord) : (s.setChannel c r).asleep = s.asleep := rfl
@[simp] theorem State.key_setChannel (s : State) (c : Chan) (r : ChannelRecord) : (s.setChannel c r).key = s.key := rfl
@[simp] theorem State.now_setChannel (s : State) (c : Chan) (r : ChannelRecord) : (s.setChannel c r).now = s.now := rfl
@[simp] theorem State.start_setChannel (s : State) (c : Chan) (r : ChannelRecord) : (s.setChannel c r).start = s.start := rfl
@[simp] theorem State.sleepTimer_setChannel (s : State) (c : Chan) (r : ChannelRecord) : (s.setChannel c r).sleepTimer = s.sleepTimer := rfl
@[simp] theorem State.portV_setChannel (s : State) (c : Chan) (r : ChannelRecord) : (s.setChannel c r).portV = s.portV := rfl
@[simp] theorem State.portB_setChannel (s : State) (c : Chan) (r : ChannelRecord) : (s.setChannel c r).portB = s.portB := rfl
@[simp] theorem State.route_setChannel (s : State) (c : Chan) (r : ChannelRecord) : (s.setChannel c r).route = s.route := rfl
@[simp] theorem State.vToB_setChannel (s : State) (c : Chan) (r : ChannelRecord) : (s.setChannel c r).vToB = s.vToB := rfl
@[simp] theorem State.shedding_setChannel (s : State) (c : Chan) (r : ChannelRecord) : (s.setChannel c r).shedding = s.shedding := rfl
@[simp] theorem State.bToV_setChannel (s : State) (c : Chan) (r : ChannelRecord) : (s.setChannel c r).bToV = s.bToV := rfl
@[simp] theorem State.signals_setChannel (s : State) (c : Chan) (r : ChannelRecord) : (s.setChannel c r).signals = s.signals := rfl
@[simp] theorem State.calculator_setChannel (s : State) (c : Chan) (r : ChannelRecord) : (s.setChannel c r).calculator = s.calculator := rfl
@[simp] theorem State.sup_setChannel (s : State) (c : Chan) (r : ChannelRecord) : (s.setChannel c r).sup = s.sup := rfl
@[simp] theorem State.creep_setChannel (s : State) (c : Chan) (r : ChannelRecord) : (s.setChannel c r).creep = s.creep := rfl
@[simp] theorem State.merger_setChannel (s : State) (c : Chan) (r : ChannelRecord) : (s.setChannel c r).merger = s.merger := rfl
@[simp] theorem State.park_setChannel (s : State) (c : Chan) (r : ChannelRecord) : (s.setChannel c r).park = s.park := rfl
@[simp] theorem State.path_setChannel (s : State) (c : Chan) (r : ChannelRecord) : (s.setChannel c r).path = s.path := rfl
@[simp] theorem State.resp_setChannel (s : State) (c : Chan) (r : ChannelRecord) : (s.setChannel c r).resp = s.resp := rfl
@[simp] theorem State.store_setChannel (s : State) (c : Chan) (r : ChannelRecord) : (s.setChannel c r).store = s.store := rfl
@[simp] theorem State.work_setChannel (s : State) (c : Chan) (r : ChannelRecord) : (s.setChannel c r).work = s.work := rfl
@[simp] theorem State.counters_setChannel (s : State) (c : Chan) (r : ChannelRecord) : (s.setChannel c r).counters = s.counters := rfl
@[simp] theorem State.channels_setChannel (s : State) (c : Chan) (r : ChannelRecord) :
    (s.setChannel c r).channels = { s.channels with records := s.channels.records.set c r } := rfl

/-! ### Sample records -/

@[simp] theorem State.pending_setRecord (s : State) (k : Fin 20) (r : SampleRecord) : (s.setRecord k r).pending = s.pending := rfl
@[simp] theorem State.choices_setRecord (s : State) (k : Fin 20) (r : SampleRecord) : (s.setRecord k r).choices = s.choices := rfl
@[simp] theorem State.powered_setRecord (s : State) (k : Fin 20) (r : SampleRecord) : (s.setRecord k r).powered = s.powered := rfl
@[simp] theorem State.asleep_setRecord (s : State) (k : Fin 20) (r : SampleRecord) : (s.setRecord k r).asleep = s.asleep := rfl
@[simp] theorem State.key_setRecord (s : State) (k : Fin 20) (r : SampleRecord) : (s.setRecord k r).key = s.key := rfl
@[simp] theorem State.now_setRecord (s : State) (k : Fin 20) (r : SampleRecord) : (s.setRecord k r).now = s.now := rfl
@[simp] theorem State.start_setRecord (s : State) (k : Fin 20) (r : SampleRecord) : (s.setRecord k r).start = s.start := rfl
@[simp] theorem State.sleepTimer_setRecord (s : State) (k : Fin 20) (r : SampleRecord) : (s.setRecord k r).sleepTimer = s.sleepTimer := rfl
@[simp] theorem State.portV_setRecord (s : State) (k : Fin 20) (r : SampleRecord) : (s.setRecord k r).portV = s.portV := rfl
@[simp] theorem State.portB_setRecord (s : State) (k : Fin 20) (r : SampleRecord) : (s.setRecord k r).portB = s.portB := rfl
@[simp] theorem State.route_setRecord (s : State) (k : Fin 20) (r : SampleRecord) : (s.setRecord k r).route = s.route := rfl
@[simp] theorem State.vToB_setRecord (s : State) (k : Fin 20) (r : SampleRecord) : (s.setRecord k r).vToB = s.vToB := rfl
@[simp] theorem State.shedding_setRecord (s : State) (k : Fin 20) (r : SampleRecord) : (s.setRecord k r).shedding = s.shedding := rfl
@[simp] theorem State.bToV_setRecord (s : State) (k : Fin 20) (r : SampleRecord) : (s.setRecord k r).bToV = s.bToV := rfl
@[simp] theorem State.channels_setRecord (s : State) (k : Fin 20) (r : SampleRecord) : (s.setRecord k r).channels = s.channels := rfl
@[simp] theorem State.calculator_setRecord (s : State) (k : Fin 20) (r : SampleRecord) : (s.setRecord k r).calculator = s.calculator := rfl
@[simp] theorem State.sup_setRecord (s : State) (k : Fin 20) (r : SampleRecord) : (s.setRecord k r).sup = s.sup := rfl
@[simp] theorem State.creep_setRecord (s : State) (k : Fin 20) (r : SampleRecord) : (s.setRecord k r).creep = s.creep := rfl
@[simp] theorem State.merger_setRecord (s : State) (k : Fin 20) (r : SampleRecord) : (s.setRecord k r).merger = s.merger := rfl
@[simp] theorem State.park_setRecord (s : State) (k : Fin 20) (r : SampleRecord) : (s.setRecord k r).park = s.park := rfl
@[simp] theorem State.path_setRecord (s : State) (k : Fin 20) (r : SampleRecord) : (s.setRecord k r).path = s.path := rfl
@[simp] theorem State.resp_setRecord (s : State) (k : Fin 20) (r : SampleRecord) : (s.setRecord k r).resp = s.resp := rfl
@[simp] theorem State.store_setRecord (s : State) (k : Fin 20) (r : SampleRecord) : (s.setRecord k r).store = s.store := rfl
@[simp] theorem State.work_setRecord (s : State) (k : Fin 20) (r : SampleRecord) : (s.setRecord k r).work = s.work := rfl
@[simp] theorem State.counters_setRecord (s : State) (k : Fin 20) (r : SampleRecord) : (s.setRecord k r).counters = s.counters := rfl
@[simp] theorem State.signals_setRecord (s : State) (k : Fin 20) (r : SampleRecord) :
    (s.setRecord k r).signals = { s.signals with records := s.signals.records.set k r } := rfl

/-! ### Tracking records -/

@[simp] theorem State.pending_setTrack (s : State) (w : Wheel) (t : Track) : (s.setTrack w t).pending = s.pending := rfl
@[simp] theorem State.choices_setTrack (s : State) (w : Wheel) (t : Track) : (s.setTrack w t).choices = s.choices := rfl
@[simp] theorem State.powered_setTrack (s : State) (w : Wheel) (t : Track) : (s.setTrack w t).powered = s.powered := rfl
@[simp] theorem State.asleep_setTrack (s : State) (w : Wheel) (t : Track) : (s.setTrack w t).asleep = s.asleep := rfl
@[simp] theorem State.key_setTrack (s : State) (w : Wheel) (t : Track) : (s.setTrack w t).key = s.key := rfl
@[simp] theorem State.now_setTrack (s : State) (w : Wheel) (t : Track) : (s.setTrack w t).now = s.now := rfl
@[simp] theorem State.start_setTrack (s : State) (w : Wheel) (t : Track) : (s.setTrack w t).start = s.start := rfl
@[simp] theorem State.sleepTimer_setTrack (s : State) (w : Wheel) (t : Track) : (s.setTrack w t).sleepTimer = s.sleepTimer := rfl
@[simp] theorem State.portV_setTrack (s : State) (w : Wheel) (t : Track) : (s.setTrack w t).portV = s.portV := rfl
@[simp] theorem State.portB_setTrack (s : State) (w : Wheel) (t : Track) : (s.setTrack w t).portB = s.portB := rfl
@[simp] theorem State.route_setTrack (s : State) (w : Wheel) (t : Track) : (s.setTrack w t).route = s.route := rfl
@[simp] theorem State.vToB_setTrack (s : State) (w : Wheel) (t : Track) : (s.setTrack w t).vToB = s.vToB := rfl
@[simp] theorem State.shedding_setTrack (s : State) (w : Wheel) (t : Track) : (s.setTrack w t).shedding = s.shedding := rfl
@[simp] theorem State.bToV_setTrack (s : State) (w : Wheel) (t : Track) : (s.setTrack w t).bToV = s.bToV := rfl
@[simp] theorem State.signals_setTrack (s : State) (w : Wheel) (t : Track) : (s.setTrack w t).signals = s.signals := rfl
@[simp] theorem State.channels_setTrack (s : State) (w : Wheel) (t : Track) : (s.setTrack w t).channels = s.channels := rfl
@[simp] theorem State.calculator_setTrack (s : State) (w : Wheel) (t : Track) : (s.setTrack w t).calculator = s.calculator := rfl
@[simp] theorem State.sup_setTrack (s : State) (w : Wheel) (t : Track) : (s.setTrack w t).sup = s.sup := rfl
@[simp] theorem State.merger_setTrack (s : State) (w : Wheel) (t : Track) : (s.setTrack w t).merger = s.merger := rfl
@[simp] theorem State.park_setTrack (s : State) (w : Wheel) (t : Track) : (s.setTrack w t).park = s.park := rfl
@[simp] theorem State.path_setTrack (s : State) (w : Wheel) (t : Track) : (s.setTrack w t).path = s.path := rfl
@[simp] theorem State.resp_setTrack (s : State) (w : Wheel) (t : Track) : (s.setTrack w t).resp = s.resp := rfl
@[simp] theorem State.store_setTrack (s : State) (w : Wheel) (t : Track) : (s.setTrack w t).store = s.store := rfl
@[simp] theorem State.work_setTrack (s : State) (w : Wheel) (t : Track) : (s.setTrack w t).work = s.work := rfl
@[simp] theorem State.counters_setTrack (s : State) (w : Wheel) (t : Track) : (s.setTrack w t).counters = s.counters := rfl
@[simp] theorem State.creep_setTrack (s : State) (w : Wheel) (t : Track) :
    (s.setTrack w t).creep = { s.creep with wheels := s.creep.wheels.set w t } := rfl

/-! ### The driver demand record -/

@[simp] theorem State.pending_setDriver (s : State) (d : DriverDemand) : (s.setDriver d).pending = s.pending := rfl
@[simp] theorem State.choices_setDriver (s : State) (d : DriverDemand) : (s.setDriver d).choices = s.choices := rfl
@[simp] theorem State.powered_setDriver (s : State) (d : DriverDemand) : (s.setDriver d).powered = s.powered := rfl
@[simp] theorem State.asleep_setDriver (s : State) (d : DriverDemand) : (s.setDriver d).asleep = s.asleep := rfl
@[simp] theorem State.key_setDriver (s : State) (d : DriverDemand) : (s.setDriver d).key = s.key := rfl
@[simp] theorem State.now_setDriver (s : State) (d : DriverDemand) : (s.setDriver d).now = s.now := rfl
@[simp] theorem State.start_setDriver (s : State) (d : DriverDemand) : (s.setDriver d).start = s.start := rfl
@[simp] theorem State.sleepTimer_setDriver (s : State) (d : DriverDemand) : (s.setDriver d).sleepTimer = s.sleepTimer := rfl
@[simp] theorem State.portV_setDriver (s : State) (d : DriverDemand) : (s.setDriver d).portV = s.portV := rfl
@[simp] theorem State.portB_setDriver (s : State) (d : DriverDemand) : (s.setDriver d).portB = s.portB := rfl
@[simp] theorem State.route_setDriver (s : State) (d : DriverDemand) : (s.setDriver d).route = s.route := rfl
@[simp] theorem State.vToB_setDriver (s : State) (d : DriverDemand) : (s.setDriver d).vToB = s.vToB := rfl
@[simp] theorem State.shedding_setDriver (s : State) (d : DriverDemand) : (s.setDriver d).shedding = s.shedding := rfl
@[simp] theorem State.bToV_setDriver (s : State) (d : DriverDemand) : (s.setDriver d).bToV = s.bToV := rfl
@[simp] theorem State.signals_setDriver (s : State) (d : DriverDemand) : (s.setDriver d).signals = s.signals := rfl
@[simp] theorem State.channels_setDriver (s : State) (d : DriverDemand) : (s.setDriver d).channels = s.channels := rfl
@[simp] theorem State.calculator_setDriver (s : State) (d : DriverDemand) : (s.setDriver d).calculator = s.calculator := rfl
@[simp] theorem State.sup_setDriver (s : State) (d : DriverDemand) : (s.setDriver d).sup = s.sup := rfl
@[simp] theorem State.creep_setDriver (s : State) (d : DriverDemand) : (s.setDriver d).creep = s.creep := rfl
@[simp] theorem State.park_setDriver (s : State) (d : DriverDemand) : (s.setDriver d).park = s.park := rfl
@[simp] theorem State.path_setDriver (s : State) (d : DriverDemand) : (s.setDriver d).path = s.path := rfl
@[simp] theorem State.resp_setDriver (s : State) (d : DriverDemand) : (s.setDriver d).resp = s.resp := rfl
@[simp] theorem State.store_setDriver (s : State) (d : DriverDemand) : (s.setDriver d).store = s.store := rfl
@[simp] theorem State.work_setDriver (s : State) (d : DriverDemand) : (s.setDriver d).work = s.work := rfl
@[simp] theorem State.counters_setDriver (s : State) (d : DriverDemand) : (s.setDriver d).counters = s.counters := rfl
@[simp] theorem State.merger_setDriver (s : State) (d : DriverDemand) :
    (s.setDriver d).merger = { s.merger with driver := d } := rfl

/-! ### The working copies -/

@[simp] theorem State.pending_setWork (s : State) (w : Working) : (s.setWork w).pending = s.pending := rfl
@[simp] theorem State.choices_setWork (s : State) (w : Working) : (s.setWork w).choices = s.choices := rfl
@[simp] theorem State.powered_setWork (s : State) (w : Working) : (s.setWork w).powered = s.powered := rfl
@[simp] theorem State.asleep_setWork (s : State) (w : Working) : (s.setWork w).asleep = s.asleep := rfl
@[simp] theorem State.key_setWork (s : State) (w : Working) : (s.setWork w).key = s.key := rfl
@[simp] theorem State.now_setWork (s : State) (w : Working) : (s.setWork w).now = s.now := rfl
@[simp] theorem State.start_setWork (s : State) (w : Working) : (s.setWork w).start = s.start := rfl
@[simp] theorem State.sleepTimer_setWork (s : State) (w : Working) : (s.setWork w).sleepTimer = s.sleepTimer := rfl
@[simp] theorem State.portV_setWork (s : State) (w : Working) : (s.setWork w).portV = s.portV := rfl
@[simp] theorem State.portB_setWork (s : State) (w : Working) : (s.setWork w).portB = s.portB := rfl
@[simp] theorem State.route_setWork (s : State) (w : Working) : (s.setWork w).route = s.route := rfl
@[simp] theorem State.vToB_setWork (s : State) (w : Working) : (s.setWork w).vToB = s.vToB := rfl
@[simp] theorem State.shedding_setWork (s : State) (w : Working) : (s.setWork w).shedding = s.shedding := rfl
@[simp] theorem State.bToV_setWork (s : State) (w : Working) : (s.setWork w).bToV = s.bToV := rfl
@[simp] theorem State.signals_setWork (s : State) (w : Working) : (s.setWork w).signals = s.signals := rfl
@[simp] theorem State.channels_setWork (s : State) (w : Working) : (s.setWork w).channels = s.channels := rfl
@[simp] theorem State.calculator_setWork (s : State) (w : Working) : (s.setWork w).calculator = s.calculator := rfl
@[simp] theorem State.sup_setWork (s : State) (w : Working) : (s.setWork w).sup = s.sup := rfl
@[simp] theorem State.creep_setWork (s : State) (w : Working) : (s.setWork w).creep = s.creep := rfl
@[simp] theorem State.merger_setWork (s : State) (w : Working) : (s.setWork w).merger = s.merger := rfl
@[simp] theorem State.park_setWork (s : State) (w : Working) : (s.setWork w).park = s.park := rfl
@[simp] theorem State.path_setWork (s : State) (w : Working) : (s.setWork w).path = s.path := rfl
@[simp] theorem State.resp_setWork (s : State) (w : Working) : (s.setWork w).resp = s.resp := rfl
@[simp] theorem State.store_setWork (s : State) (w : Working) : (s.setWork w).store = s.store := rfl
@[simp] theorem State.counters_setWork (s : State) (w : Working) : (s.setWork w).counters = s.counters := rfl
@[simp] theorem State.work_setWork (s : State) (w : Working) :
    (s.setWork w).work = w := rfl

/-! ### Payload used -/

@[simp] theorem State.pending_setPayload (s : State) (p : Nat) : (s.setPayload p).pending = s.pending := rfl
@[simp] theorem State.choices_setPayload (s : State) (p : Nat) : (s.setPayload p).choices = s.choices := rfl
@[simp] theorem State.powered_setPayload (s : State) (p : Nat) : (s.setPayload p).powered = s.powered := rfl
@[simp] theorem State.asleep_setPayload (s : State) (p : Nat) : (s.setPayload p).asleep = s.asleep := rfl
@[simp] theorem State.key_setPayload (s : State) (p : Nat) : (s.setPayload p).key = s.key := rfl
@[simp] theorem State.now_setPayload (s : State) (p : Nat) : (s.setPayload p).now = s.now := rfl
@[simp] theorem State.start_setPayload (s : State) (p : Nat) : (s.setPayload p).start = s.start := rfl
@[simp] theorem State.sleepTimer_setPayload (s : State) (p : Nat) : (s.setPayload p).sleepTimer = s.sleepTimer := rfl
@[simp] theorem State.portV_setPayload (s : State) (p : Nat) : (s.setPayload p).portV = s.portV := rfl
@[simp] theorem State.portB_setPayload (s : State) (p : Nat) : (s.setPayload p).portB = s.portB := rfl
@[simp] theorem State.route_setPayload (s : State) (p : Nat) : (s.setPayload p).route = s.route := rfl
@[simp] theorem State.vToB_setPayload (s : State) (p : Nat) : (s.setPayload p).vToB = s.vToB := rfl
@[simp] theorem State.shedding_setPayload (s : State) (p : Nat) : (s.setPayload p).shedding = s.shedding := rfl
@[simp] theorem State.bToV_setPayload (s : State) (p : Nat) : (s.setPayload p).bToV = s.bToV := rfl
@[simp] theorem State.signals_setPayload (s : State) (p : Nat) : (s.setPayload p).signals = s.signals := rfl
@[simp] theorem State.channels_setPayload (s : State) (p : Nat) : (s.setPayload p).channels = s.channels := rfl
@[simp] theorem State.sup_setPayload (s : State) (p : Nat) : (s.setPayload p).sup = s.sup := rfl
@[simp] theorem State.creep_setPayload (s : State) (p : Nat) : (s.setPayload p).creep = s.creep := rfl
@[simp] theorem State.merger_setPayload (s : State) (p : Nat) : (s.setPayload p).merger = s.merger := rfl
@[simp] theorem State.park_setPayload (s : State) (p : Nat) : (s.setPayload p).park = s.park := rfl
@[simp] theorem State.path_setPayload (s : State) (p : Nat) : (s.setPayload p).path = s.path := rfl
@[simp] theorem State.resp_setPayload (s : State) (p : Nat) : (s.setPayload p).resp = s.resp := rfl
@[simp] theorem State.store_setPayload (s : State) (p : Nat) : (s.setPayload p).store = s.store := rfl
@[simp] theorem State.work_setPayload (s : State) (p : Nat) : (s.setPayload p).work = s.work := rfl
@[simp] theorem State.counters_setPayload (s : State) (p : Nat) : (s.setPayload p).counters = s.counters := rfl
@[simp] theorem State.calculator_setPayload (s : State) (p : Nat) :
    (s.setPayload p).calculator = { s.calculator with payloadUsed := p } := rfl

/-! ### The hold context -/

@[simp] theorem State.pending_mapContext (s : State) (f : Context → Context) : (s.mapContext f).pending = s.pending := rfl
@[simp] theorem State.choices_mapContext (s : State) (f : Context → Context) : (s.mapContext f).choices = s.choices := rfl
@[simp] theorem State.powered_mapContext (s : State) (f : Context → Context) : (s.mapContext f).powered = s.powered := rfl
@[simp] theorem State.asleep_mapContext (s : State) (f : Context → Context) : (s.mapContext f).asleep = s.asleep := rfl
@[simp] theorem State.key_mapContext (s : State) (f : Context → Context) : (s.mapContext f).key = s.key := rfl
@[simp] theorem State.now_mapContext (s : State) (f : Context → Context) : (s.mapContext f).now = s.now := rfl
@[simp] theorem State.start_mapContext (s : State) (f : Context → Context) : (s.mapContext f).start = s.start := rfl
@[simp] theorem State.sleepTimer_mapContext (s : State) (f : Context → Context) : (s.mapContext f).sleepTimer = s.sleepTimer := rfl
@[simp] theorem State.portV_mapContext (s : State) (f : Context → Context) : (s.mapContext f).portV = s.portV := rfl
@[simp] theorem State.portB_mapContext (s : State) (f : Context → Context) : (s.mapContext f).portB = s.portB := rfl
@[simp] theorem State.route_mapContext (s : State) (f : Context → Context) : (s.mapContext f).route = s.route := rfl
@[simp] theorem State.vToB_mapContext (s : State) (f : Context → Context) : (s.mapContext f).vToB = s.vToB := rfl
@[simp] theorem State.shedding_mapContext (s : State) (f : Context → Context) : (s.mapContext f).shedding = s.shedding := rfl
@[simp] theorem State.bToV_mapContext (s : State) (f : Context → Context) : (s.mapContext f).bToV = s.bToV := rfl
@[simp] theorem State.signals_mapContext (s : State) (f : Context → Context) : (s.mapContext f).signals = s.signals := rfl
@[simp] theorem State.channels_mapContext (s : State) (f : Context → Context) : (s.mapContext f).channels = s.channels := rfl
@[simp] theorem State.calculator_mapContext (s : State) (f : Context → Context) : (s.mapContext f).calculator = s.calculator := rfl
@[simp] theorem State.creep_mapContext (s : State) (f : Context → Context) : (s.mapContext f).creep = s.creep := rfl
@[simp] theorem State.merger_mapContext (s : State) (f : Context → Context) : (s.mapContext f).merger = s.merger := rfl
@[simp] theorem State.park_mapContext (s : State) (f : Context → Context) : (s.mapContext f).park = s.park := rfl
@[simp] theorem State.path_mapContext (s : State) (f : Context → Context) : (s.mapContext f).path = s.path := rfl
@[simp] theorem State.resp_mapContext (s : State) (f : Context → Context) : (s.mapContext f).resp = s.resp := rfl
@[simp] theorem State.store_mapContext (s : State) (f : Context → Context) : (s.mapContext f).store = s.store := rfl
@[simp] theorem State.work_mapContext (s : State) (f : Context → Context) : (s.mapContext f).work = s.work := rfl
@[simp] theorem State.counters_mapContext (s : State) (f : Context → Context) : (s.mapContext f).counters = s.counters := rfl
@[simp] theorem State.sup_mapContext (s : State) (f : Context → Context) :
    (s.mapContext f).sup = { s.sup with ctx := s.sup.ctx.map f } := rfl

/-! ### The hold result record -/

@[simp] theorem State.pending_evaluateCore (s : State) : s.evaluateCore.pending = s.pending := rfl
@[simp] theorem State.choices_evaluateCore (s : State) : s.evaluateCore.choices = s.choices := rfl
@[simp] theorem State.powered_evaluateCore (s : State) : s.evaluateCore.powered = s.powered := rfl
@[simp] theorem State.asleep_evaluateCore (s : State) : s.evaluateCore.asleep = s.asleep := rfl
@[simp] theorem State.key_evaluateCore (s : State) : s.evaluateCore.key = s.key := rfl
@[simp] theorem State.now_evaluateCore (s : State) : s.evaluateCore.now = s.now := rfl
@[simp] theorem State.start_evaluateCore (s : State) : s.evaluateCore.start = s.start := rfl
@[simp] theorem State.sleepTimer_evaluateCore (s : State) : s.evaluateCore.sleepTimer = s.sleepTimer := rfl
@[simp] theorem State.portV_evaluateCore (s : State) : s.evaluateCore.portV = s.portV := rfl
@[simp] theorem State.portB_evaluateCore (s : State) : s.evaluateCore.portB = s.portB := rfl
@[simp] theorem State.route_evaluateCore (s : State) : s.evaluateCore.route = s.route := rfl
@[simp] theorem State.vToB_evaluateCore (s : State) : s.evaluateCore.vToB = s.vToB := rfl
@[simp] theorem State.shedding_evaluateCore (s : State) : s.evaluateCore.shedding = s.shedding := rfl
@[simp] theorem State.bToV_evaluateCore (s : State) : s.evaluateCore.bToV = s.bToV := rfl
@[simp] theorem State.signals_evaluateCore (s : State) : s.evaluateCore.signals = s.signals := rfl
@[simp] theorem State.channels_evaluateCore (s : State) : s.evaluateCore.channels = s.channels := rfl
@[simp] theorem State.sup_evaluateCore (s : State) : s.evaluateCore.sup = s.sup := rfl
@[simp] theorem State.creep_evaluateCore (s : State) : s.evaluateCore.creep = s.creep := rfl
@[simp] theorem State.merger_evaluateCore (s : State) : s.evaluateCore.merger = s.merger := rfl
@[simp] theorem State.park_evaluateCore (s : State) : s.evaluateCore.park = s.park := rfl
@[simp] theorem State.path_evaluateCore (s : State) : s.evaluateCore.path = s.path := rfl
@[simp] theorem State.resp_evaluateCore (s : State) : s.evaluateCore.resp = s.resp := rfl
@[simp] theorem State.store_evaluateCore (s : State) : s.evaluateCore.store = s.store := rfl
@[simp] theorem State.work_evaluateCore (s : State) : s.evaluateCore.work = s.work := rfl
@[simp] theorem State.counters_evaluateCore (s : State) : s.evaluateCore.counters = s.counters := rfl
@[simp] theorem State.calculator_evaluateCore (s : State) :
    s.evaluateCore.calculator = { s.calculator with record := s.evaluation } := rfl

/-! ### The derived values of the channel block -/

@[simp] theorem State.pending_rework (s : State) : s.rework.pending = s.pending := rfl
@[simp] theorem State.choices_rework (s : State) : s.rework.choices = s.choices := rfl
@[simp] theorem State.powered_rework (s : State) : s.rework.powered = s.powered := rfl
@[simp] theorem State.asleep_rework (s : State) : s.rework.asleep = s.asleep := rfl
@[simp] theorem State.key_rework (s : State) : s.rework.key = s.key := rfl
@[simp] theorem State.now_rework (s : State) : s.rework.now = s.now := rfl
@[simp] theorem State.start_rework (s : State) : s.rework.start = s.start := rfl
@[simp] theorem State.sleepTimer_rework (s : State) : s.rework.sleepTimer = s.sleepTimer := rfl
@[simp] theorem State.portV_rework (s : State) : s.rework.portV = s.portV := rfl
@[simp] theorem State.portB_rework (s : State) : s.rework.portB = s.portB := rfl
@[simp] theorem State.route_rework (s : State) : s.rework.route = s.route := rfl
@[simp] theorem State.vToB_rework (s : State) : s.rework.vToB = s.vToB := rfl
@[simp] theorem State.shedding_rework (s : State) : s.rework.shedding = s.shedding := rfl
@[simp] theorem State.bToV_rework (s : State) : s.rework.bToV = s.bToV := rfl
@[simp] theorem State.signals_rework (s : State) : s.rework.signals = s.signals := rfl
@[simp] theorem State.calculator_rework (s : State) : s.rework.calculator = s.calculator := rfl
@[simp] theorem State.sup_rework (s : State) : s.rework.sup = s.sup := rfl
@[simp] theorem State.creep_rework (s : State) : s.rework.creep = s.creep := rfl
@[simp] theorem State.merger_rework (s : State) : s.rework.merger = s.merger := rfl
@[simp] theorem State.park_rework (s : State) : s.rework.park = s.park := rfl
@[simp] theorem State.path_rework (s : State) : s.rework.path = s.path := rfl
@[simp] theorem State.resp_rework (s : State) : s.rework.resp = s.resp := rfl
@[simp] theorem State.store_rework (s : State) : s.rework.store = s.store := rfl
@[simp] theorem State.work_rework (s : State) : s.rework.work = s.work := rfl
@[simp] theorem State.counters_rework (s : State) : s.rework.counters = s.counters := rfl
@[simp] theorem State.channels_rework (s : State) :
    s.rework.channels = { s.channels with derived := s.deriveChannels } := rfl

/-! ### The hold mode -/

@[simp] theorem State.pending_setMode (s : State) (m : HoldMode) : (s.setMode m).pending = s.pending := by cases m <;> rfl
@[simp] theorem State.choices_setMode (s : State) (m : HoldMode) : (s.setMode m).choices = s.choices := by cases m <;> rfl
@[simp] theorem State.powered_setMode (s : State) (m : HoldMode) : (s.setMode m).powered = s.powered := by cases m <;> rfl
@[simp] theorem State.asleep_setMode (s : State) (m : HoldMode) : (s.setMode m).asleep = s.asleep := by cases m <;> rfl
@[simp] theorem State.key_setMode (s : State) (m : HoldMode) : (s.setMode m).key = s.key := by cases m <;> rfl
@[simp] theorem State.now_setMode (s : State) (m : HoldMode) : (s.setMode m).now = s.now := by cases m <;> rfl
@[simp] theorem State.start_setMode (s : State) (m : HoldMode) : (s.setMode m).start = s.start := by cases m <;> rfl
@[simp] theorem State.sleepTimer_setMode (s : State) (m : HoldMode) : (s.setMode m).sleepTimer = s.sleepTimer := by cases m <;> rfl
@[simp] theorem State.portV_setMode (s : State) (m : HoldMode) : (s.setMode m).portV = s.portV := by cases m <;> rfl
@[simp] theorem State.portB_setMode (s : State) (m : HoldMode) : (s.setMode m).portB = s.portB := by cases m <;> rfl
@[simp] theorem State.route_setMode (s : State) (m : HoldMode) : (s.setMode m).route = s.route := by cases m <;> rfl
@[simp] theorem State.vToB_setMode (s : State) (m : HoldMode) : (s.setMode m).vToB = s.vToB := by cases m <;> rfl
@[simp] theorem State.shedding_setMode (s : State) (m : HoldMode) : (s.setMode m).shedding = s.shedding := by cases m <;> rfl
@[simp] theorem State.bToV_setMode (s : State) (m : HoldMode) : (s.setMode m).bToV = s.bToV := by cases m <;> rfl
@[simp] theorem State.signals_setMode (s : State) (m : HoldMode) : (s.setMode m).signals = s.signals := by cases m <;> rfl
@[simp] theorem State.channels_setMode (s : State) (m : HoldMode) : (s.setMode m).channels = s.channels := by cases m <;> rfl
@[simp] theorem State.calculator_setMode (s : State) (m : HoldMode) : (s.setMode m).calculator = s.calculator := by cases m <;> rfl
@[simp] theorem State.sup_setMode (s : State) (m : HoldMode) : (s.setMode m).sup = s.sup := by cases m <;> rfl
@[simp] theorem State.creep_setMode (s : State) (m : HoldMode) : (s.setMode m).creep = s.creep := by cases m <;> rfl
@[simp] theorem State.park_setMode (s : State) (m : HoldMode) : (s.setMode m).park = s.park := by cases m <;> rfl
@[simp] theorem State.path_setMode (s : State) (m : HoldMode) : (s.setMode m).path = s.path := by cases m <;> rfl
@[simp] theorem State.resp_setMode (s : State) (m : HoldMode) : (s.setMode m).resp = s.resp := by cases m <;> rfl
@[simp] theorem State.store_setMode (s : State) (m : HoldMode) : (s.setMode m).store = s.store := by cases m <;> rfl
@[simp] theorem State.work_setMode (s : State) (m : HoldMode) : (s.setMode m).work = s.work := by cases m <;> rfl
@[simp] theorem State.counters_setMode (s : State) (m : HoldMode) : (s.setMode m).counters = s.counters := by cases m <;> rfl

/-! ### Getting and setting -/

@[simp] theorem PerChan.get_set_self {α : Type} (p : PerChan α) (c : Chan) (x : α) : (p.set c x).get c = x := by
  cases c <;> rfl

theorem PerChan.get_set_of_ne {α : Type} (p : PerChan α) {c d : Chan} (x : α) (h : d ≠ c) :
    (p.set c x).get d = p.get d := by
  cases c <;> cases d <;> first | rfl | exact absurd rfl h

@[simp] theorem PerChan.get_build {α : Type} (f : Chan → α) (c : Chan) : (PerChan.build f).get c = f c := by
  cases c <;> rfl

@[simp] theorem PerWheel.get_set_self {α : Type} (p : PerWheel α) (w : Wheel) (x : α) : (p.set w x).get w = x := by
  cases w <;> rfl

theorem PerWheel.get_set_of_ne {α : Type} (p : PerWheel α) {w v : Wheel} (x : α) (h : v ≠ w) :
    (p.set w x).get v = p.get v := by
  cases w <;> cases v <;> first | rfl | exact absurd rfl h

@[simp] theorem PerWheel.get_build {α : Type} (f : Wheel → α) (w : Wheel) : (PerWheel.build f).get w = f w := by
  cases w <;> rfl

@[simp] theorem PerLevel.get_set_self {α : Type} (p : PerLevel α) (l : Level) (x : α) : (p.set l x).get l = x := by
  cases l <;> rfl

theorem PerLevel.get_set_of_ne {α : Type} (p : PerLevel α) {l k : Level} (x : α) (h : k ≠ l) :
    (p.set l x).get k = p.get k := by
  cases l <;> cases k <;> first | rfl | exact absurd rfl h

@[simp] theorem Counters.get_set_self (cs : Counters) (n : CounterName) (c : Counter) : (cs.set n c).get n = c := by
  cases n <;> rfl

theorem Counters.get_set_of_ne (cs : Counters) {n m : CounterName} (c : Counter) (h : m ≠ n) :
    (cs.set n c).get m = cs.get m := by
  cases n <;> cases m <;> first | rfl | exact absurd rfl h

@[simp] theorem State.port_setPort_self (s : State) (p : Port) (c : PortCtl) : (s.setPort p c).port p = c := by
  cases p <;> rfl

theorem State.port_setPort_of_ne (s : State) {p q : Port} (c : PortCtl) (h : q ≠ p) :
    (s.setPort p c).port q = s.port q := by
  cases p <;> cases q <;> first | rfl | exact absurd rfl h

@[simp] theorem Merger.slot_setSlot_self (m : Merger) (n : SlotName) (x : Slot) : (m.setSlot n x).slot n = x := by
  cases n <;> rfl

theorem Merger.slot_setSlot_other (m : Merger) (n : SlotName) (x : Slot) : (m.setSlot n x).slot n.other = m.slot n.other := by
  cases n <;> rfl

end Sys2Proof.Machine
end

