-- ==== Sys2Proof/Laws/Management.lean ====
section
/-! SUPPORT. What a management row comes to where the responder can serve it at once: the request judged, its reply
appended. -/

namespace Sys2Proof.Machine

/-- A value's four bytes give the value back (section 12.1). -/
theorem wordFrom_wordBytes (a b c d : Byte) (v : Word32) : wordFrom ([a, b, c, d] ++ wordBytes v) 4 = v := by
  show v.extractLsb' 24 8 ++ v.extractLsb' 16 8 ++ v.extractLsb' 8 8 ++ v.extractLsb' 0 8 = v
  ext i hi
  simp only [BitVec.getElem_append, BitVec.getElem_extractLsb']
  split
  · rw [BitVec.getLsbD_eq_getElem (by omega)]; congr 1; omega
  · split
    · rw [BitVec.getLsbD_eq_getElem (by omega)]; congr 1; omega
    · split
      · rw [BitVec.getLsbD_eq_getElem (by omega)]; congr 1; omega
      · rw [BitVec.getLsbD_eq_getElem (by omega)]; congr 1; omega

/-- The responder reads from a request frame the request it was made of (R157, section 12.1). -/
theorem frameRequest_requestFrame (id : CanId) (code group index field : Byte) (v : Word32) :
    frameRequest (requestFrame id code group index field v) = ⟨true, code, group, index, field, v⟩ := by
  simp only [frameRequest, requestFrame, wordFrom_wordBytes]
  rfl

/-- What a WRITE makes of an item: the item written, or the item found where the field holds the value (R157). -/
theorem takenOrHeld_eq_some {α : Type} (held : Option Word32) (v : Word32) (item new : α) (written : Option α) :
    takenOrHeld held v item written = some new ↔ written = some new ∨ written = none ∧ held = some v ∧ new = item := by
  cases written with
  | some w => simp [takenOrHeld]
  | none =>
    simp only [takenOrHeld, Option.none_or]
    split
    · simp [*, eq_comm]
    · simp [*]

/-- The values that a WRITE refuses with BAD-VALUE. -/
theorem takenOrHeld_eq_none {α : Type} (held : Option Word32) (v : Word32) (item : α) (written : Option α) :
    takenOrHeld held v item written = none ↔ written = none ∧ held ≠ some v := by
  cases written with
  | some w => simp [takenOrHeld]
  | none => simp [takenOrHeld]

/-- The state in which the responder judges a request that has just joined its empty queue (R156). -/
def State.asked (s : State) (code group index field : Byte) (v : Word32) : State :=
  { s with resp := { s.resp with
      requests := [Machine.requestFrame s.work.settings.requestId code group index field v] } }

/-- A management row, the responder able to serve it: the request is judged and its reply joins the tail (R155, R156). -/
theorem State.requestRow_serves (s : State) (h : s.Serves) (code group index field : Byte) (v : Word32) :
    s.requestRow code group index field v =
      (let d := (s.asked code group index field v).judgeRequest ⟨true, code, group, index, field, v⟩
       { d.state with resp := { d.state.resp with
           requests := []
           replies := d.state.resp.replies ++ [⟨replyFrame d.state.work.settings.replyId
             ⟨true, code, group, index, field, v⟩ d.result d.value, d.restart⟩] } }) := by
  have hr : s.hearsRequests = true := by simp [State.hearsRequests, h.running, h.onBus]
  have hq := h.requests
  have hp := h.replies
  unfold requestRow takeRequest
  simp only [hr, if_true, hq]
  rw [if_neg (by simp [shortSize])]
  simp only [List.nil_append, State.serve, List.length_singleton, State.serveUpTo]
  rw [if_pos (by simp [State.canServe, hp])]
  simp only [State.serveHead, frameRequest_requestFrame]
  rfl

/-- A management row while no request can arrive: nothing (R162). -/
theorem State.requestRow_unheard (s : State) (h : s.hearsRequests = false) (code group index field : Byte) (v : Word32) :
    s.requestRow code group index field v = s := by
  simp [State.requestRow, h]

end Sys2Proof.Machine
end

