-- ==== Sys2Proof/Laws/Signal.lean ====
section
/-! SUPPORT. Lemmas on the extraction lists: that every signal of a list is extracted, and once (R10). -/

namespace Sys2Proof.Machine

/-- The signals extracted from a list are those it names. -/
@[simp] theorem mem_onceEach (k : Fin 20) (l : List (Fin 20)) : k ∈ onceEach l ↔ k ∈ l := by
  induction l with
  | nil => rfl
  | cons a l ih => by_cases h : k = a <;> simp [onceEach, h, ih]

/-- No signal is extracted twice from one list. -/
theorem nodup_onceEach (l : List (Fin 20)) : (onceEach l).Nodup := by
  induction l with
  | nil => exact List.nodup_nil
  | cons a l ih => exact List.nodup_cons.2 ⟨by simp, ih.filter _⟩

/-- A list that names no signal twice is extracted as it stands. -/
theorem onceEach_of_nodup (l : List (Fin 20)) (h : l.Nodup) : onceEach l = l := by
  induction l with
  | nil => rfl
  | cons a l ih =>
    obtain ⟨ha, hl⟩ := List.nodup_cons.1 h
    rw [onceEach, ih hl, List.filter_eq_self.2]
    intro j hj
    exact decide_eq_true fun e => ha (e ▸ hj)

end Sys2Proof.Machine
end

