-- ==== Sys2Proof/Laws/Supervisor.lean ====
section
/-! SUPPORT. What the supervisor's moves leave of each record: the operations that only make frames or tend timers first,
then a move of the supervisor, a hold mode handed to the merger, and the entries to the states. -/

namespace Sys2Proof.Machine

/-! ### Frames and timers -/

@[simp] theorem State.sup_restartRefresh (s : State) : s.restartRefresh.sup = s.sup := by
  unfold restartRefresh; split <;> rfl
@[simp] theorem State.park_restartRefresh (s : State) : s.restartRefresh.park = s.park := by
  unfold restartRefresh; split <;> rfl
@[simp] theorem State.path_restartRefresh (s : State) : s.restartRefresh.path = s.path := by
  unfold restartRefresh; split <;> rfl
@[simp] theorem State.counters_restartRefresh (s : State) : s.restartRefresh.counters = s.counters := by
  unfold restartRefresh; split <;> rfl
@[simp] theorem State.calculator_restartRefresh (s : State) : s.restartRefresh.calculator = s.calculator := by
  unfold restartRefresh; split <;> rfl
@[simp] theorem State.channels_restartRefresh (s : State) : s.restartRefresh.channels = s.channels := by
  unfold restartRefresh; split <;> rfl
@[simp] theorem State.creep_restartRefresh (s : State) : s.restartRefresh.creep = s.creep :=
  congrArg (fun x => x.creep) (calm_restartRefresh s)
@[simp] theorem State.signals_restartRefresh (s : State) : s.restartRefresh.signals = s.signals :=
  congrArg (fun x => x.signals) (calm_restartRefresh s)
@[simp] theorem State.work_restartRefresh (s : State) : s.restartRefresh.work = s.work :=
  congrArg (fun x => x.work) (calm_restartRefresh s)
@[simp] theorem State.now_restartRefresh (s : State) : s.restartRefresh.now = s.now :=
  congrArg (fun x => x.now) (calm_restartRefresh s)
@[simp] theorem State.key_restartRefresh (s : State) : s.restartRefresh.key = s.key :=
  congrArg (fun x => x.key) (calm_restartRefresh s)
@[simp] theorem State.store_restartRefresh (s : State) : s.restartRefresh.store = s.store :=
  congrArg (fun x => x.store) (calm_restartRefresh s)
@[simp] theorem State.portB_restartRefresh (s : State) : s.restartRefresh.portB = s.portB :=
  congrArg (fun x => x.portB) (calm_restartRefresh s)
@[simp] theorem State.resp_replies_restartRefresh (s : State) : s.restartRefresh.resp.replies = s.resp.replies :=
  congrArg (fun x => x.resp.replies) (calm_restartRefresh s)
@[simp] theorem State.merger_mode_restartRefresh (s : State) : s.restartRefresh.merger.mode = s.merger.mode := by
  unfold restartRefresh; split <;> rfl
@[simp] theorem State.merger_driver_restartRefresh (s : State) : s.restartRefresh.merger.driver = s.merger.driver :=
  congrArg (fun x => x.merger.driver) (calm_restartRefresh s)

@[simp] theorem State.sup_enterRefresh (s : State) : s.enterRefresh.sup = s.sup := by
  unfold enterRefresh; split <;> simp
@[simp] theorem State.park_enterRefresh (s : State) : s.enterRefresh.park = s.park := by
  unfold enterRefresh; split <;> simp
@[simp] theorem State.path_enterRefresh (s : State) : s.enterRefresh.path = s.path := by
  unfold enterRefresh; split <;> simp
@[simp] theorem State.counters_enterRefresh (s : State) : s.enterRefresh.counters = s.counters := by
  unfold enterRefresh; split <;> simp
@[simp] theorem State.calculator_enterRefresh (s : State) : s.enterRefresh.calculator = s.calculator := by
  unfold enterRefresh; split <;> simp
@[simp] theorem State.channels_enterRefresh (s : State) : s.enterRefresh.channels = s.channels := by
  unfold enterRefresh; split <;> simp
@[simp] theorem State.creep_enterRefresh (s : State) : s.enterRefresh.creep = s.creep :=
  congrArg (fun x => x.creep) (calm_enterRefresh s)
@[simp] theorem State.signals_enterRefresh (s : State) : s.enterRefresh.signals = s.signals :=
  congrArg (fun x => x.signals) (calm_enterRefresh s)
@[simp] theorem State.work_enterRefresh (s : State) : s.enterRefresh.work = s.work :=
  congrArg (fun x => x.work) (calm_enterRefresh s)
@[simp] theorem State.now_enterRefresh (s : State) : s.enterRefresh.now = s.now :=
  congrArg (fun x => x.now) (calm_enterRefresh s)
@[simp] theorem State.key_enterRefresh (s : State) : s.enterRefresh.key = s.key :=
  congrArg (fun x => x.key) (calm_enterRefresh s)
@[simp] theorem State.store_enterRefresh (s : State) : s.enterRefresh.store = s.store :=
  congrArg (fun x => x.store) (calm_enterRefresh s)
@[simp] theorem State.portB_enterRefresh (s : State) : s.enterRefresh.portB = s.portB :=
  congrArg (fun x => x.portB) (calm_enterRefresh s)
@[simp] theorem State.resp_replies_enterRefresh (s : State) : s.enterRefresh.resp.replies = s.resp.replies :=
  congrArg (fun x => x.resp.replies) (calm_enterRefresh s)
@[simp] theorem State.merger_mode_enterRefresh (s : State) : s.enterRefresh.merger.mode = s.merger.mode := by
  unfold enterRefresh; split <;> simp
@[simp] theorem State.merger_driver_enterRefresh (s : State) : s.enterRefresh.merger.driver = s.merger.driver :=
  congrArg (fun x => x.merger.driver) (calm_enterRefresh s)

@[simp] theorem State.sup_tendSleep (s : State) : s.tendSleep.sup = s.sup := by
  unfold tendSleep; split <;> rfl
@[simp] theorem State.park_tendSleep (s : State) : s.tendSleep.park = s.park := by
  unfold tendSleep; split <;> rfl
@[simp] theorem State.path_tendSleep (s : State) : s.tendSleep.path = s.path := by
  unfold tendSleep; split <;> rfl
@[simp] theorem State.counters_tendSleep (s : State) : s.tendSleep.counters = s.counters := by
  unfold tendSleep; split <;> rfl
@[simp] theorem State.calculator_tendSleep (s : State) : s.tendSleep.calculator = s.calculator := by
  unfold tendSleep; split <;> rfl
@[simp] theorem State.channels_tendSleep (s : State) : s.tendSleep.channels = s.channels := by
  unfold tendSleep; split <;> rfl
@[simp] theorem State.creep_tendSleep (s : State) : s.tendSleep.creep = s.creep :=
  congrArg (fun x => x.creep) (calm_tendSleep s)
@[simp] theorem State.signals_tendSleep (s : State) : s.tendSleep.signals = s.signals :=
  congrArg (fun x => x.signals) (calm_tendSleep s)
@[simp] theorem State.work_tendSleep (s : State) : s.tendSleep.work = s.work :=
  congrArg (fun x => x.work) (calm_tendSleep s)
@[simp] theorem State.now_tendSleep (s : State) : s.tendSleep.now = s.now :=
  congrArg (fun x => x.now) (calm_tendSleep s)
@[simp] theorem State.key_tendSleep (s : State) : s.tendSleep.key = s.key :=
  congrArg (fun x => x.key) (calm_tendSleep s)
@[simp] theorem State.store_tendSleep (s : State) : s.tendSleep.store = s.store :=
  congrArg (fun x => x.store) (calm_tendSleep s)
@[simp] theorem State.portB_tendSleep (s : State) : s.tendSleep.portB = s.portB :=
  congrArg (fun x => x.portB) (calm_tendSleep s)
@[simp] theorem State.resp_replies_tendSleep (s : State) : s.tendSleep.resp.replies = s.resp.replies :=
  congrArg (fun x => x.resp.replies) (calm_tendSleep s)
@[simp] theorem State.merger_mode_tendSleep (s : State) : s.tendSleep.merger.mode = s.merger.mode := by
  unfold tendSleep; split <;> rfl
@[simp] theorem State.merger_driver_tendSleep (s : State) : s.tendSleep.merger.driver = s.merger.driver :=
  congrArg (fun x => x.merger.driver) (calm_tendSleep s)

@[simp] theorem State.sup_makeCab (s : State) : s.makeCab.sup = s.sup := by
  unfold makeCab; dsimp only; split <;> rfl
@[simp] theorem State.park_makeCab (s : State) : s.makeCab.park = s.park := by
  unfold makeCab; dsimp only; split <;> rfl
@[simp] theorem State.path_makeCab (s : State) : s.makeCab.path = s.path := by
  unfold makeCab; dsimp only; split <;> rfl
@[simp] theorem State.counters_makeCab (s : State) : s.makeCab.counters = s.counters := by
  unfold makeCab; dsimp only; split <;> rfl
@[simp] theorem State.calculator_makeCab (s : State) : s.makeCab.calculator = s.calculator := by
  unfold makeCab; dsimp only; split <;> rfl
@[simp] theorem State.channels_makeCab (s : State) : s.makeCab.channels = s.channels := by
  unfold makeCab; dsimp only; split <;> rfl
@[simp] theorem State.creep_makeCab (s : State) : s.makeCab.creep = s.creep :=
  congrArg (fun x => x.creep) (calm_makeCab s)
@[simp] theorem State.signals_makeCab (s : State) : s.makeCab.signals = s.signals :=
  congrArg (fun x => x.signals) (calm_makeCab s)
@[simp] theorem State.work_makeCab (s : State) : s.makeCab.work = s.work :=
  congrArg (fun x => x.work) (calm_makeCab s)
@[simp] theorem State.now_makeCab (s : State) : s.makeCab.now = s.now :=
  congrArg (fun x => x.now) (calm_makeCab s)
@[simp] theorem State.key_makeCab (s : State) : s.makeCab.key = s.key :=
  congrArg (fun x => x.key) (calm_makeCab s)
@[simp] theorem State.store_makeCab (s : State) : s.makeCab.store = s.store :=
  congrArg (fun x => x.store) (calm_makeCab s)
@[simp] theorem State.portB_makeCab (s : State) : s.makeCab.portB = s.portB :=
  congrArg (fun x => x.portB) (calm_makeCab s)
@[simp] theorem State.resp_replies_makeCab (s : State) : s.makeCab.resp.replies = s.resp.replies :=
  congrArg (fun x => x.resp.replies) (calm_makeCab s)
@[simp] theorem State.merger_mode_makeCab (s : State) : s.makeCab.merger.mode = s.merger.mode := by
  unfold makeCab; dsimp only; split <;> rfl
@[simp] theorem State.merger_driver_makeCab (s : State) : s.makeCab.merger.driver = s.merger.driver :=
  congrArg (fun x => x.merger.driver) (calm_makeCab s)

@[simp] theorem Merger.mode_setSlot (m : Merger) (n : SlotName) (x : Slot) : (m.setSlot n x).mode = m.mode := by
  cases n <;> rfl

@[simp] theorem Merger.mode_place (m : Merger) (f : Frame) (t : Timer) : (m.place f t).mode = m.mode := by
  unfold place load; dsimp only
  split
  · split <;> simp
  · split <;> simp

@[simp] theorem State.sup_makeDemand (s : State) : s.makeDemand.sup = s.sup := by
  unfold makeDemand; split <;> simp
@[simp] theorem State.park_makeDemand (s : State) : s.makeDemand.park = s.park := by
  unfold makeDemand; split <;> simp
@[simp] theorem State.path_makeDemand (s : State) : s.makeDemand.path = s.path := by
  unfold makeDemand; split <;> simp
@[simp] theorem State.counters_makeDemand (s : State) : s.makeDemand.counters = s.counters := by
  unfold makeDemand; split <;> simp
@[simp] theorem State.calculator_makeDemand (s : State) : s.makeDemand.calculator = s.calculator := by
  unfold makeDemand; split <;> simp
@[simp] theorem State.channels_makeDemand (s : State) : s.makeDemand.channels = s.channels := by
  unfold makeDemand; split <;> simp
@[simp] theorem State.creep_makeDemand (s : State) : s.makeDemand.creep = s.creep :=
  congrArg (fun x => x.creep) (calm_makeDemand s)
@[simp] theorem State.signals_makeDemand (s : State) : s.makeDemand.signals = s.signals :=
  congrArg (fun x => x.signals) (calm_makeDemand s)
@[simp] theorem State.work_makeDemand (s : State) : s.makeDemand.work = s.work :=
  congrArg (fun x => x.work) (calm_makeDemand s)
@[simp] theorem State.now_makeDemand (s : State) : s.makeDemand.now = s.now :=
  congrArg (fun x => x.now) (calm_makeDemand s)
@[simp] theorem State.key_makeDemand (s : State) : s.makeDemand.key = s.key :=
  congrArg (fun x => x.key) (calm_makeDemand s)
@[simp] theorem State.store_makeDemand (s : State) : s.makeDemand.store = s.store :=
  congrArg (fun x => x.store) (calm_makeDemand s)
@[simp] theorem State.portB_makeDemand (s : State) : s.makeDemand.portB = s.portB :=
  congrArg (fun x => x.portB) (calm_makeDemand s)
@[simp] theorem State.resp_replies_makeDemand (s : State) : s.makeDemand.resp.replies = s.resp.replies :=
  congrArg (fun x => x.resp.replies) (calm_makeDemand s)
@[simp] theorem State.merger_mode_makeDemand (s : State) : s.makeDemand.merger.mode = s.merger.mode := by
  unfold makeDemand; split <;> simp
@[simp] theorem State.merger_driver_makeDemand (s : State) : s.makeDemand.merger.driver = s.merger.driver :=
  congrArg (fun x => x.merger.driver) (calm_makeDemand s)

@[simp] theorem State.sup_makeForComponent (s : State) : s.makeForComponent.sup = s.sup := by
  unfold makeForComponent; split <;> simp
@[simp] theorem State.park_makeForComponent (s : State) : s.makeForComponent.park = s.park := by
  unfold makeForComponent; split <;> simp
@[simp] theorem State.path_makeForComponent (s : State) : s.makeForComponent.path = s.path := by
  unfold makeForComponent; split <;> simp
@[simp] theorem State.counters_makeForComponent (s : State) : s.makeForComponent.counters = s.counters := by
  unfold makeForComponent; split <;> simp
@[simp] theorem State.calculator_makeForComponent (s : State) : s.makeForComponent.calculator = s.calculator := by
  unfold makeForComponent; split <;> simp
@[simp] theorem State.channels_makeForComponent (s : State) : s.makeForComponent.channels = s.channels := by
  unfold makeForComponent; split <;> simp
@[simp] theorem State.merger_mode_makeForComponent (s : State) : s.makeForComponent.merger.mode = s.merger.mode := by
  unfold makeForComponent; split <;> simp

@[simp] theorem State.sup_noticeComponent (s : State) : s.noticeComponent.sup = s.sup := by
  unfold noticeComponent; (repeat' split) <;> simp
@[simp] theorem State.park_noticeComponent (s : State) : s.noticeComponent.park = s.park := by
  unfold noticeComponent; (repeat' split) <;> simp
@[simp] theorem State.path_noticeComponent (s : State) : s.noticeComponent.path = s.path := by
  unfold noticeComponent; (repeat' split) <;> simp
@[simp] theorem State.counters_noticeComponent (s : State) : s.noticeComponent.counters = s.counters := by
  unfold noticeComponent; (repeat' split) <;> simp
@[simp] theorem State.calculator_noticeComponent (s : State) : s.noticeComponent.calculator = s.calculator := by
  unfold noticeComponent; (repeat' split) <;> simp
@[simp] theorem State.channels_noticeComponent (s : State) : s.noticeComponent.channels = s.channels := by
  unfold noticeComponent; (repeat' split) <;> simp
@[simp] theorem State.creep_noticeComponent (s : State) : s.noticeComponent.creep = s.creep :=
  congrArg (fun x => x.creep) (calm_noticeComponent s)
@[simp] theorem State.signals_noticeComponent (s : State) : s.noticeComponent.signals = s.signals :=
  congrArg (fun x => x.signals) (calm_noticeComponent s)
@[simp] theorem State.work_noticeComponent (s : State) : s.noticeComponent.work = s.work :=
  congrArg (fun x => x.work) (calm_noticeComponent s)
@[simp] theorem State.now_noticeComponent (s : State) : s.noticeComponent.now = s.now :=
  congrArg (fun x => x.now) (calm_noticeComponent s)
@[simp] theorem State.key_noticeComponent (s : State) : s.noticeComponent.key = s.key :=
  congrArg (fun x => x.key) (calm_noticeComponent s)
@[simp] theorem State.store_noticeComponent (s : State) : s.noticeComponent.store = s.store :=
  congrArg (fun x => x.store) (calm_noticeComponent s)
@[simp] theorem State.portB_noticeComponent (s : State) : s.noticeComponent.portB = s.portB :=
  congrArg (fun x => x.portB) (calm_noticeComponent s)
@[simp] theorem State.resp_replies_noticeComponent (s : State) : s.noticeComponent.resp.replies = s.resp.replies :=
  congrArg (fun x => x.resp.replies) (calm_noticeComponent s)
@[simp] theorem State.merger_mode_noticeComponent (s : State) : s.noticeComponent.merger.mode = s.merger.mode := by
  unfold noticeComponent; (repeat' split) <;> simp
@[simp] theorem State.merger_driver_noticeComponent (s : State) : s.noticeComponent.merger.driver = s.merger.driver :=
  congrArg (fun x => x.merger.driver) (calm_noticeComponent s)

/-! ### A move -/

@[simp] theorem State.path_move (s : State) (st : SupState) (r : Reason) : (s.move st r).path = s.path := by
  simp [move]
@[simp] theorem State.counters_move (s : State) (st : SupState) (r : Reason) : (s.move st r).counters = s.counters := by
  simp [move]
@[simp] theorem State.calculator_move (s : State) (st : SupState) (r : Reason) : (s.move st r).calculator = s.calculator := by
  simp [move]
@[simp] theorem State.channels_move (s : State) (st : SupState) (r : Reason) : (s.move st r).channels = s.channels := by
  simp [move]
@[simp] theorem State.creep_move (s : State) (st : SupState) (r : Reason) : (s.move st r).creep = s.creep :=
  congrArg (fun x => x.creep) (calm_move s st r)
@[simp] theorem State.signals_move (s : State) (st : SupState) (r : Reason) : (s.move st r).signals = s.signals :=
  congrArg (fun x => x.signals) (calm_move s st r)
@[simp] theorem State.work_move (s : State) (st : SupState) (r : Reason) : (s.move st r).work = s.work :=
  congrArg (fun x => x.work) (calm_move s st r)
@[simp] theorem State.now_move (s : State) (st : SupState) (r : Reason) : (s.move st r).now = s.now :=
  congrArg (fun x => x.now) (calm_move s st r)
@[simp] theorem State.key_move (s : State) (st : SupState) (r : Reason) : (s.move st r).key = s.key :=
  congrArg (fun x => x.key) (calm_move s st r)
@[simp] theorem State.store_move (s : State) (st : SupState) (r : Reason) : (s.move st r).store = s.store :=
  congrArg (fun x => x.store) (calm_move s st r)
@[simp] theorem State.portB_move (s : State) (st : SupState) (r : Reason) : (s.move st r).portB = s.portB :=
  congrArg (fun x => x.portB) (calm_move s st r)
@[simp] theorem State.resp_replies_move (s : State) (st : SupState) (r : Reason) : (s.move st r).resp.replies = s.resp.replies :=
  congrArg (fun x => x.resp.replies) (calm_move s st r)
@[simp] theorem State.merger_mode_move (s : State) (st : SupState) (r : Reason) : (s.move st r).merger.mode = s.merger.mode := by
  simp [move]
@[simp] theorem State.merger_driver_move (s : State) (st : SupState) (r : Reason) : (s.move st r).merger.driver = s.merger.driver :=
  congrArg (fun x => x.merger.driver) (calm_move s st r)

@[simp] theorem State.sup_move (s : State) (st : SupState) (r : Reason) :
    (s.move st r).sup = { s.sup with state := st, reason := r } := by
  simp [move]

@[simp] theorem State.park_move (s : State) (st : SupState) (r : Reason) :
    (s.move st r).park = { s.park with holdInForce := st.isHold } := by
  simp [move]

/-! ### A hold mode handed over -/

@[simp] theorem State.merger_mode_setMode (s : State) (m : HoldMode) : (s.setMode m).merger.mode = m := by
  cases m <;> rfl

/-- Only in SECURED with a handover pending does a confirmed build move the supervisor (R98, R127). -/
theorem State.buildConfirmed_of_no_handover (s : State) (h : ¬(s.sup.state = .secured ∧ s.sup.handover = true)) :
    s.buildConfirmed = s := by
  unfold buildConfirmed; exact if_neg h

theorem State.sup_judge (s : State) (h : ¬(s.sup.state = .secured ∧ s.sup.handover = true)) : s.judge.sup = s.sup := by
  unfold judge
  split
  · split
    · rw [buildConfirmed_of_no_handover]; exact h
    · rfl
  · split
    · rw [buildConfirmed_of_no_handover]; exact h
    · rfl
  · rfl

theorem State.park_judge (s : State) (h : ¬(s.sup.state = .secured ∧ s.sup.handover = true)) : s.judge.park = s.park := by
  unfold judge
  split
  · split
    · rw [buildConfirmed_of_no_handover]; exact h
    · rfl
  · split
    · rw [buildConfirmed_of_no_handover]; exact h
    · rfl
  · rfl

theorem State.path_judge (s : State) (h : ¬(s.sup.state = .secured ∧ s.sup.handover = true)) : s.judge.path = s.path := by
  unfold judge
  split
  · split
    · rw [buildConfirmed_of_no_handover]; exact h
    · rfl
  · split
    · rw [buildConfirmed_of_no_handover]; exact h
    · rfl
  · rfl

theorem State.counters_judge (s : State) (h : ¬(s.sup.state = .secured ∧ s.sup.handover = true)) : s.judge.counters = s.counters := by
  unfold judge
  split
  · split
    · rw [buildConfirmed_of_no_handover]; exact h
    · rfl
  · split
    · rw [buildConfirmed_of_no_handover]; exact h
    · rfl
  · rfl

theorem State.calculator_judge (s : State) (h : ¬(s.sup.state = .secured ∧ s.sup.handover = true)) : s.judge.calculator = s.calculator := by
  unfold judge
  split
  · split
    · rw [buildConfirmed_of_no_handover]; exact h
    · rfl
  · split
    · rw [buildConfirmed_of_no_handover]; exact h
    · rfl
  · rfl

theorem State.channels_judge (s : State) (h : ¬(s.sup.state = .secured ∧ s.sup.handover = true)) : s.judge.channels = s.channels := by
  unfold judge
  split
  · split
    · rw [buildConfirmed_of_no_handover]; exact h
    · rfl
  · split
    · rw [buildConfirmed_of_no_handover]; exact h
    · rfl
  · rfl

theorem State.merger_mode_judge (s : State) (h : ¬(s.sup.state = .secured ∧ s.sup.handover = true)) : s.judge.merger.mode = s.merger.mode := by
  unfold judge
  split
  · split
    · rw [buildConfirmed_of_no_handover]; exact h
    · rfl
  · split
    · rw [buildConfirmed_of_no_handover]; exact h
    · rfl
  · rfl

theorem State.sup_arm (s : State) (l : Nat) (h : ¬(s.sup.state = .secured ∧ s.sup.handover = true)) :
    (s.arm l).sup = s.sup := by
  unfold arm; rw [sup_judge]; exact h

theorem State.park_arm (s : State) (l : Nat) (h : ¬(s.sup.state = .secured ∧ s.sup.handover = true)) :
    (s.arm l).park = s.park := by
  unfold arm; rw [park_judge]; exact h

theorem State.path_arm (s : State) (l : Nat) (h : ¬(s.sup.state = .secured ∧ s.sup.handover = true)) :
    (s.arm l).path = s.path := by
  unfold arm; rw [path_judge]; exact h

theorem State.counters_arm (s : State) (l : Nat) (h : ¬(s.sup.state = .secured ∧ s.sup.handover = true)) :
    (s.arm l).counters = s.counters := by
  unfold arm; rw [counters_judge]; exact h

theorem State.calculator_arm (s : State) (l : Nat) (h : ¬(s.sup.state = .secured ∧ s.sup.handover = true)) :
    (s.arm l).calculator = s.calculator := by
  unfold arm; rw [calculator_judge]; exact h

theorem State.channels_arm (s : State) (l : Nat) (h : ¬(s.sup.state = .secured ∧ s.sup.handover = true)) :
    (s.arm l).channels = s.channels := by
  unfold arm; rw [channels_judge]; exact h

theorem State.merger_mode_arm (s : State) (l : Nat) (h : ¬(s.sup.state = .secured ∧ s.sup.handover = true)) :
    (s.arm l).merger.mode = s.merger.mode := by
  unfold arm; rw [merger_mode_judge]; exact h

theorem State.sup_noticeConfirm (s : State) (a : Bool) (h : ¬(s.sup.state = .secured ∧ s.sup.handover = true)) :
    (s.noticeConfirm a).sup = s.sup := by
  unfold noticeConfirm
  split
  · rfl
  · split
    · exact sup_arm s _ h
    · rfl

theorem State.park_noticeConfirm (s : State) (a : Bool) (h : ¬(s.sup.state = .secured ∧ s.sup.handover = true)) :
    (s.noticeConfirm a).park = s.park := by
  unfold noticeConfirm
  split
  · rfl
  · split
    · exact park_arm s _ h
    · rfl

theorem State.path_noticeConfirm (s : State) (a : Bool) (h : ¬(s.sup.state = .secured ∧ s.sup.handover = true)) :
    (s.noticeConfirm a).path = s.path := by
  unfold noticeConfirm
  split
  · rfl
  · split
    · exact path_arm s _ h
    · rfl

theorem State.counters_noticeConfirm (s : State) (a : Bool) (h : ¬(s.sup.state = .secured ∧ s.sup.handover = true)) :
    (s.noticeConfirm a).counters = s.counters := by
  unfold noticeConfirm
  split
  · rfl
  · split
    · exact counters_arm s _ h
    · rfl

theorem State.calculator_noticeConfirm (s : State) (a : Bool) (h : ¬(s.sup.state = .secured ∧ s.sup.handover = true)) :
    (s.noticeConfirm a).calculator = s.calculator := by
  unfold noticeConfirm
  split
  · rfl
  · split
    · exact calculator_arm s _ h
    · rfl

theorem State.channels_noticeConfirm (s : State) (a : Bool) (h : ¬(s.sup.state = .secured ∧ s.sup.handover = true)) :
    (s.noticeConfirm a).channels = s.channels := by
  unfold noticeConfirm
  split
  · rfl
  · split
    · exact channels_arm s _ h
    · rfl

theorem State.merger_mode_noticeConfirm (s : State) (a : Bool) (h : ¬(s.sup.state = .secured ∧ s.sup.handover = true)) :
    (s.noticeConfirm a).merger.mode = s.merger.mode := by
  unfold noticeConfirm
  split
  · rfl
  · split
    · exact merger_mode_arm s _ h
    · rfl

theorem State.sup_handMode (s : State) (m : HoldMode) (a : Bool) (h : ¬(s.sup.state = .secured ∧ s.sup.handover = true)) :
    (s.handMode m a).sup = s.sup := by
  unfold handMode; rw [sup_noticeConfirm _ _ (by simpa using h)]; simp

theorem State.park_handMode (s : State) (m : HoldMode) (a : Bool) (h : ¬(s.sup.state = .secured ∧ s.sup.handover = true)) :
    (s.handMode m a).park = s.park := by
  unfold handMode; rw [park_noticeConfirm _ _ (by simpa using h)]; simp

theorem State.path_handMode (s : State) (m : HoldMode) (a : Bool) (h : ¬(s.sup.state = .secured ∧ s.sup.handover = true)) :
    (s.handMode m a).path = s.path := by
  unfold handMode; rw [path_noticeConfirm _ _ (by simpa using h)]; simp

theorem State.counters_handMode (s : State) (m : HoldMode) (a : Bool) (h : ¬(s.sup.state = .secured ∧ s.sup.handover = true)) :
    (s.handMode m a).counters = s.counters := by
  unfold handMode; rw [counters_noticeConfirm _ _ (by simpa using h)]; simp

theorem State.calculator_handMode (s : State) (m : HoldMode) (a : Bool) (h : ¬(s.sup.state = .secured ∧ s.sup.handover = true)) :
    (s.handMode m a).calculator = s.calculator := by
  unfold handMode; rw [calculator_noticeConfirm _ _ (by simpa using h)]; simp

theorem State.channels_handMode (s : State) (m : HoldMode) (a : Bool) (h : ¬(s.sup.state = .secured ∧ s.sup.handover = true)) :
    (s.handMode m a).channels = s.channels := by
  unfold handMode; rw [channels_noticeConfirm _ _ (by simpa using h)]; simp

theorem State.merger_mode_handMode (s : State) (m : HoldMode) (a : Bool) (h : ¬(s.sup.state = .secured ∧ s.sup.handover = true)) :
    (s.handMode m a).merger.mode = m := by
  unfold handMode; rw [merger_mode_noticeConfirm _ _ (by simpa using h)]; simp

/-- Entry to SECURING (R91). -/
theorem State.enterSecuring_enters (s : State) (r : Reason) : s.EntersSecuring (s.enterSecuring r) r := by
  have h : ∀ t : State, t.sup.state = .securing → ¬(t.sup.state = .secured ∧ t.sup.handover = true) := by
    intro t ht hc; simp [ht] at hc
  unfold enterSecuring
  constructor
  · rw [sup_handMode _ _ _ (h _ (by simp))]; simp
  · rw [sup_handMode _ _ _ (h _ (by simp))]; simp
  · rw [sup_handMode _ _ _ (h _ (by simp))]; simp [assertPark]
  · rw [sup_handMode _ _ _ (h _ (by simp))]; simp [assertPark]
  · rw [park_handMode _ _ _ (h _ (by simp))]; simp [assertPark, SupState.isHold, State.timer]
  · rw [merger_mode_handMode _ _ _ (h _ (by simp))]
  · rw [counters_handMode _ _ _ (h _ (by simp))]; simp [assertPark, Counters.get]

end Sys2Proof.Machine
end

