-- ==== Sys2Proof/Tests/Slice0.lean ====
section
/-! SUPPORT. Tests of the model: ill-formed commands refused; values of the spec's rules and worked examples, a step or two
each (FRAME_RECEIVED, by which most rules act, has a test for each block it reaches); and, for each statement with
hypotheses, a state and operands that meet them together. -/

-- One proof at a time: as many threads as theorems would each take a stack of their own.
set_option Elab.async false

namespace Sys2Proof.Tests

open Sys2Proof.Machine

/-! ### States the tests share -/

/-- The state after reset, its start over and nothing loading, in a supervisor state. -/
def part (st : SupState) : State :=
  { State.reset with
    start := none
    store := { State.reset.store with op := .idle, imageGood := true }
    sup := ⟨st, .none, none, false, false⟩ }

/-- A hold context of a step. -/
def context (step : Nat) : Context := ⟨some .forward, step, some ⟨0, 180000⟩, PerWheel.all none, 300, none, false⟩

/-- A hold in force, in a supervisor state. -/
def hold (st : SupState) (step : Nat) : State :=
  { part st with sup := ⟨st, .none, some (context step), false, false⟩ }

/-- A frame of an 11-bit identifier. -/
def frame (id : BitVec 11) (data : List Byte) (dlc : Fin 9) : Frame := ⟨.std id, false, dlc, data⟩

/-- A route entry for one 11-bit identifier. -/
def entry (p : Port) (id : BitVec 29) (a : Action) (signals : List (Fin 20)) : RouteEntry :=
  ⟨true, p, false, id, 0x7FF#29, a, false, signals⟩

/-- A part whose route table is IN FORCE with one entry. -/
def routed (st : SupState) (e : RouteEntry) : State :=
  { part st with
    route := ⟨.inForce, none⟩
    work := { Working.blank with routes := (Vector.replicate 96 RouteEntry.blank).set 0 e } }

/-- A part that can serve a management request. -/
theorem witness_Serves (st : SupState) : (part st).Serves := by
  constructor
  · cases st <;> rfl
  · rfl
  · rfl
  · exact (by decide : 0 < shortSize)

/-! ### Ill-formed commands (R1, R9) -/

theorem test_frame_with_too_few_bytes_is_ill_formed :
    Instr.wf (.frameReceived .v (frame 0x100#11 [1#8] 2)) = false := by decide

theorem test_frame_with_too_many_bytes_is_ill_formed :
    Instr.wf (.frameReceived .b (frame 0x100#11 [1#8, 2#8, 3#8] 2)) = false := by decide

theorem test_remote_frame_with_data_is_ill_formed :
    Instr.wf (.frameReceived .v ⟨.std 0x100#11, true, 1, [1#8]⟩) = false := by decide

theorem test_remote_frame_without_data_is_well_formed :
    Instr.wf (.frameReceived .v ⟨.std 0x100#11, true, 8, []⟩) = true := by decide

/-! ### The machine -/

/-- No word spells a command: the table gives its rows no bits. -/
theorem test_no_word_is_a_command : decodeTableWord 16 0xFFFF = none := by decide

/-- An idle step moves the time base by 1 ms (notes/assumptions/4.md). -/
theorem test_idle_step_moves_time : (match step (part .standby) with
    | .next t => t.now
    | .fault _ => 0
    | .refused _ => 0) = 1 := by decide

/-! ### The truck of section 4.11 -/

/-- The state a command answers. -/
def after (o : Host.Outcome State Fault Refusal) : State :=
  match o with
  | .next t => t
  | .fault _ => State.reset
  | .refused _ => State.reset

/-- A FRESH record. -/
def rec (value : Int) : SampleRecord := ⟨value, .fresh, false, some ⟨0, 100⟩, some ⟨0, 300⟩, .unknown⟩

/-- A channel ACCEPTED, FRESH and PASSED, advertising 800 kPa. -/
def accepted (n : BitVec 4) (pressure : Nat) : ChannelRecord :=
  ⟨.accepted, some ⟨n, 200#8, false, 7#8⟩, 3, pressure, false, .fresh, some ⟨0, 100⟩, some ⟨0, 300⟩, .passed, false⟩

/-- The signal table of the truck: GRADE and PAYLOAD as in section 2.2's example, WHEEL_2 with a direction sub-field and
WHEEL_4 without, each of 8 bits. -/
def truckSignals : Vector SigEntry 20 :=
  (((((((Vector.replicate 20 SigEntry.blank).set 0 ⟨.grade, 0, 0, 16, false, true, 512, 0, 100, 300, none⟩).set 1
    ⟨.payload, 4, 0, 16, false, false, 2048, 0, 100, 300, none⟩).set 2
    ⟨.drumSpeed, 0, 0, 16, false, true, 1024, 0, 100, 300, none⟩).set 3
    ⟨.reservoir, 0, 0, 16, false, false, 1024, 0, 100, 300, none⟩).set 4
    ⟨.parkStatus, 0, 0, 2, false, false, 1024, 0, 100, 300, none⟩).set 6
    ⟨.wheel .w2, 0, 0, 8, false, false, 1024, 0, 100, 300, some (1, 0)⟩).set 7
    ⟨.wheel .w4, 0, 0, 8, false, false, 1024, 0, 100, 300, none⟩

/-- Settings, channels and curves of section 4.11, K_d 916. -/
def truckWork : Working :=
  { settings := { Settings.default with drivelineFactor := 916, portVDefault := .pass }
    routes := Vector.replicate 96 RouteEntry.blank
    signals := truckSignals
    channels := ⟨⟨true, .std 0x340#11, .std 0x350#11, 90, false⟩, ⟨true, .std 0x341#11, .std 0x351#11, 120, false⟩,
      ⟨true, .std 0x342#11, .std 0x352#11, 120, false⟩, ⟨true, .std 0x343#11, .std 0x353#11, 80, true⟩⟩
    gradeCurve := #v[⟨0, 0⟩, ⟨50, 490⟩, ⟨100, 976⟩, ⟨150, 1455⟩, ⟨200, 1924⟩, ⟨250, 2379⟩, ⟨300, 2818⟩, ⟨450, 4025⟩]
    drumCurve := #v[⟨0, 0⟩, ⟨40, 20⟩, ⟨80, 45⟩, ⟨120, 70⟩, ⟨200, 100⟩] }

/-- The truck in a supervisor state with a hold context or none, a grade, a drum speed and a reservoir. -/
def truckAt (st : SupState) (ctx : Option Context) (mode : HoldMode) (grade drum reservoir : Int) : State :=
  { part st with
    work := truckWork
    route := ⟨.inForce, some (.ext 0x0C2A1E10#29)⟩
    signals :=
      { state := .inForce
        bindings := ((Vector.ofFn fun k => (truckSignals.get k).role).set 5 .liftAxle).set 8 .driverPresent
        records := (((((((((Vector.replicate 20 SampleRecord.start).set 0 (rec grade)).set 1 (rec 1900)).set 2
          (rec drum)).set 3 (rec reservoir)).set 4 (rec 0)).set 5 (rec 1)).set 6 (rec 252)).set 7 (rec 17)).set 8 (rec 1)
        window := [grade, grade, grade, grade, grade], keptSign := .positive, reversal := none }
    channels := ⟨.inForce, ⟨accepted 1#4 240, accepted 2#4 240, accepted 3#4 240, accepted 4#4 0⟩, ⟨⟨true, true, true, false⟩, 330, some 800⟩⟩
    calculator := ⟨.inForce, 1900, HoldResult.unworked Settings.default 1900 330, .fail, 0⟩
    creep := ⟨{ PerWheel.all Track.cleared with w2 := ⟨true, some 252, .running ⟨0, 300⟩, false⟩,
                                                 w4 := ⟨true, some 17, .expired, true⟩ }, false, 2⟩
    merger := { Merger.start with mode := mode, driver := ⟨PerChan.all 0, .fresh, some ⟨0, 100⟩, some ⟨0, 300⟩, none⟩ }
    sup := ⟨st, .none, ctx, false, false⟩
    park := ⟨st.prq, st.isHold, if st = .securing then .waiting else .idle, none⟩ }

/-- The hold context of section 6.6's example, at a step. -/
def truckHold (step : Nat) : Context :=
  { context step with wheels := { PerWheel.all none with w2 := some ⟨some 252, 0, 0⟩, w4 := some ⟨some 17, 0, 0⟩ } }

/-- The base case of section 4.11: HOLDING at a step, 22.0 %, 12.0 rpm, 850 kPa. -/
def truck (step : Nat) : State := (truckAt .holding (some (truckHold step)) .hold 220 120 850).evaluateCore

/-! ### Worked cases of the calculator (section 4.11) -/

theorem test_base_case : ((truck 0).calculator.record) =
    ⟨2106, 1900, 3150, 6634, 70, 281, 6915, 200, 8298, 330, 252, 650, 252, false, true⟩ := by decide +kernel

theorem test_base_case_target : (truck 0).calculator.record.target = 252 := by decide +kernel

theorem test_escalated_force : (truck 3).calculator.record.force = 11410 ∧ (truck 3).calculator.record.target = 348 := by
  decide +kernel

theorem test_floor : (truckAt .holding none .hold 40 120 850).evaluation =
    ⟨392, 1900, 3150, 1235, 70, 53, 1288, 200, 1546, 330, 47, 650, 150, false, true⟩ := by decide +kernel

theorem test_low_reservoir : (truckAt .holding none .hold 40 120 220).evaluation.insufficient = true ∧
    (truckAt .holding none .hold 40 120 220).evaluation.pHold = 120 := by decide +kernel

/-- One insufficient channel (section 4.11): C2 alone takes the limit of 650 kPa. -/
theorem test_one_channel_is_insufficient :
    ({ truckAt .holding none .hold 220 120 850 with
        channels := { (truck 0).channels with derived := ⟨⟨false, true, false, false⟩, 120, some 800⟩ } }.evaluation).pHold = 650 := by
  decide +kernel

/-- A LOST drum speed takes the cap of 400 (section 4.11). -/
theorem test_lost_drum_speed : drumAllowance truckWork.drumCurve .lost false 150 = 400 := by decide +kernel

/-- Discharge just begun: 45 + 150 (section 4.11). -/
theorem test_reversal_allowance : drumAllowance truckWork.drumCurve (.value (-80) true) true 150 = 195 := by
  decide +kernel

/-- Section 4.8: 500 N·m in a ratio of 12.500 with K_d 916 is 5725. -/
theorem test_drive_force : driveForce truckWork.settings 500 12500 = 5725 := by decide +kernel

/-- Rows 1 and 3 of section 4.11's payload table. -/
theorem test_payload_falls_and_rises :
    limitPayload Settings.default 2000 1900 = 1995 ∧ limitPayload Settings.default 1990 1993 = 1993 := by decide +kernel

/-! ### Ports (section 1.1's and 1.3's examples) -/

/-- A part with Port B's counts. -/
def portB (tx : Nat) (mode : PortMode) : State := { part .standby with portB := ⟨tx, 0, mode, 0, none⟩ }

theorem test_transmit_error_makes_passive :
    ((after (exec (.transmitError .b) (portB 121 .active))).portB.txErr,
     (after (exec (.transmitError .b) (portB 121 .active))).portB.mode) = (129, .passive) := by decide +kernel

theorem test_transmit_error_past_255_is_bus_off :
    ((after (exec (.transmitError .b) (portB 255 .passive))).portB.mode,
     (after (exec (.transmitError .b) (portB 255 .passive))).counters.busOffB.count) = (.offBus, 1#8) := by decide +kernel

theorem test_transmit_error_to_255_stays_on_the_bus :
    (after (exec (.transmitError .b) (portB 247 .passive))).portB.mode = .passive := by decide +kernel

theorem test_completion_returns_to_active :
    (after (exec (.frameSent .b) { portB 128 .passive with
        portB := ⟨128, 0, .passive, 0, some ⟨.vToB, frame 0x120#11 [] 0⟩⟩, vToB := [frame 0x120#11 [] 0] })).portB =
      ⟨127, 0, .active, 0, none⟩ := by decide +kernel

theorem test_last_sequence_recovers :
    (after (exec (.recessiveSequence .v) { part .standby with portV := ⟨255, 5, .offBus, 127, none⟩ })).portV =
      ⟨0, 0, .active, 0, none⟩ := by decide +kernel

theorem test_receive_error_count_stops_at_127 :
    (after (exec (.receiveError .v) { part .standby with portV := ⟨0, 127, .active, 0, none⟩ })).portV.rxErr = 127 := by
  decide +kernel

/-- A V-to-B queue of some length. -/
def queued (n : Nat) (shedding : Bool) : State :=
  { routed .standby (entry .v 0x120#29 .passShed []) with
    vToB := List.replicate n (frame 0x121#11 [] 0), shedding := shedding }

theorem test_shed_frame_is_counted_once_at_a_full_queue :
    let t := after (exec (.frameReceived .v (frame 0x120#11 [] 0)) (queued 24 true))
    (t.counters.shedFrames.count, t.counters.vToBDrops.count, t.vToB.length) = (1#8, 0#8, 24) := by decide +kernel

theorem test_join_at_the_high_water_mark_sheds :
    (after (exec (.frameReceived .v (frame 0x120#11 [] 0)) (queued 17 false))).shedding = true := by decide +kernel

/-! ### Signals (sections 2.2 and 2.4's examples) -/

theorem test_grade_half_away_from_zero :
    ((truckSignals.get 0).value [0xB7#8, 0x01#8], (truckSignals.get 0).value [0x49#8, 0xFE#8]) = (220, -220) := by
  decide +kernel

theorem test_grade_is_clamped : (truckSignals.get 0).value [0xE9#8, 0x03#8] = 450 := by decide +kernel

theorem test_all_ones_is_no_data : (truckSignals.get 0).noData [0xFF#8, 0xFF#8] = true := by decide +kernel

theorem test_short_payload_frame : (truckSignals.get 1).short 5 = true ∧ (truckSignals.get 1).short 6 = false := by
  decide +kernel

/-- R26: 16 bits at byte 1, big order, take their upper bits from byte 0. -/
theorem test_big_order : (⟨.grade, 1, 0, 16, true, false, 0, 0, 10, 10, none⟩ : SigEntry).raw [0x12#8, 0x34#8] = 0x1234 := by
  decide +kernel

/-- Rows 4, 5 and 7 of section 2.4's example. -/
theorem test_window_medians :
    (filteredGrade [218, 222, 219, 240], filteredGrade [218, 222, 219, 240, 221],
      filteredGrade [219, 240, 221, 220, 220]) = (some 222, some 221, some 220) := by decide +kernel

/-- Section 2.3's example: the stale timer of RESERVOIR. -/
theorem test_reservoir_goes_held :
    (after (exec (.staleTimerExpiry 3) (truck 0))).signals.records.get 3 =
      ⟨850, .held, false, none, some ⟨0, 300⟩, .unknown⟩ := by decide +kernel

/-- Section 2.3's example: the loss of RESERVOIR in HOLDING secures the truck. -/
theorem test_reservoir_loss_secures :
    ((after (exec (.lossTimerExpiry 3) (truck 0))).sup.state, (after (exec (.lossTimerExpiry 3) (truck 0))).sup.reason) =
      (.securing, .reservoir) := by decide +kernel

/-- The truck with a route entry that takes one signal from frames 120h of Port V. -/
def taking (s : State) (signal : Fin 20) : State :=
  { s with
    route := ⟨.inForce, none⟩
    work := { s.work with routes := s.work.routes.set 0 (entry .v 0x120#29 .take [signal]) } }

/-- The state after a frame 120h. -/
def took (s : State) (signal : Fin 20) (data : List Byte) (dlc : Fin 9) : State :=
  after (exec (.frameReceived .v (frame 0x120#11 data dlc)) (taking s signal))

/-- Section 5.12 row 4: a drum speed of −80 opens a window of 8 s, and the target is 272 kPa. -/
theorem test_drum_reversal :
    ((took (truck 0) 2 [0xB0#8, 0xFF#8] 2).signals.reversal,
      (took (truck 0) 2 [0xB0#8, 0xFF#8] 2).calculator.record.target) = (some ⟨0, 8000⟩, 272) := by decide +kernel

/-- R64: a sample of 949 × 2 = 1898, less than the fall step below payload used, is taken whole. -/
theorem test_payload_sample :
    (took (truck 0) 1 [0#8, 0#8, 0#8, 0#8, 0xB5#8, 0x03#8] 6).calculator.payloadUsed = 1898 := by decide +kernel

/-- R10: a signal that a list names twice is extracted once. -/
theorem test_duplicate_is_extracted_once :
    let s := taking (truck 0) 1
    let e := entry .v 0x120#29 .take [1, 1]
    (after (exec (.frameReceived .v (frame 0x120#11 [] 0)) { s with work := { s.work with
      routes := s.work.routes.set 0 e } })).counters.shortFrames.count = 1#8 := by decide +kernel

theorem test_short_frame_is_counted :
    (took (truck 0) 1 [0#8, 0#8, 0#8, 0#8, 0xB5#8] 5).counters.shortFrames.count = 1#8 := by decide +kernel

theorem test_reversal_window_ends :
    (after (exec .reversalWindowExpiry { truck 0 with signals := { (truck 0).signals with
      reversal := some ⟨0, 8000⟩ } })).signals.reversal = none := by decide +kernel

/-! ### Creep (section 6.6's example) -/

/-- The truck with WHEEL_2 and WHEEL_4 at given counts and accumulators. -/
def rolling (st : SupState) (step last2 down2 last4 down4 : Nat) (rel : Option Release) : State :=
  { truck step with
    sup := { (truck step).sup with
      state := st
      ctx := some { truckHold step with
        wheels := { PerWheel.all none with w2 := some ⟨some 252, down2, 0⟩, w4 := some ⟨some 17, down4, 0⟩ }
        release := rel } }
    creep := { (truck step).creep with wheels := { (truck step).creep.wheels with
      w2 := ⟨true, some last2, .running ⟨0, 300⟩, false⟩, w4 := ⟨true, some last4, .expired, true⟩ } } }

/-- Row 4: from 254 with 2 down, a backward sample of 0 is creep: step 1, target 284, references 0 and 17. -/
theorem test_creep_across_the_wrap :
    let t := took (rolling .holding 0 254 2 17 0 none) 6 [0#8, 2#8] 2
    (t.escalation, t.counters.escalations.count, t.calculator.record.target,
      t.sup.ctx.map fun c => (c.wheels.w2, c.wheels.w4)) =
      (1, 1#8, 284, some (some ⟨some 0, 0, 0⟩, some ⟨some 17, 0, 0⟩)) := by decide +kernel

/-- Row 5: WHEEL_4 steps back from 17 to 12. -/
theorem test_wheel_glitch :
    let t := took (rolling .holding 1 0 0 17 0 none) 7 [12#8] 1
    (t.counters.wheelGlitches.count, t.creep.wheels.w4.last, t.sup.ctx.map fun c => c.wheels.w4) =
      (1#8, some 12, some (some ⟨some 12, 0, 0⟩)) := by decide +kernel

/-- Row 11: creep in an UPHILL release returns to HOLDING a step higher. -/
theorem test_creep_in_an_uphill_release :
    let t := took (rolling .releasing 1 3 1 15 1 (some ⟨284, ⟨0, 600⟩, .uphill⟩)) 6 [6#8, 2#8] 2
    (t.sup.state, t.escalation, t.merger.mode, t.sup.ctx.map fun c => c.release) = (.holding, 2, .hold, some none) := by
  decide +kernel

theorem test_fourth_creep_is_a_rollaway :
    let t := took (rolling .holding 3 254 2 17 0 none) 6 [0#8, 2#8] 2
    (t.sup.state, t.sup.reason, t.counters.rollaways.count, t.park.prq) = (.securing, .rollaway, 1#8, true) := by
  decide +kernel

/-! ### The supervisor (section 5.12) -/

/-- Row 1: STANDBY, the driver braking with 320 kPa, WHEEL_2 about to come to rest. -/
def stopped : State :=
  { truckAt .standby none .none 220 120 850 with
    merger := { Merger.start with driver := ⟨PerChan.all 320, .fresh, some ⟨0, 100⟩, some ⟨0, 300⟩,
      some ⟨.ext 0x0C2A1E10#29, [80#8, 80#8, 80#8, 80#8, 0#8, 0xA5#8, 1#8, 2#8]⟩⟩ } }.evaluateCore

/-- Row 2: the rest report enters HOLDING at step 0, PRQ off, the hold-limit timer at 180 s. -/
theorem test_rest_enters_holding :
    let t := after (exec (.restTimerExpiry .w2) stopped)
    (t.sup.state, t.sup.reason, t.escalation, t.park.prq, t.merger.mode) = (.holding, .none, 0, false, .hold) ∧
    t.sup.ctx.bind (fun c => c.holdLimit) = some ⟨300, 180000⟩ ∧
    t.sup.ctx.map (fun c => (c.uphill, c.entryP)) = some (some .forward, 252) := by decide +kernel

/-- Row 2: every frame carries 320 kPa, 80 units, origin HOLD, the upper bits of byte 5 and bytes 6 and 7 as the driver's. -/
theorem test_hold_frame :
    (after (exec (.restTimerExpiry .w2) stopped)).merger.slotA.frame =
      some ⟨.ext 0x0C2A1E10#29, false, 8, [80#8, 80#8, 80#8, 80#8, 1#8, 0xA0#8, 1#8, 2#8]⟩ := by decide +kernel

/-- Row 7: DRIVER_PRESENT 0 secures. -/
theorem test_driver_leaves :
    let t := after (exec (.lossTimerExpiry 8) (truck 1))
    (t.sup.state, t.sup.reason, t.escalation, t.park.conf, t.counters.secures.count) =
      (.securing, .driverAbsent, 1, .waiting, 1#8) := by decide +kernel

/-- Row 8: PARK_STATUS applied confirms. -/
theorem test_spring_confirms :
    let t := took (truckAt .securing (some (truckHold 1)) .secure 220 120 850) 4 [1#8] 1
    (t.sup.state, t.park.conf, t.park.prq, t.merger.mode) = (.secured, .confirmed, true, .none) := by decide +kernel

/-- R97: a truck SECURED with a handover pending and no build confirmed yet. -/
def handing : State :=
  let s := truckAt .secured (some (truckHold 0)) .hold 220 0 850
  { s with sup := { s.sup with handover := true }, park := ⟨true, true, .confirmed, none⟩ }

/-- Row 11: the build confirmed hands the truck over. -/
theorem test_handover :
    let t := handing.buildConfirmed
    (t.sup.state, t.sup.reason, t.park.prq, t.park.conf, t.sup.ctx.bind fun c => c.holdLimit) =
      (.holding, .none, false, .idle, some ⟨0, 180000⟩) := by decide +kernel

/-- Section 5.13: an RSTN pulse at step 2 of a hold asserts PRQ, and the start ends in SECURING with a new context. -/
theorem test_warm_reset_in_a_hold :
    let t := after (exec .loadEnd (after (exec .warmReset (truck 2))))
    (t.sup.state, t.sup.reason, t.escalation, t.park.prq, t.counters.secures.count, t.channels.derived.b) =
      (.securing, .resetInHold, 0, true, 1#8, 0) := by decide +kernel

/-! ### Build confirmation (section 7.5's example) -/

/-- Rows 3 to 5: step 1 armed on 284, C1 and C2 above 244 kPa and C3 at 236, one stage running. -/
def lagging (conf : ConfState) (dur : Nat) : State :=
  let s := truck 1
  { s with
    channels := { s.channels with records := ⟨accepted 1#4 272, accepted 2#4 276, accepted 3#4 236, accepted 4#4 0⟩ }
    merger := { s.merger with conf := conf, stage := some ⟨150, dur⟩, confirmLevel := 284
                              driver := { s.merger.driver with last := some ⟨.ext 0x0C2A1E10#29, []⟩ }
                              lastComponent := ⟨284, 284, 284, 0⟩ } }

/-- Row 4: stage 1 expires. -/
theorem test_stage_1 :
    let t := after (exec .buildStage1Expiry { lagging .stage1 150 with now := 150 })
    (t.merger.conf, t.counters.slowBuilds.count, t.merger.stage) = (.stage2, 1#8, some ⟨300, 300⟩) := by decide +kernel

/-- Rows 6 to 8: stage 2 expires: C3 SHORT, B 210, target 448, a new confirmation armed on 448. -/
theorem test_stage_2 :
    let t := after (exec .buildStage2Expiry (lagging .stage2 300))
    (t.channels.records.c3.handshake, t.counters.shortChannels.count, t.channels.derived.b, t.sup.state) =
      (.short, 1#8, 210, .holding) ∧
    (t.calculator.record.target, t.merger.conf, t.merger.confirmLevel, t.merger.stage) =
      (448, .stage1, 448, some ⟨450, 150⟩) := by decide +kernel

/-- Rows 7 and 8: the frame that waits carries 112 units on C1 and C2 and 0 on C3. -/
theorem test_stage_2_frame :
    ((after (exec .buildStage2Expiry (lagging .stage2 300))).merger.slotB.frame.map fun f => f.data.take 5) =
      some [112#8, 112#8, 0#8, 0#8, 1#8] := by decide +kernel

/-- Section 7.6 row 9: a DONE slot beside a LOADED one takes the frame, and the LOADED one becomes OLDER. -/
theorem test_slot_placement :
    let m : Merger := { Merger.start with
      slotA := ⟨.loaded, none, some (frame 8#11 [] 0), some .newer, none⟩
      slotB := ⟨.done, some .failed, some (frame 7#11 [] 0), some .older, none⟩ }
    ((m.place (frame 9#11 [] 0) none).slotA.order, (m.place (frame 9#11 [] 0) none).slotB) =
      (some .older, ⟨.loaded, none, some (frame 9#11 [] 0), some .newer, none⟩) := by decide +kernel

/-! ### The handshake (section 3.3's example) -/

/-- C2 LISTENING with two identical adverts of revision 8 taken, its frames handed to the channel block. -/
def listening : State :=
  let s := truckAt .unavailable none .none 0 0 850
  { s with
    work := { s.work with routes := s.work.routes.set 0 ⟨true, .b, false, 0x340#29, 0x7FC#29, .channel, false, []⟩ }
    channels := ⟨.inForce, { s.channels.records with
      c2 := ⟨.listening, some ⟨2#4, 200#8, false, 8#8⟩, 2, 0, false, .fresh, none, none, .unchecked, false⟩ }, Derived.none⟩ }

/-- Row 5: the third identical advert is accepted and answered on C2's accept identifier. -/
theorem test_third_advert :
    let t := after (exec (.frameReceived .b (frame 0x341#11 [0x12#8, 200#8, 0#8, 8#8] 4)) listening)
    (t.channels.records.c2.handshake, t.channels.records.c2.count, t.merger.control) =
      (.accepted, 3, [frame 0x351#11 [0x32#8, 200#8, 0#8, 8#8] 4]) := by decide +kernel

/-- Row 4: an advert of channel 3 on C2's identifier. -/
theorem test_unknown_advert :
    let t := after (exec (.frameReceived .b (frame 0x341#11 [0x13#8, 200#8, 0#8, 8#8] 4)) listening)
    (t.counters.unknownAdverts.count, t.channels.records.c2.count) = (1#8, 2) := by decide +kernel

/-- Section 3.9's example, row 3: a fault flag takes C3 out of the usable set. -/
theorem test_faulted_channel :
    let s := truck 0
    let t := after (exec (.frameReceived .b (frame 0x342#11 [0x23#8, 60#8, 1#8] 3))
      { s with work := { s.work with routes := listening.work.routes } })
    (t.channels.records.c3.handshake, t.channels.derived.b, t.channels.records.c3.pressure) = (.fault, 210, 240) := by
  decide +kernel

/-- Section 3.9's example, row 4: the loss of C3's status sets its marker. -/
theorem test_status_loss :
    let t := after (exec (.statusLossExpiry .c3) (truck 0))
    (t.channels.records.c3.handshake, t.channels.records.c3.lostSinceRead, t.channels.records.c3.stale) =
      (.lost, true, none) := by decide +kernel

theorem test_status_stale :
    (after (exec (.statusStaleExpiry .c3) (truck 0))).channels.derived.b = 330 := by decide +kernel

/-! ### The path check (section 9.5's example) -/

/-- CHECKING, a level of a channel running at a settle count, C3 LOST, C4 lifted, C1 with a check state. -/
def checking (c : Chan) (l : Level) (settle : Nat) (c1 : CheckState) (p1 p2 : Nat) : State :=
  let s := truckAt .checking none .check 0 0 850
  { s with
    work := { s.work with routes := listening.work.routes }
    channels := ⟨.inForce, ⟨{ accepted 1#4 p1 with check := c1 }, { accepted 2#4 p2 with check := .unchecked },
      { accepted 3#4 0 with handshake := .lost, age := .lost }, accepted 4#4 0⟩, Derived.none⟩
    path := { s.path with testing := true, chan := some c, level := some l, settle := settle, timer := some ⟨750, 500⟩ } }

/-- 200 ms: the third settled frame passes LOW at 104 kPa, and MEDIUM starts. -/
theorem test_level_passes :
    let t := after (exec (.frameReceived .b (frame 0x340#11 [0x21#8, 26#8, 0#8] 3)) (checking .c1 .low 2 .unchecked 100 0))
    (t.path.level, t.path.settle, t.path.results.c1.low, t.path.timer) = (some .medium, 0, ⟨.pass, 104, true⟩, some ⟨0, 500⟩) := by
  decide +kernel

/-- 50 ms: 48 kPa lies outside the tolerance. -/
theorem test_unsettled_frame :
    (after (exec (.frameReceived .b (frame 0x340#11 [0x21#8, 12#8, 0#8] 3))
      (checking .c1 .low 2 .unchecked 100 0))).path.settle = 0 := by decide +kernel

/-- 600 ms: HIGH passes: C1 PASSED, B 90, C2 under test at LOW. -/
theorem test_channel_passes :
    let t := after (exec (.frameReceived .b (frame 0x340#11 [0x21#8, 125#8, 0#8] 3)) (checking .c1 .high 2 .unchecked 496 0))
    (t.channels.records.c1.check, t.channels.derived.b, t.path.chan, t.path.level, t.sup.state) =
      (.passed, 90, some .c2, some .low, .checking) := by decide +kernel

/-- R145: the next level starts with a frame of its own, though its pressure is the last frame's: 150 and 151 are both
152. -/
theorem test_equal_level_makes_a_frame :
    let s := checking .c1 .low 2 .unchecked 152 0
    let t := after (exec (.frameReceived .b (frame 0x340#11 [0x21#8, 38#8, 0#8] 3)) { s with
      work := { s.work with settings := { s.work.settings with lowLevel := 150, mediumLevel := 151 } }
      merger := { s.merger with
        lastComponent := ⟨152, 0, 0, 0⟩
        driver := { s.merger.driver with last := some ⟨.ext 0x0C2A1E10#29, []⟩ } } })
    (t.path.level, t.merger.rolling, t.merger.slotA.state) = (some .medium, 1#4, .loaded) := by decide +kernel

/-- 1250 ms: C2 fails MEDIUM at 236 kPa; the run has ended and the supervisor enters STANDBY. -/
theorem test_level_timeout :
    let t := after (exec .levelTimerExpiry
      { (checking .c2 .medium 0 .passed 0 236) with channels := { (checking .c2 .medium 0 .passed 0 236).channels with
          derived := ⟨⟨true, false, false, false⟩, 90, some 800⟩ } })
    (t.path.results.c2.medium, t.path.results.c2.high, t.path.lastRun) =
      (⟨.fail, 236, true⟩, ⟨.notRun, 0, true⟩, .ended) ∧
    (t.channels.records.c2.check, t.sup.state, t.sup.reason) = (.failed, .standby, .none) := by decide +kernel

/-! ### Arbiters, slots, sleep, store -/

/-- Port B with a LOADED slot A, an accept frame and a V-to-B frame waiting. -/
def waiting : State :=
  { part .standby with
    vToB := [frame 3#11 [] 0]
    merger := { Merger.start with
      control := [frame 2#11 [] 0], slotA := ⟨.loaded, none, some (frame 1#11 [] 0), some .newer, some ⟨0, 40⟩⟩ } }

/-- R19: the slot is first. -/
theorem test_port_b_offers_the_slot_first :
    (after (exec (.transmitAttemptStart .b) waiting)).portB.attempt = some ⟨.slot .a, frame 1#11 [] 0⟩ := by decide +kernel

/-- R20: a reply is first. -/
theorem test_port_v_offers_the_reply_first :
    (after (exec (.transmitAttemptStart .v) { part .standby with
      bToV := [frame 3#11 [] 0]
      resp := { Responder.start with replies := [⟨frame 1#11 [] 0, false⟩], cab := .waiting (frame 2#11 [] 0) } })).portV.attempt =
      some ⟨.reply, frame 1#11 [] 0⟩ := by decide +kernel

theorem test_discard :
    let t := after (exec (.slotDiscardExpiry .a) waiting)
    (t.merger.slotA, t.counters.slotDiscards.count) = (Slot.start, 1#8) := by decide +kernel

/-- R121: a refresh in a hold raises the rolling count. -/
theorem test_refresh :
    let t := after (exec .refreshTimerExpiry { truck 0 with merger := { (truck 0).merger with refresh := some ⟨0, 20⟩ } })
    (t.merger.rolling, t.merger.refresh) = (1#4, some ⟨20, 20⟩) := by decide +kernel

/-- R116: a LOST driver demand record takes part with 0. -/
theorem test_driver_demand_loss :
    let t := after (exec .driverDemandLossExpiry stopped)
    (t.driverDemand .c1, t.merger.driver.demands.c1, t.merger.driver.age) = (0, 320, .lost) := by decide +kernel

theorem test_driver_demand_stale :
    (after (exec .driverDemandStaleExpiry stopped)).driverDemand .c1 = 320 := by decide +kernel

/-- R171: KEY falling in STANDBY starts the sleep delay timer; its expiry is sleep; KEY rising is wake. -/
theorem test_sleep_and_wake :
    let s := after (exec .keyFall (part .standby))
    let t := after (exec .sleepDelayExpiry s)
    (s.sleepTimer, t.asleep, (after (exec .wake t)).sup.state) = (some ⟨0, 2000⟩, true, .unavailable) := by decide +kernel

/-- R161, R171: the reply of a RESTART in attempt FAILS at the entry of sleep, and the part resets. -/
theorem test_restart_fails_at_sleep :
    let s := after (exec .restart (part .standby))
    let t := after (exec (.transmitAttemptStart .v) { s with sleepTimer := some ⟨0, 2000⟩ })
    ((after (exec .sleepDelayExpiry t)).start, (after (exec .sleepDelayExpiry t)).asleep) = (some .warm, false) := by
  decide +kernel

theorem test_key_rise_stops_the_delay :
    (after (exec .keyRise (after (exec .keyFall (part .standby))))).sleepTimer = none := by decide +kernel

/-- R91, R102: KEY falling in HOLDING. -/
theorem test_key_fall_secures :
    ((after (exec .keyFall (truck 0))).sup.state, (after (exec .keyFall (truck 0))).sup.reason) = (.securing, .keyOff) := by
  decide +kernel

/-- R135: no confirmation in time. -/
theorem test_park_overdue :
    let s := truckAt .securing (some (truckHold 1)) .secure 220 120 850
    let t := after (exec .parkConfirmExpiry { s with park := { s.park with timer := some ⟨0, 1500⟩ } })
    (t.park.conf, t.store.marker, t.store.cell, t.counters.unconfirmedSecures.count) = (.overdue, true, true, 1#8) := by
  decide +kernel

/-- R88: the hold limit. -/
theorem test_hold_limit :
    ((after (exec .holdLimitExpiry (truck 0))).sup.state, (after (exec .holdLimitExpiry (truck 0))).sup.reason) =
      (.securing, .holdLimit) := by decide +kernel

/-- Section 5.12 row 13: the ramp ends. -/
theorem test_ramp_ends :
    let t := after (exec .rampTimerExpiry (rolling .releasing 0 0 0 0 0 (some ⟨168, ⟨0, 600⟩, .uphill⟩)))
    (t.sup.state, t.sup.reason, t.sup.ctx, t.merger.mode) = (.standby, .none, none, .none) := by decide +kernel

/-- Section 5.12 row 12: 300 ms into the ramp the value is 84 kPa. -/
theorem test_ramp_value : (⟨168, ⟨0, 600⟩, .uphill⟩ : Release).value 300 = 84 := by decide +kernel

/-- R166: a blank store's image is bad, so the first load leaves the part UNAVAILABLE with reason STORE. -/
theorem test_first_load :
    ((after (exec .loadEnd State.reset)).store.imageGood, (after (exec .loadEnd State.reset)).sup.reason) =
      (false, .store) := by decide +kernel

/-- R168: a save's image is good. -/
theorem test_save_is_good :
    (after (exec .saveComplete (after (exec .save (part .standby))))).store.image.good = true := by decide +kernel

theorem test_power_loss_cuts_a_save :
    (after (exec .powerLoss (after (exec .save (part .standby))))).store.lastSave = .cut := by decide +kernel

/-! ### Management (chapters 10 and 12) -/

/-- The reply bytes a command brings. -/
def reply (s : State) : Option (List Byte) := s.resp.replies.getLast?.map fun r => r.frame.data

/-- R174: STATUS index 0 field 0 is the supervisor's state, HOLDING 3. -/
theorem test_read_state :
    reply (after (exec (.read 6#8 0#8 0#8) (truck 0))) = some [1#8, 0#8, 6#8, 0#8, 3#8, 0#8, 0#8, 0#8] := by decide +kernel

/-- R174: indices 12 to 15 hold no fields. -/
theorem test_read_bad_item :
    reply (after (exec (.read 6#8 12#8 0#8) (truck 0))) = some [1#8, 1#8, 6#8, 12#8, 0#8, 0#8, 0#8, 0#8] := by decide +kernel

/-- R157: a WRITE in HOLDING is BUSY with the stored value, 18. -/
theorem test_write_busy :
    reply (after (exec (.writeSetting 2#8 20#32) (truck 0))) = some [2#8, 3#8, 0#8, 0#8, 18#8, 0#8, 0#8, 0#8] := by
  decide +kernel

/-- R16: a high water mark at the low one is refused with BAD-VALUE. -/
theorem test_write_bad_value :
    reply (after (exec (.writeSetting 2#8 10#32) (part .standby))) = some [2#8, 2#8, 0#8, 0#8, 18#8, 0#8, 0#8, 0#8] := by
  decide +kernel

theorem test_write_setting :
    (after (exec (.writeSetting 2#8 20#32) (part .standby))).work.settings.highWater = 20 := by decide +kernel

/-- R174: a role's number: GRADE 1. R54: with LIFT_AXLE unbound C4 is not lifted, and B is 330 + 80. -/
theorem test_write_signal_role :
    ((after (exec (.writeSignalEntry 0#8 0#8 1#32) (part .standby))).work.signals.get 0).role = .grade ∧
    (stopped.channels.derived.b, (after (exec (.writeSignalEntry 5#8 0#8 0#32) stopped)).channels.derived.b) =
      (330, 410) := by decide +kernel

/-- R174: a list with a number after an FFh is refused. -/
theorem test_write_extraction_list :
    reply (after (exec (.writeRouteEntry 0#8 7#8 0xFFFF05FF#32) (part .standby))) =
      some [2#8, 2#8, 1#8, 0#8, 0xFF#8, 0xFF#8, 0xFF#8, 0xFF#8] := by decide +kernel

/-- R174: a 29-bit identifier's compound form. -/
theorem test_write_channel_identifier :
    (after (exec (.writeChannelEntry 2#8 1#8 0x8C2A1E10#32) (part .standby))).work.channels.c2.frameId =
      .ext 0x0C2A1E10#29 := by decide +kernel

theorem test_write_breakpoint :
    ((after (exec (.writeCurveBreakpoint .grade 7#8 0#8 450#32) (part .standby))).work.gradeCurve.get 7).x = 450 := by
  decide +kernel

/-- R21: READ-CLEAR returns the count and clears it. -/
theorem test_read_clear_counter :
    let s := { part .standby with counters := Counters.zero.set .secures ⟨7#8, false⟩ }
    let t := after (exec (.readClearCounter 14#8) s)
    (reply t, t.counters.secures.count) = (some [3#8, 0#8, 7#8, 0#8, 7#8, 0#8, 0#8, 0#8], 0#8) := by decide +kernel

/-- R50: the lost-since-read marker is returned and cleared. -/
theorem test_read_lost_since_read :
    let t := after (exec (.readLostSinceRead 3#8) (after (exec (.statusLossExpiry .c3) (truck 0))))
    (reply t, t.channels.records.c3.lostSinceRead) = (some [1#8, 0#8, 5#8, 3#8, 1#8, 0#8, 0#8, 0#8], false) := by
  decide +kernel

/-- Section 9.5: C1 LOW PASS 104 kPa with its marker set. -/
theorem test_read_clear_check_result :
    let s := part .standby
    let t := after (exec (.readClearCheckResult 1#8 0#8)
      { s with path := { s.path with results := s.path.results.set .c1 ⟨⟨.pass, 104, true⟩, ⟨.none, 0, false⟩, ⟨.none, 0, false⟩⟩ } })
    (reply t, t.path.results.c1.low.updated) = (some [3#8, 0#8, 8#8, 1#8, 1#8, 104#8, 0#8, 1#8], false) := by decide +kernel

/-- R24, R83: GRADE unbound by a write: the signal table is SUSPENDED and the supervisor UNAVAILABLE with reason CONFIG,
though the wheels rest and the driver brakes. -/
theorem test_write_invalidates_the_signal_table :
    let s := { stopped with creep := { stopped.creep with restHolds := true } }
    let t := after (exec (.writeSignalEntry 0#8 0#8 0#32) s)
    (t.signals.state, t.sup.state, t.sup.reason) = (.suspended, .unavailable, .config) := by decide +kernel

/-- R157: a WRITE to a channel's record fields is no WRITE to a read-only group: BUSY in a hold, else OK with the value
held and BAD-VALUE with another. -/
theorem test_write_channel_record_field :
    let answer (st : SupState) (v : Word32) :=
      (reply (after (exec (.writeChannelEntry 1#8 13#8 v) (part st)))).map fun b => b.take 2
    (answer .securing 0#32, answer .standby 0#32, answer .standby 1#32) =
      (some [2#8, 3#8], some [2#8, 0#8], some [2#8, 2#8]) := by decide +kernel

/-- R157: an identifier above 7FFh that an entry holds after its format is written to 11 bits is written again: OK; the
next one is BAD-VALUE. -/
theorem test_write_held_identifier :
    let s := routed .standby ⟨true, .v, true, 0x12345#29, 0x1FFFFFFF#29, .pass, false, []⟩
    let t := after (exec (.writeRouteEntry 0#8 2#8 0#32) s)
    ((reply (after (exec (.writeRouteEntry 0#8 3#8 0x12345#32) { t with resp := s.resp }))).map fun b => b.take 2,
      (reply (after (exec (.writeRouteEntry 0#8 3#8 0x12346#32) { t with resp := s.resp }))).map fun b => b.take 2) =
      (some [2#8, 0#8], some [2#8, 2#8]) := by decide +kernel

/-- R162: no request arrives while Port V is OFF-BUS. -/
theorem test_no_request_off_bus :
    let s := { part .standby with portV := ⟨255, 0, .offBus, 0, none⟩ }
    (after (exec .save s)).store.op = .idle ∧ (after (exec .save s)).resp.replies = [] := by decide +kernel

/-- R160: ABORT-CHECK without a run is DENIED. -/
theorem test_abort_check_denied :
    reply (after (exec .abortCheck (part .standby))) = some [4#8, 4#8, 0#8, 0#8, 0#8, 0#8, 0#8, 0#8] := by decide +kernel

/-- R160: START-CHECK in HOLDING is BUSY. -/
theorem test_start_check_busy :
    reply (after (exec .startCheck (truck 0))) = some [4#8, 3#8, 0#8, 0#8, 0#8, 0#8, 0#8, 0#8] := by decide +kernel

/-- R160: RELOAD without the spring applied is DENIED. -/
theorem test_reload_denied :
    reply (after (exec .reload (truckAt .standby none .none 0 0 850))) = some [4#8, 4#8, 0#8, 0#8, 0#8, 0#8, 0#8, 0#8] := by
  decide +kernel

theorem test_clear_safe_start :
    let s := part .unavailable
    (after (exec .clearSafeStart { s with store := { s.store with marker := true, cell := true } })).store.cell = false := by
  decide +kernel

/-- R161: the restart timer runs for 100 ms. -/
theorem test_restart :
    (after (exec .restart (part .standby))).resp.restartTimer = some ⟨0, 100⟩ := by decide +kernel

theorem test_restart_timer :
    (after (exec .restartTimerExpiry (after (exec .restart (part .standby))))).start = some .warm := by decide +kernel

/-- R163: a cab status frame each 100 ms: HOLDING, NONE, 63 units, step 0, no flags. -/
theorem test_cab_status :
    let s := truck 0
    let t := after (exec .cabStatusPeriodExpiry { s with resp := { s.resp with period := some ⟨0, 100⟩ } })
    (t.resp.cab, t.resp.period) =
      (.waiting (frame 0x6F4#11 [3#8, 0#8, 63#8, 0#8, 0#8, 0#8, 0#8, 0#8] 8), some ⟨100, 100⟩) := by decide +kernel

theorem test_power_on_keeps_the_cell :
    let s := part .standby
    (after (exec .powerOnReset { s with store := { s.store with cell := true } })).store.marker = true := by decide +kernel

/-! ### Witnesses: for each statement with hypotheses, a state and operands that meet them together -/

theorem witness_PowerIsLostAndComesBack :
    ∀ op ∈ [Operation.saving, .loading, .idle],
      let s := { part .standby with store := { (part .standby).store with op := op, pendingCell := .write } }
      s.powered = true ∧ (s.store.op = .saving ↔ op = .saving) := by decide +kernel

theorem witness_WarmResetFollowsTheLatchRule :
    let s := { hold .holding 3 with resp := { Responder.start with restartTimer := some ⟨0, 100⟩ } }
    s.powered = true ∧ s.awake = true ∧ s.resp.restartTimer = some ⟨0, 100⟩ := by decide +kernel

theorem witness_KeyEdgesAreTaken_hold :
    ∀ st ∈ [SupState.holding, .releasing], (hold st 3).running = true ∧ (hold st 3).key = true ∧
      ((hold st 3).sup.state = .holding ∨ (hold st 3).sup.state = .releasing) := by decide +kernel

theorem witness_KeyEdgesAreTaken_checking :
    let s := checking .c1 .low 0 .passed 0 0
    let t := { s with channels := { s.channels with derived := ⟨⟨true, false, false, false⟩, 90, some 800⟩ } }
    (s.running = true ∧ s.key = true ∧ s.sup.state = .checking ∧ s.path.testing = true ∧
      s.unavailableReasons = [.noChannel]) ∧
    (t.running = true ∧ t.key = true ∧ t.sup.state = .checking ∧ t.path.testing = true ∧ t.unavailableReasons = []) := by
  decide +kernel

theorem witness_KeyEdgesAreTaken_resting :
    ∀ st ∈ [SupState.unavailable, .standby, .securing, .secured], (part st).running = true ∧ (part st).key = true ∧
      (part st).path.testing = false ∧ (part st).sup.handover = false ∧ (part st).sleepTimer = none ∧
      ((part st).sup.state = .unavailable ∨ (part st).sup.state = .standby ∨ (part st).sup.state = .securing ∨
        (part st).sup.state = .secured) := by decide +kernel

theorem witness_KeyEdgesAreTaken_rise :
    let s := { part .secured with key := false, sleepTimer := some ⟨0, 2000⟩ }
    s.running = true ∧ s.key = false ∧ s.sup.state ≠ .unavailable ∧ s.sup.state ≠ .standby := by decide +kernel

theorem witness_SleepDelayExpiryEntersSleep :
    (let s := { waiting with key := false, sleepTimer := some ⟨0, 2000⟩
                             portB := { waiting.portB with attempt := some ⟨.slot .a, frame 1#11 [] 0⟩ }
                             portV := { waiting.portV with attempt := some ⟨.cab, frame 1#11 [] 0⟩ }
                             resp := { waiting.resp with cab := .sending (frame 1#11 [] 0) } }
     s.awake = true ∧ s.sleepTimer = some ⟨0, 2000⟩ ∧ s.portV.attempt = some ⟨.cab, frame 1#11 [] 0⟩ ∧
       s.portB.attempt = some ⟨.slot .a, frame 1#11 [] 0⟩ ∧ s.resp.cab = .sending (frame 1#11 [] 0) ∧
       s.resp.renew = false) ∧
    ∀ flag ∈ [false, true],
      let s := { part .standby with
        key := false, sleepTimer := some ⟨0, 2000⟩
        portV := ⟨0, 0, .active, 0, some ⟨.reply, frame 1#11 [] 0⟩⟩
        resp := { Responder.start with replies := [⟨frame 1#11 [] 0, flag⟩] } }
      s.awake = true ∧ s.sleepTimer = some ⟨0, 2000⟩ ∧ s.portV.attempt = some ⟨.reply, frame 1#11 [] 0⟩ ∧
        s.resp.replies = [⟨frame 1#11 [] 0, flag⟩] := by decide +kernel

theorem witness_WakeTakesItsStartFromTheLatch :
    ∀ st ∈ [SupState.standby, .secured],
      let s := { part st with asleep := true, key := false, park := ⟨st.prq, st.isHold, .idle, none⟩ }
      s.powered = true ∧ s.asleep = true ∧ s.park.prq = decide (st = .secured) := by decide +kernel

theorem witness_LoadEndOfAStartGivesTheStartingState :
    ∀ prq ∈ [true, false],
      let s := { State.reset with park := { Park.start with prq := prq } }
      s.awake = true ∧ s.store.op = .loading ∧ s.start = some .powerOn ∧ s.sup.state = .unavailable ∧
        s.park.prq = prq := by decide +kernel

theorem witness_LoadEndOfAReloadTakesTheImage :
    let s := { part .unavailable with store := { (part .unavailable).store with op := .loading } }
    s.awake = true ∧ s.store.op = .loading ∧ s.start = none := by decide +kernel

theorem witness_SaveCompleteStoresTheCopy :
    let s := { part .standby with store := { (part .standby).store with op := .saving, copy := some Working.blank } }
    s.awake = true ∧ s.store.op = .saving ∧ s.store.copy = some Working.blank := by decide +kernel

theorem witness_ErrorsAndRecoveryMoveTheCounts_errors :
    (portB 247 .passive).awake = true ∧ ((portB 247 .passive).port .b).onBus = true ∧
      ((portB 247 .passive).port .b).txErr + 8 ≤ 255 := by decide +kernel

/-- Nothing in the slots or in attempt. -/
theorem slotted_of_idle {s : State} (v : s.portV.attempt = none) (b : s.portB.attempt = none)
    (x : s.merger.slotA = Slot.start) (y : s.merger.slotB = Slot.start) : s.Slotted := by
  constructor
  · intro _ n
    cases n <;> constructor <;> simp [Merger.slot, x, y, b, Slot.start]
  · simp [x, Slot.start]
  · simp [v]
  · simp [b]

theorem witness_BusOffFailsItsSource_portB :
    (∀ src ∈ [Source.slot .a, .control, .vToB], ∀ st ∈ [SupState.unavailable, .standby, .checking, .securing, .secured],
      let s := { part st with portB := ⟨248, 0, .passive, 0, some ⟨src, frame 1#11 [] 0⟩⟩ }
      s.awake = true ∧ s.portB.onBus = true ∧ 255 < s.portB.txErr + 8 ∧ s.sup.state = st ∧ s.sup.handover = false) ∧
    (let s := { handing with portB := ⟨255, 0, .passive, 0, none⟩ }
     (s.awake = true ∧ s.portB.onBus = true ∧ 255 < s.portB.txErr + 8 ∧ s.sup.state = .secured ∧
       s.sup.handover = true) ∧ s.Slotted) ∧
    (∀ st ∈ [SupState.holding, .releasing],
      let s := { hold st 3 with portB := ⟨255, 0, .passive, 0, none⟩ }
      (s.awake = true ∧ s.portB.onBus = true ∧ 255 < s.portB.txErr + 8 ∧ s.sup.state = st) ∧ s.Slotted) := by
  refine ⟨by decide +kernel, ⟨by decide +kernel, slotted_of_idle rfl rfl rfl rfl⟩,
    fun st h => ⟨?_, slotted_of_idle rfl rfl rfl rfl⟩⟩
  revert st
  decide +kernel

theorem witness_BusOffFailsItsSource_portV :
    ∀ a ∈ [none, some Source.reply, some .cab, some .bToV], ∀ flag ∈ [false, true],
      let s := { part .standby with
        portV := ⟨248, 0, .passive, 0, a.map fun src => ⟨src, frame 1#11 [] 0⟩⟩
        resp := { Responder.start with replies := [⟨frame 1#11 [] 0, flag⟩], renew := flag } }
      s.awake = true ∧ s.portV.onBus = true ∧ 255 < s.portV.txErr + 8 ∧
        s.portV.attempt = a.map (fun src => ⟨src, frame 1#11 [] 0⟩) ∧
        s.resp.replies = [⟨frame 1#11 [] 0, flag⟩] ∧ s.resp.renew = flag := by decide +kernel

theorem witness_ErrorsAndRecoveryMoveTheCounts_recovery :
    ∀ n ∈ [126, 127],
      let s := { part .standby with portB := ⟨255, 0, .offBus, n, none⟩ }
      s.awake = true ∧ (s.port .b).mode = .offBus ∧ ((s.port .b).recovery < 127 ↔ n = 126) := by decide +kernel

theorem witness_ArbitersGiveTheFirstReady_slots :
    let s := { waiting with merger := { waiting.merger with
      slotA := ⟨.loaded, none, some (frame 1#11 [] 0), some .newer, none⟩
      slotB := ⟨.loaded, none, some (frame 4#11 [] 0), some .older, none⟩ } }
    s.running = true ∧ s.portB.onBus = true ∧ s.portB.attempt = none ∧ (s.merger.slot .b).state = .loaded ∧
      (s.merger.slot .b).frame = some (frame 4#11 [] 0) ∧ (s.merger.slot .b).order = some .older ∧
      (s.merger.slot SlotName.b.other).order = some .newer := by decide +kernel

theorem witness_ArbitersGiveTheFirstReady_queues :
    let s := { waiting with merger := { waiting.merger with slotA := Slot.start } }
    let t := { s with merger := { s.merger with control := [] } }
    (s.portB.attempt = none ∧ s.merger.slotA.state ≠ .loaded ∧ s.merger.slotB.state ≠ .loaded ∧
      s.merger.control = [frame 2#11 [] 0]) ∧ t.merger.control = [] ∧ t.vToB = [frame 3#11 [] 0] := by decide +kernel

theorem witness_ArbitersGiveTheFirstReady_portV :
    let s := { part .standby with
      bToV := [frame 3#11 [] 0], resp := { Responder.start with replies := [⟨frame 1#11 [] 0, false⟩] } }
    let t := { s with resp := { Responder.start with cab := .waiting (frame 2#11 [] 0) } }
    let u := { s with resp := Responder.start }
    (s.running = true ∧ s.portV.onBus = true ∧ s.portV.attempt = none ∧ s.resp.replies ≠ []) ∧
    (t.resp.replies = [] ∧ t.resp.cab = .waiting (frame 2#11 [] 0)) ∧
    (u.resp.replies = [] ∧ u.resp.cab = .empty ∧ u.bToV = [frame 3#11 [] 0]) := by decide +kernel

theorem witness_FrameSentReleasesItsSource_portB :
    ∀ src ∈ [Source.slot .b, .control, .vToB],
      let s := { waiting with portB := ⟨0, 0, .active, 0, some ⟨src, frame 1#11 [] 0⟩⟩ }
      s.running = true ∧ s.portB.attempt = some ⟨src, frame 1#11 [] 0⟩ := by decide +kernel

theorem witness_FrameSentReleasesItsSource_portV :
    ∀ src ∈ [Source.reply, .cab, .bToV], ∀ flag ∈ [true, false],
      let s := { part .standby with
        portV := ⟨0, 0, .active, 0, some ⟨src, frame 1#11 [] 0⟩⟩
        resp := { Responder.start with replies := [⟨frame 1#11 [] 0, flag⟩], renew := flag } }
      s.running = true ∧ s.portV.attempt = some ⟨src, frame 1#11 [] 0⟩ ∧ s.resp.requests = [] ∧
        s.resp.replies = [⟨frame 1#11 [] 0, flag⟩] ∧ s.resp.renew = flag := by decide +kernel

/-- Four replies, the first sent, and two requests that wait. -/
def answering (q : Frame) : State :=
  { part .standby with
    portV := ⟨0, 0, .active, 0, some ⟨.reply, frame 1#11 [] 0⟩⟩
    resp := { Responder.start with
      replies := List.replicate 4 ⟨frame 1#11 [] 0, false⟩, requests := [q, frame 0x6F0#11 [] 0] } }

theorem witness_FrameSentReleasesItsSource_waiting :
    let q := requestFrame (.std 0x6F0#11) 4#8 0#8 0#8 4#8 0#32
    let s := answering q
    (s.running = true ∧ s.portV.attempt = some ⟨.reply, frame 1#11 [] 0⟩ ∧ s.resp.replies.length = 4 ∧
      s.resp.replies.map (·.restart) = [false, false, false, false] ∧ s.resp.requests = [q, frame 0x6F0#11 [] 0] ∧
      s.portV.mode ≠ .offBus) ∧
    requestOf .save = some (frameRequest q) ∧
    ∀ u : State, u.Refuses (frameRequest (frame 0x6F0#11 [] 0)) .badItem 0#32 :=
  ⟨by decide +kernel, by decide, fun _ => .short _ rfl⟩

theorem witness_OfferedFramesJoinOrAreCounted_default :
    ∀ p ∈ [Port.v, .b], ∀ d ∈ [DefaultAction.pass, .drop], ∀ n ∈ [23, 24],
      let s := { queued n false with
        bToV := List.replicate n (frame 0x121#11 [] 0)
        work := { (queued n false).work with settings := { Settings.default with portVDefault := d, portBDefault := d } } }
      s.running = true ∧ (s.port p).onBus = true ∧ s.route.state = .inForce ∧
        s.matchEntry p (frame 0x7#11 [] 0) = none ∧ (frame 0x7#11 [] 0).id ≠ s.work.settings.requestId ∧
        s.work.settings.defaultAction p = d ∧ s.vToB.length = n ∧ s.bToV.length = n := by decide +kernel

/-- HandsTo from its parts. -/
theorem handsTo_of (s : State) (p : Port) (f : Frame) (a : Action) (e : RouteEntry)
    (h : s.running = true ∧ (s.port p).onBus = true ∧ s.route.state = .inForce ∧ f.remote = false)
    (m : s.matchEntry p f = some e) (x : e.action = a ∧ e.extract = [] ∧ e.alsoPass = false) : s.HandsTo p f a :=
  ⟨h.1, h.2.1, h.2.2.1, h.2.2.2, e, m, x⟩

theorem witness_OfferedFramesJoinOrAreCounted_shed :
    ∀ n, ∀ shedding, (queued n shedding).HandsTo .v (frame 0x120#11 [] 0) .passShed := fun _ _ =>
  handsTo_of _ _ _ _ (entry .v 0x120#29 .passShed []) ⟨rfl, rfl, rfl, rfl⟩
    (show (queued 0 false).matchEntry .v (frame 0x120#11 [] 0) = _ by decide +kernel) ⟨rfl, rfl, rfl⟩

theorem witness_LowestMatchingEntryActs :
    (queued 0 false).matchEntry .v (frame 0x121#11 [] 0) = none ∧
    ∀ a ∈ [Action.pass, .passShed, .take, .merge, .channel, .manage], ∀ also ∈ [false, true],
      let e : RouteEntry := { entry .v 0x120#29 a [] with alsoPass := also }
      let s := routed .standby e
      s.running = true ∧ (s.port .v).onBus = true ∧ s.route.state = .inForce ∧
        ∀ f ∈ [frame 0x120#11 (List.replicate 8 1#8) 8, frame 0x120#11 (List.replicate 7 1#8) 7,
            ⟨.std 0x120#11, true, 8, []⟩],
          s.matchEntry .v f = some e := by decide +kernel

theorem witness_SuspendedTableStillTakesTheDriverDemand :
    ∀ d ∈ [DefaultAction.pass, .drop],
      let s := { part .standby with
        route := ⟨.suspended, some (.std 0x123#11)⟩
        work := { Working.blank with settings := { Settings.default with portVDefault := d, portBDefault := d } } }
      (s.running = true ∧ (s.port .v).onBus = true ∧ (s.port .b).onBus = true ∧ s.route.state = .suspended ∧
        s.route.mergeId = some (.std 0x123#11) ∧ s.work.settings.requestId = .std 0x6F0#11 ∧
        (frame 0x123#11 (List.replicate 8 1#8) 8).id = .std 0x123#11 ∧ (frame 0x123#11 [] 7).dlc.val ≠ 8) ∧
      (s.route.mergeId ≠ some (frame 0x7#11 [] 0).id ∧ s.work.settings.requestId ≠ (frame 0x7#11 [] 0).id ∧
        s.work.settings.defaultAction .v = d ∧ s.work.settings.defaultAction .b = d) := by decide +kernel

theorem witness_RawFieldIsAssembledBitByBit :
    ∀ big ∈ [true, false],
      let e : SigEntry := ⟨.grade, if big then 2 else 5, 7, 16, big, false, 0, 0, 10, 10, none⟩
      e.bitOff ≤ 7 ∧ 1 ≤ e.length ∧ e.length ≤ 16 ∧ e.fits = true := by decide +kernel

theorem witness_ScaledValueIsRoundedAndClamped : (truckSignals.get 0).role.isWheel = false := by decide +kernel

theorem witness_WheelValueIsTheRawCount :
    (truckSignals.get 6).role = .wheel .w2 ∧ (truckSignals.get 6).dirSub = some (1, 0) ∧
    (truckSignals.get 7).role = .wheel .w4 ∧ (truckSignals.get 7).dirSub = none := by decide +kernel

theorem witness_ExtractionRenewsOrCounts :
    ∀ l ∈ [[(1 : Fin 20)], [1, 1, 1, 1]],
      let r := entry .v 0x120#29 .take l
      let s := taking (truck 0) 1
      let s := { s with work := { s.work with routes := s.work.routes.set 0 r } }
      let e := s.work.signals.get 1
      (s.running = true ∧ (s.port .v).onBus = true ∧ s.route.state = .inForce ∧ s.signals.state = .inForce ∧
        s.matchEntry .v (frame 0x120#11 [] 0) = some r ∧ r.action = .take ∧ r.extract ≠ [] ∧ (∀ j ∈ r.extract, j = 1) ∧
        e.role ≠ .none) ∧
      (e.short 5 = true ∧ e.short 6 = false ∧ e.noData (List.replicate 6 0xFF#8) = true ∧
        e.noData (List.replicate 6 0xFE#8) = false) := by decide +kernel

/-- The consumers' clauses: an entry of each role, values 0 and 1, after a record of 0 and of 1. -/
theorem witness_ExtractionRenewsOrCounts_role :
    ∀ r ∈ [Role.grade, .payload, .drumSpeed, .reservoir, .engineTorque, .gearRatio, .parkStatus, .parkReleaseReq,
        .driverPresent, .pendantActive, .holdInhibit, .liftAxle, .wheel .w1],
      let e : SigEntry := ⟨r, 4, 0, 16, false, false, 1024, 0, 100, 300, none⟩
      let s := { taking (truck 0) 1 with work := { (taking (truck 0) 1).work with signals := truckSignals.set 1 e } }
      s.work.signals.get 1 = e ∧ e.short 6 = false ∧
      ∀ x ∈ [0#8, 1#8], e.noData [0#8, 0#8, 0#8, 0#8, x, 0#8] = false ∧
        (e.value [0#8, 0#8, 0#8, 0#8, x, 0#8] = 1 ↔ x = 1#8) ∧
        ∀ y ∈ [(0 : Int), 1], (rec y).age ≠ .lost ∧ ((rec y).value = 1 ↔ y = 1) := by decide +kernel

theorem witness_SignalExpiriesAgeTheRecord :
    (truck 0).awake = true ∧ ((truck 0).signals.records.get 3).stale = some ⟨0, 100⟩ ∧
      ((truck 0).signals.records.get 3).loss = some ⟨0, 300⟩ ∧ ((truck 0).signals.records.get 3).age = .fresh := by
  decide +kernel

theorem witness_GradeAndPayloadAreFiltered :
    ([218, 222, 219, 240] : List Int).length < 5 ∧ ([218, 222, 219, 240, 221] : List Int).length = 5 ∧
    (2000 : Nat) ≤ Settings.default.maxPayload ∧ 1999 < 2000 := by decide

theorem witness_GradeAndPayloadAreFiltered_lost :
    (truck 0).awake = true ∧ ((truck 0).signals.records.get 1).loss = some ⟨0, 300⟩ ∧
      ((truck 0).signals.records.get 1).age ≠ .lost ∧ (truck 0).signals.bindings.get 1 = .payload := by decide +kernel

theorem witness_OppositeDrumSpeedOpensTheReversalWindow :
    let s := { truck 0 with signals := { (truck 0).signals with keptSign := .none } }
    let t := { truckAt .securing none .secure 220 120 850 with
      signals := { (truck 0).signals with reversal := some ⟨0, 8000⟩ } }
    (truck 0).signals.keptSign = .positive ∧ s.signals.keptSign = .none ∧
      (t.awake = true ∧ t.signals.reversal = some ⟨0, 8000⟩ ∧ t.sup.state = .securing) := by decide +kernel

theorem witness_StatusExpiriesAgeTheChannel :
    (truck 0).awake = true ∧ ((truck 0).channels.records.get .c3).stale = some ⟨0, 100⟩ ∧
      ((truck 0).channels.records.get .c3).loss = some ⟨0, 300⟩ ∧ ((truck 0).channels.records.get .c3).age = .fresh ∧
      ((truck 0).channels.records.get .c3).handshake ≠ .absent := by decide +kernel

/-- The entry that hands C1 to C4's frames to the channel block. -/
def channelEntry : RouteEntry := ⟨true, .b, false, 0x340#29, 0x7FC#29, .channel, false, []⟩

/-- A truck whose modulator frames reach the channel block. -/
def heard (step : Nat) : State := { truck step with work := { truckWork with routes := listening.work.routes } }

theorem listening_hands (data : List Byte) (dlc : Fin 9) : listening.HandsTo .b (frame 0x341#11 data dlc) .channel :=
  handsTo_of _ _ _ _ channelEntry ⟨rfl, rfl, rfl, rfl⟩
    (show listening.matchEntry .b (frame 0x341#11 [] 0) = _ by decide +kernel) ⟨rfl, rfl, rfl⟩

theorem heard_hands (step : Nat) (data : List Byte) (dlc : Fin 9) :
    (heard step).HandsTo .b (frame 0x342#11 data dlc) .channel :=
  handsTo_of _ _ _ _ channelEntry ⟨rfl, rfl, rfl, rfl⟩
    (show (heard 0).matchEntry .b (frame 0x342#11 [] 0) = _ by decide +kernel) ⟨rfl, rfl, rfl⟩

theorem witness_ThirdIdenticalAdvertIsAccepted :
    ∀ top ∈ [1#8, 250#8],
      let f := frame 0x341#11 [0x12#8, top, 0#8, 8#8] 4
      let r := { listening.channels.records.c2 with advert := some (frameAdvert f) }
      let s := { listening with channels := { listening.channels with records := listening.channels.records.set .c2 r } }
      s.channels.state = .inForce ∧ frameKind f = 1#4 ∧ 4 ≤ f.dlc.val ∧ s.identifierChannel f.id = some .c2 ∧
      (frameChannel f).toNat = Chan.c2.number ∧ 1 ≤ (byteAt f.data 1).toNat ∧ (byteAt f.data 1).toNat ≤ 250 ∧
      (s.channels.records.get .c2).handshake = .listening ∧ (s.channels.records.get .c2).count = 2 ∧
      (s.channels.records.get .c2).advert = some (frameAdvert f) ∧ s.merger.control.length < 4 := by decide +kernel

/-- The other adverts: each handshake state, the copy identical, different or absent, the control queue with room or full. -/
theorem witness_ThirdIdenticalAdvertIsAccepted_others :
    ∀ h ∈ [Handshake.accepted, .short, .fault, .listening, .lost], ∀ n ∈ [3, 4],
      let f := frame 0x341#11 [0x12#8, 200#8, 0#8, 8#8] 4
      ∀ copy ∈ [some (frameAdvert f), some ⟨2#4, 200#8, false, 7#8⟩, none],
        let r : ChannelRecord := { listening.channels.records.c2 with handshake := h, count := 1, advert := copy }
        let s := { listening with
          channels := { listening.channels with records := listening.channels.records.set .c2 r }
          merger := { listening.merger with control := List.replicate n (frame 2#11 [] 0) } }
        let s := s.rework
        s.channels.derived = s.deriveChannels ∧ s.identifierChannel f.id = some .c2 ∧ frameKind f = 1#4 ∧
          (frameChannel f).toNat = Chan.c2.number ∧ (s.channels.records.get .c2).handshake = h ∧
          (s.channels.records.get .c2).advert = copy ∧ (s.channels.records.get .c2).count < 2 := by decide +kernel

theorem witness_AdvertsThatDifferLoseTheCheck_changed :
    let r := accepted 2#4 240
    let a : Advert := ⟨2#4, 200#8, false, 8#8⟩
    r.handshake ≠ .absent ∧ r.advert = some ⟨2#4, 200#8, false, 7#8⟩ ∧ a.revision ≠ 7#8 := by decide +kernel

theorem witness_AdvertsThatDifferLoseTheCheck_unknown :
    ∀ bytes ∈ [[0x13#8, 200#8, 0#8, 8#8], [0x12#8, 0#8, 0#8, 8#8], [0x12#8, 251#8, 0#8, 8#8]],
      let f := frame 0x341#11 bytes 4
      listening.channels.state = .inForce ∧ frameKind f = 1#4 ∧ 4 ≤ f.dlc.val ∧
        listening.identifierChannel f.id = some .c2 ∧
        ((frameChannel f).toNat ≠ Chan.c2.number ∨ (byteAt f.data 1).toNat < 1 ∨ 250 < (byteAt f.data 1).toNat) := by
  decide +kernel

theorem witness_StatusFrameRenewsTheChannel :
    let f := frame 0x342#11 [0x23#8, 60#8, 1#8] 3
    ((heard 0).channels.state = .inForce ∧ frameKind f = 2#4 ∧ 3 ≤ f.dlc.val ∧
      (heard 0).identifierChannel f.id = some .c3 ∧ (frameChannel f).toNat = Chan.c3.number ∧
      ((heard 0).channels.records.get .c3).handshake = .accepted ∧ (byteAt f.data 2).getLsbD 0 = true) ∧
    (listening.channels.records.get .c2).handshake = .listening := by decide +kernel

theorem witness_UsableSetGivesTheBrakeFactorSum :
    (truck 0).deriveChannels.lowestMax = some 800 := by decide +kernel

theorem witness_RestTimerMakesTheWheelStill :
    stopped.awake = true ∧ (stopped.creep.wheels.get .w2).rest = .running ⟨0, 300⟩ := by decide +kernel

theorem witness_WheelSampleIsMovementOrGlitch :
    let s := rolling .holding 0 254 2 17 0 none
    ((s.creep.wheels.get .w2).last = some 254 ∧ 254 < 2 ^ s.wheelLength .w2 ∧ 1 ≤ s.wheelLength .w2) ∧
    (∀ count ∈ [254, 126, 127], count < 2 ^ s.wheelLength .w2) ∧
    (126 + 2 ^ s.wheelLength .w2 - 254 = 2 ^ (s.wheelLength .w2 - 1)) ∧
    (127 + 2 ^ s.wheelLength .w2 - 254 > 2 ^ (s.wheelLength .w2 - 1)) ∧
    (∀ st ∈ [SupState.holding, .standby],
      let s := truckAt st none .none 220 120 850
      (s.creep.wheels.get .w1).last = none ∧ s.sup.state.isHold = decide (st = .holding) ∧
        s.creep.restHolds = restCondition s.creep.wheels) := by decide +kernel

/-- WHEEL_2 leaves: of the two watched wheels one is left, of three two. -/
theorem witness_UnwatchedWheelLosesItsTracking :
    let s := truck 0
    let t := { s with signals := { s.signals with
      bindings := s.signals.bindings.set 10 (.wheel .w1), records := s.signals.records.set 10 (rec 5) } }
    (s.wheelWatched .w2 = true ∧ s.wheelWatched .w1 = false ∧ s.sup.ctx = some (truckHold 0) ∧
      (truckHold 0).wheels.w2 = some ⟨some 252, 0, 0⟩) ∧
    (s.awake = true ∧ s.signals.bindings.get 6 = .wheel .w2 ∧ s.signalOf (.wheel .w2) = some 6 ∧
      (s.signals.records.get 6).loss = some ⟨0, 300⟩ ∧ (s.signals.records.get 6).age ≠ .lost ∧ s.sup.state = .holding ∧
      s.creep.watchedCount = 2 ∧ (after (exec (.lossTimerExpiry 6) s)).creep.watchedCount = 1) ∧
    (t.signalOf (.wheel .w2) = some 6 ∧ t.sup.state = .holding ∧
      (after (exec (.lossTimerExpiry 6) t)).creep.watchedCount = 2) := by decide +kernel

theorem witness_MovementAccumulatesToCreep :
    let s := rolling .holding 0 254 2 17 0 none
    let e : WheelEntry := ⟨some 252, 2, 0⟩
    (s.sup.ctx.bind (fun c => c.wheels.get .w2) = some e ∧ s.sup.ctx.bind (fun c => c.uphill) = some .forward ∧
      s.work.settings.creepThreshold = 4 ∧ min (e.down + 1) 65535 = 3 ∧ min (e.down + 2) 65535 = 4) ∧
    (rolling .releasing 0 254 2 17 0 (some ⟨168, ⟨0, 600⟩, .uphill⟩)).sup.state = .releasing ∧
    ((s.creep.wheels.get .w2).last = some 254 ∧ 254 < 2 ^ s.wheelLength .w2 ∧ 1 ≤ s.wheelLength .w2 ∧
      s.sup.state.isHold = true ∧ s.path.testing = false ∧
      ∀ count ∈ [255, 126], count < 2 ^ s.wheelLength .w2 ∧
        (if 254 ≤ count then count - 254 else count + 2 ^ s.wheelLength .w2 - 254) ∈
          [1, 2 ^ (s.wheelLength .w2 - 1)]) := by decide +kernel

/-- At 40 per mille and 220 kPa every step is insufficient; at 850 kPa none is. -/
theorem witness_CreepEscalatesOrRollsAway :
    ∀ reservoir ∈ [(220 : Int), 850], ∀ step ∈ [2, 3], ∀ dir ∈ [ReleaseDir.uphill, .downhill],
      ∀ st ∈ [SupState.securing, .holding, .releasing, .secured],
      let c := { truckHold step with release := if st = .releasing then some ⟨168, ⟨0, 600⟩, dir⟩ else none }
      let s := truckAt st (some c) .hold 40 120 reservoir
      let raised : State := { s with sup := { s.sup with ctx := some { c with step := 3 } } }
      s.sup.ctx = some c ∧ c.step = step ∧ s.sup.state = st ∧ raised.evaluation.insufficient = decide (reservoir = 220) := by
  decide +kernel

theorem witness_RecordIsWorkedStageByStage :
    (let s := truck 3
     s.calculator.state = .inForce ∧ s.gf = some 220 ∧ 0 < s.channels.derived.b ∧
       s.channels.derived.lowestMax = some 800 ∧ curvesValid s.work.gradeCurve s.work.drumCurve = true) ∧
    (let s := { truck 3 with channels := { (truck 3).channels with derived := ⟨⟨true, true, true, false⟩, 330, none⟩ } }
     s.calculator.state = .inForce ∧ s.gf = some 220 ∧ 0 < s.channels.derived.b ∧ s.channels.derived.lowestMax = none) ∧
    (∀ v ∈ [(119 : Int), -120, 199, 200],
      (truckAt .holding none .hold 220 v 850).effective .drumSpeed = .value v true ∧
        (curvesValid truckWork.gradeCurve truckWork.drumCurve = true ∧ (truckWork.drumCurve.get 2).x ≤ v.natAbs)) ∧
    (let s := { truck 3 with signals := { (truck 3).signals with
       records := (truck 3).signals.records.set 2 { rec 0 with age := .lost } } }
     s.effective .drumSpeed = .lost ∧ s.calculator.state = .inForce) ∧
    ({ truck 3 with signals := { (truck 3).signals with window := [] } }.gf = none) ∧
    ((part .standby).calculator.state = .suspended ∧ (part .standby).channels.derived.b = 0) ∧
    (let s := { truck 3 with channels := { (truck 3).channels with derived := Derived.none } }
     s.calculator.state = .inForce ∧ s.gf = some 220 ∧ s.channels.derived.b = 0) := by decide +kernel

theorem witness_SlopeForceIsInterpolatedUpwards :
    curvesValid truckWork.gradeCurve truckWork.drumCurve = true ∧
    (truckWork.gradeCurve.get 7).x ≤ min (-450 : Int).natAbs 450 ∧
    ((truckWork.gradeCurve.get 4).x ≤ min (220 : Int).natAbs 450 ∧
      min (220 : Int).natAbs 450 < (truckWork.gradeCurve.get 5).x) ∧
    min (200 : Int).natAbs 450 = (truckWork.gradeCurve.get 4).x := by decide +kernel

/-- The truck with ENGINE_TORQUE and GEAR_RATIO bound, in a supervisor state of a hold. -/
def driving (st : SupState) (torque ratio : Int) : State :=
  let s := rolling st 0 252 0 17 0 (if st = .releasing then some ⟨252, ⟨0, 600⟩, .uphill⟩ else none)
  { s with signals := { s.signals with
      bindings := (s.signals.bindings.set 10 .engineTorque).set 11 .gearRatio
      records := (s.signals.records.set 10 (rec torque)).set 11 (rec ratio) } }

/-- At 12.500 uphill 665 Nm give 7614, enough for 6915 and a tenth, and 664 Nm give 7602, which is not; downhill 150 Nm
are enough; a LOST torque fails. -/
theorem witness_DriveAwayTestReleasesAndReturns :
    (∀ st ∈ [SupState.holding, .releasing], ∀ x ∈ [((665 : Int), (12500 : Int), DriveOutcome.passUphill), (664, 12500, .fail),
        (150, -11000, .passDownhill), (149, -11000, .fail), (0, 0, .fail)],
      let s := driving st x.1 x.2.1
      s.effective .engineTorque = .value x.1 true ∧ s.effective .gearRatio = .value x.2.1 true ∧ s.gf.isSome = true ∧
        s.sup.state = st ∧ (s.sup.ctx.map fun c => (s.driveTest c.uphill).1) = some x.2.2 ∧
        (s.sup.ctx.bind fun c => c.release).isSome = decide (st = .releasing)) ∧
    ((truck 0).effective .engineTorque = .unbound ∧ (truck 0).effective .gearRatio = .unbound) ∧
    (stopped.sup.state ≠ .holding ∧ stopped.sup.state ≠ .releasing) ∧
    (let s := driving .releasing 665 12500
     s.awake = true ∧ s.sup.state = .releasing ∧ s.sup.ctx.isSome = true ∧ s.signals.bindings.get 10 = .engineTorque ∧
       s.signalOf .engineTorque = some 10 ∧ (s.signals.records.get 10).loss = some ⟨0, 300⟩ ∧
       (s.signals.records.get 10).age ≠ .lost) := by decide +kernel

/-- The truck with C1 alone usable. -/
def oneChannel (st : SupState) : State :=
  let s := truckAt st none .none 0 0 850
  let r (n : BitVec 4) : ChannelRecord := { accepted n 240 with check := .unchecked }
  { s with channels := { s.channels with
      records := ⟨accepted 1#4 240, r 2#4, r 3#4, r 4#4⟩, derived := ⟨⟨true, false, false, false⟩, 90, some 800⟩ } }

theorem witness_UnavailableFollowsItsConditions :
    (∀ st ∈ [SupState.unavailable, .standby],
      (let s := oneChannel st
       s.work.settings.autoCheck = false ∧ s.driverBraking = false ∧ s.sup.state = st ∧ s.unavailableReasons = []) ∧
      (let s := { oneChannel st with channels := { (oneChannel st).channels with derived := Derived.none } }
       s.work.settings.autoCheck = false ∧ s.driverBraking = false ∧ s.sup.state = st ∧
         s.unavailableReasons = [.noChannel])) ∧
    ((truck 0).sup.state ≠ .unavailable ∧ (truck 0).sup.state ≠ .standby) ∧
    (let s := oneChannel .standby
     s.awake = true ∧ s.sup.state = .standby ∧ s.path.testing = false ∧ s.unavailableReasons = [] ∧
       s.channels.derived = s.deriveChannels ∧ (∀ d ∈ Chan.all, s.channelUsable d = true ↔ d = .c1) ∧
       (s.channels.records.get .c1).loss = some ⟨0, 300⟩) ∧
    (let s := oneChannel .unavailable
     let t := { s with store := { s.store with marker := true } }
     (t.sup.state = .unavailable ∧ t.unavailableReasons = [.safeStart] ∧ t.store.op = .idle ∧
       t.work.settings.autoCheck = false ∧ t.driverBraking = false) ∧ t.Serves) :=
  ⟨by decide +kernel, by decide +kernel, by decide +kernel, by decide +kernel,
    ⟨rfl, rfl, rfl, (by decide : 0 < shortSize)⟩⟩

theorem witness_HoldingNeedsEveryEntryCondition :
    let s := { stopped with creep := { stopped.creep with restHolds := true } }
    let t := { s with signals := { s.signals with records := s.signals.records.set 3 (rec 220) } }
    (stopped.sup.state = .standby ∧ stopped.creep.restHolds = false) ∧
    (s.sup.state = .standby ∧ s.creep.restHolds = true ∧ s.signals.window.length = 5 ∧
      (s.effective .grade).isFresh = true ∧ s.gf = some 220 ∧ s.work.settings.entryGrade ≤ (220 : Int).natAbs ∧
      (s.effective .reservoir).isFresh = true ∧ s.calculator.record.valid = true ∧
      s.calculator.record.insufficient = false ∧ s.work.settings.entryDemand ≤ s.driverDemand .c1) ∧
    (s.holdInhibited = false ∧ s.driverPresent = true ∧ s.pendantActive = false ∧ s.parkApplied = false ∧
      (s.driveTest (headingOf s.gf)).1 = .fail ∧ s.key = true ∧ s.portB.mode ≠ .offBus) ∧
    s.evaluation.insufficient = false ∧
    (t.effective .reservoir).isFresh = true ∧ t.calculator.record.insufficient = false ∧
      t.evaluation.insufficient = true := by decide +kernel

theorem witness_HoldTimersAndNoticesEndTheHold :
    (∀ st ∈ [SupState.holding, .releasing], (hold st 1).awake = true ∧ (hold st 1).sup.ctx = some (context 1) ∧
      (context 1).holdLimit = some ⟨0, 180000⟩ ∧
      ((hold st 1).sup.state = .holding ∨ (hold st 1).sup.state = .releasing)) ∧
    (let rel : Release := ⟨168, ⟨0, 600⟩, .uphill⟩
     let s := { hold .releasing 1 with sup := { (hold .releasing 1).sup with ctx := some { context 1 with release := some rel } } }
     s.awake = true ∧ s.sup.state = .releasing ∧ s.sup.ctx.bind (·.release) = some rel ∧ s.driverBraking = false ∧
       s.work.settings.autoCheck = false) := by decide +kernel

/-- At 4.0 % and 220 kPa the record is insufficient, at 850 kPa it is not; PARK_STATUS is applied in the second. The
notices: DRIVER_PRESENT present and about to be LOST, RESERVOIR about to be LOST on the level, C1 alone usable. -/
theorem witness_HoldTimersAndNoticesEndTheHold_notices :
    ∀ st ∈ [SupState.holding, .releasing],
      (truckAt st (some (truckHold 3)) .hold 40 120 220).evaluation.insufficient = true ∧
      (let s := truckAt st (some (truckHold 0)) .hold 40 120 850
       let t := { s with signals := { s.signals with records := s.signals.records.set 4 (rec 1) } }
       s.sup.state = st ∧ s.evaluation.insufficient = false ∧ t.parkApplied = true ∧
         t.work.settings.autoCheck = false) ∧
      (let s := truckAt st (some (truckHold 0)) .hold 220 120 850
       s.awake = true ∧ s.signals.bindings.get 8 = .driverPresent ∧ (s.signals.records.get 8).value = 1 ∧
         (s.signals.records.get 8).loss = some ⟨0, 300⟩ ∧ (s.signals.records.get 8).age ≠ .lost) ∧
      (let s := truckAt st (some (truckHold 0)) .hold 40 120 850
       let u := (s.reach ⟨0, 300⟩).setRecord 3 { s.signals.records.get 3 with age := .lost, stale := none, loss := none }
       s.signals.bindings.get 3 = .reservoir ∧ (s.signals.records.get 3).loss = some ⟨0, 300⟩ ∧
         (s.signals.records.get 3).age ≠ .lost ∧ u.evaluation.insufficient = false) ∧
      (let s := oneChannel st
       s.awake = true ∧ s.sup.state = st ∧ s.path.testing = false ∧ s.channels.derived = s.deriveChannels ∧
         (∀ d ∈ Chan.all, s.channelUsable d = true ↔ d = .c1) ∧
         (s.channels.records.get .c1).loss = some ⟨0, 300⟩ ∧ (s.channels.records.get .c1).age ≠ .lost) := by decide +kernel

theorem witness_SpringIsConfirmedOrOverdue :
    (let s := { hold .securing 1 with park := ⟨true, true, .waiting, some ⟨0, 1500⟩⟩ }
     s.awake = true ∧ s.sup.state = .securing ∧ s.park.conf = .waiting ∧ s.park.timer = some ⟨0, 1500⟩) ∧
    (let s := { hold .securing 1 with park := ⟨true, true, .overdue, none⟩ }
     s.sup.state = .securing ∧ s.park.conf = .overdue) ∧
    (∀ handover ∈ [false, true],
      let s := { part .secured with sup := ⟨.secured, .pendant, some (context 1), handover, false⟩,
                                    park := ⟨true, true, .confirmed, none⟩ }
      s.sup.state = .secured ∧ s.park.conf = .confirmed ∧ s.path.testing = false) := by decide +kernel

/-- SECURED, the driver back and braking with 320 kPa. -/
def returned (marker : Bool) : State :=
  { stopped with
    sup := ⟨.secured, .driverAbsent, some (truckHold 1), false, false⟩
    park := ⟨true, true, .confirmed, none⟩
    store := { stopped.store with marker := marker } }

theorem witness_ReleaseIsHandedOver_safeStart :
    (∀ k ∈ [false, true], { returned false with key := k }.sup.state = .secured) ∧
    (returned true).sup.state = .secured ∧ (returned true).sup.handover = false ∧ (returned true).key = true ∧
      (returned true).driverPresent = true ∧ (returned true).driverBraking = true ∧ (returned true).store.marker = true := by
  decide +kernel

/-- Shallow, ready and built, ready and below the level, ready with an insufficient record, not ready, without a grade. -/
theorem witness_ReleaseIsHandedOver_release :
    let s := returned false
    (s.sup.state = .secured ∧ s.sup.handover = false ∧ s.key = true ∧ s.driverPresent = true ∧ s.driverBraking = true ∧
      s.store.marker = false ∧ s.work.settings.autoCheck = false) ∧
    (let t := { s with signals := { s.signals with window := [29] } }
     t.gf = some 29 ∧ t.work.settings.entryGrade = 30) ∧
    (∀ x ∈ [((850 : Int), (252 : Nat)), (850, 100), (220, 60)],
      let t := { s with
        signals := { s.signals with records := s.signals.records.set 3 (rec x.1) }
        channels := { s.channels with records := PerChan.build fun c => { s.channels.records.get c with pressure := x.2 } } }
      let record := State.evaluation { t with sup := { t.sup with ctx := none } }
      t.gf = some 220 ∧ t.calculator.record.valid = true ∧ t.calculator.record.insufficient = false ∧
        t.reservoirLost = false ∧ t.pendantActive = false ∧ 2 ≤ t.creep.watchedCount ∧ t.portB.mode ≠ .offBus ∧
        record.valid = true ∧ record.insufficient = decide (x.1 = 220) ∧ t.channels.derived.usable.get .c1 = true ∧
        ((record.pHold + 3) / 4 * 4 ≤ x.2 + t.work.settings.buildTolerance ↔ x.2 = 252)) ∧
    (let t := { s with creep := { s.creep with watchedCount := 1 } }
     t.gf = some 220 ∧ ¬2 ≤ t.creep.watchedCount) ∧
    { s with signals := { s.signals with window := [] } }.gf = none := by decide +kernel

theorem witness_ReleaseIsHandedOver_handover :
    (∀ m ∈ [false, true],
      let s := { handing with store := { handing.store with marker := m } }
      s.sup.state = .secured ∧ s.sup.handover = true ∧ s.sup.ctx = some (truckHold 0) ∧ s.store.marker = m) ∧
    (handing.running = true ∧ handing.key = true ∧ handing.path.testing = false) := by decide +kernel

theorem witness_DemandFrameIsNeverBelowTheDriver :
    ((∀ c ∈ Chan.all, stopped.demand c ≤ 1020) ∧ stopped.merger.mode = .none ∧ (truck 0).merger.driver.last = none ∧
      stopped.merger.driver.last =
        some ⟨.ext 0x0C2A1E10#29, [80#8, 80#8, 80#8, 80#8, 0#8, 0xA5#8, 1#8, 2#8]⟩) ∧
    (∀ mode ∈ [HoldMode.hold, .secure, .ramp],
      let s := truckAt .holding (some (truckHold 0)) mode 220 120 850
      s.merger.mode = mode ∧ s.channels.derived.usable.get .c4 = false ∧ s.channels.derived.usable.get .c1 = true) ∧
    (∀ b ∈ [false, true],
      let s := truckAt .secured (some { truckHold 0 with reinforced := b }) .secure 220 120 850
      s.merger.mode = .secure ∧ (s.sup.ctx.map fun c => c.reinforced) = some b) ∧
    (let rel : Release := ⟨252, ⟨0, 600⟩, .uphill⟩
     let s := truckAt .releasing (some { truckHold 0 with release := some rel }) .ramp 220 120 850
     s.merger.mode = .ramp ∧ s.channels.derived.usable.get .c1 = true ∧ s.sup.ctx.bind (fun c => c.release) = some rel ∧
       0 < rel.ramp.dur) ∧
    (let s := checking .c1 .medium 0 .unchecked 0 0
     s.merger.mode = .check ∧ s.path.chan = some .c1 ∧ s.path.level = some .medium ∧
       { s with path := { s.path with chan := none } }.path.chan = none) := by decide +kernel

theorem witness_RefreshMakesADemandFrame :
    let s := { truck 0 with merger := { (truck 0).merger with refresh := some ⟨0, 20⟩ } }
    (s.awake = true ∧ s.merger.refresh = some ⟨0, 20⟩ ∧ s.sup.state.isHold = true ∧
      s.demandId = some (.ext 0x0C2A1E10#29)) ∧ s.Slotted :=
  ⟨by decide +kernel, slotted_of_idle rfl rfl rfl rfl⟩

/-- A slot in some state with a load order. -/
def slot (st : SlotState) (o : LoadOrder) : Slot := ⟨st, none, some (frame 1#11 [] 0), some o, none⟩

theorem witness_FrameIsPlacedInASlotOrDiscarded_placed :
    Slot.start.state = .empty ∧
    ((slot .done .older).state = .done ∧ (slot .done .newer).order = some .newer ∧ (slot .sending .newer).state ≠ .empty ∧
      (slot .sending .newer).state ≠ .done) ∧
    (slot .loaded .newer).state = .loaded ∧ (slot .loaded .older).order = some .older ∧
      (slot .sending .older).state = .sending := by decide +kernel

theorem witness_FrameIsPlacedInASlotOrDiscarded_discarded :
    waiting.awake = true ∧ (waiting.merger.slot .a).state = .loaded ∧
      (waiting.merger.slot .a).discard = some ⟨0, 40⟩ := by decide +kernel

theorem witness_DriverDemandExpiriesAgeTheRecord :
    stopped.awake = true ∧ stopped.merger.driver.stale = some ⟨0, 100⟩ ∧ stopped.merger.driver.loss = some ⟨0, 300⟩ ∧
      stopped.merger.driver.age = .fresh := by decide +kernel

theorem witness_BuildStagesEndWithTheirTimer_stage1 :
    let s := lagging .stage1 150
    s.awake = true ∧ s.merger.stage = some ⟨150, 150⟩ ∧ s.levelInForce = some 284 ∧ s.merger.conf = .stage1 := by
  decide +kernel

/-- The pressure of C3 at the level less the tolerance. -/
theorem witness_BuildStagesEndWithTheirTimer_built :
    let s := lagging .stage2 300
    let t := { s with channels := { s.channels with records := s.channels.records.set .c3 (accepted 3#4 244) } }
    t.awake = true ∧ t.merger.stage = some ⟨150, 300⟩ ∧ t.levelInForce = some 284 ∧ t.merger.conf = .stage2 ∧
      t.usableList ≠ [] ∧
      ∀ c ∈ t.usableList, 284 ≤ (t.channels.records.get c).pressure + t.work.settings.buildTolerance := by decide +kernel

/-- C3 just below it, in SECURING. -/
theorem witness_BuildStagesEndWithTheirTimer_short :
    let s := lagging .stage2 300
    let t := { s with
      channels := { s.channels with records := s.channels.records.set .c3 (accepted 3#4 243) }
      sup := { s.sup with state := .securing }, merger := { s.merger with mode := .secure } }
    (t.merger.stage = some ⟨150, 300⟩ ∧ t.levelInForce = some 284 ∧ t.merger.conf = .stage2 ∧
      t.sup.state = .securing ∧ t.path.testing = false ∧ t.usableList = [.c1, .c2, .c3]) ∧
    (∀ d ∈ t.usableList, 284 ≤ (t.channels.records.get d).pressure + t.work.settings.buildTolerance ↔ d ≠ .c3) ∧
    (t.channels.records.get .c3).handshake = .accepted := by decide +kernel

theorem witness_BuildStagesEndWithTheirTimer_none :
    let s := lagging .stage2 300
    let t := { s with channels := { s.channels with derived := Derived.none } }
    t.awake = true ∧ t.merger.stage = some ⟨150, 300⟩ ∧ t.levelInForce = some 284 ∧ t.merger.conf = .stage2 ∧
      t.sup.state = .holding ∧ t.usableList = [] := by decide +kernel

/-- HOLDING with C3 below the level, whose leaving a reservoir of 850 kPa can bear; and with all three below it. -/
theorem witness_BuildStagesEndWithTheirTimer_holding :
    (let s := lagging .stage2 300
     let u := State.rework (s.setChannel .c3 { accepted 3#4 236 with handshake := .short })
     s.awake = true ∧ s.merger.stage = some ⟨150, 300⟩ ∧ s.levelInForce = some 284 ∧ s.merger.conf = .stage2 ∧
       s.sup.state = .holding ∧ s.path.testing = false ∧ s.channels.derived = s.deriveChannels ∧
       s.usableList = [.c1, .c2, .c3] ∧
       (s.usableList.filter fun c =>
         decide ((s.channels.records.get c).pressure + s.work.settings.buildTolerance < 284)) = [.c3] ∧
       0 < u.channels.derived.b ∧ u.evaluation.insufficient = false) ∧
    (let s := lagging .stage2 300
     let s := { s with channels := { s.channels with records :=
       ⟨accepted 1#4 240, accepted 2#4 0, accepted 3#4 236, accepted 4#4 0⟩ } }
     s.channels.derived = s.deriveChannels ∧ s.levelInForce = some 284 ∧
       (s.usableList.filter fun c =>
         decide ((s.channels.records.get c).pressure + s.work.settings.buildTolerance < 284)) = s.usableList) := by
  decide +kernel

theorem witness_LevelTimeoutFailsTheChannel :
    let s := checking .c2 .medium 0 .passed 0 236
    s.awake = true ∧ s.path.testing = true ∧ s.path.chan = some .c2 ∧ s.path.level = some .medium ∧
      s.path.timer = some ⟨750, 500⟩ ∧ (s.channels.records.get .c2).handshake = .accepted ∧ s.lifted .c2 = false := by
  decide +kernel

theorem witness_PathCheckPassesAndAbandons :
    (∀ l ∈ [Level.low, .medium, .high], ∀ settle ∈ [1, 2], ∀ p ∈ [104, 40, 500],
      let s := checking .c1 l settle .unchecked p 0
      s.path.testing = true ∧ s.path.chan = some .c1 ∧ s.path.level = some l ∧ s.path.settle = settle ∧
        (s.channels.records.get .c1).handshake = .accepted ∧ s.lifted .c1 = false ∧ s.sup.state = .checking ∧
        s.merger.mode = .check ∧ s.driverBraking = false ∧ s.work.settings.autoCheck = false ∧
        (channelsAbove (some .c1)).find? s.candidate = some .c2) ∧
    (let s := checking .c2 .high 2 .passed 0 500
     (channelsAbove (some .c2)).find? s.candidate = none ∧
       (State.rework (s.setChannel .c2 { s.channels.records.get .c2 with check := .passed })).unavailableReasons = []) ∧
    (∀ h ∈ [Handshake.listening, .fault, .lost],
      let s := checking .c1 .low 0 .unchecked 0 0
      let t := s.setChannel .c1 { s.channels.records.get .c1 with handshake := h }
      (t.channels.records.get .c1).handshake = h ∧ t.path.chan = some .c1) ∧
    (checking .c4 .low 0 .unchecked 0 0).lifted .c4 = true := by decide +kernel

/-- C1 at LOW with two settled frames: 140 kPa are within the tolerance of 40 of 100 kPa, and so are 60 kPa. -/
theorem witness_PathCheckPassesAndAbandons_frame :
    let s := checking .c1 .low 2 .unchecked 0 0
    (∀ units ∈ [15#8, 35#8],
      let f := frame 0x340#11 [0x21#8, units, 0#8] 3
      s.channels.state = .inForce ∧ frameKind f = 2#4 ∧ 3 ≤ f.dlc.val ∧ s.identifierChannel f.id = some .c1 ∧
        (frameChannel f).toNat = Chan.c1.number ∧ (byteAt f.data 2).getLsbD 0 = false ∧ s.path.testing = true ∧
        s.path.chan = some .c1 ∧ s.path.level = some .low ∧ Level.low.next = some .medium ∧ 2 ≤ s.path.settle ∧
        (s.channels.records.get .c1).handshake = .accepted ∧ (s.channels.records.get .c1).age ≠ .lost ∧
        s.lifted .c1 = false ∧ s.channels.derived = s.deriveChannels ∧ s.merger.mode = .check ∧
        4 * (byteAt f.data 1).toNat ≤ s.work.settings.level .low + s.work.settings.checkTolerance ∧
        s.work.settings.level .low ≤ 4 * (byteAt f.data 1).toNat + s.work.settings.checkTolerance) ∧
    s.HandsTo .b (frame 0x340#11 [0x21#8, 35#8, 0#8] 3) .channel :=
  ⟨by decide +kernel, handsTo_of _ _ _ _ channelEntry ⟨rfl, rfl, rfl, rfl⟩
    (show (checking .c1 .low 2 .unchecked 0 0).matchEntry .b (frame 0x340#11 [] 0) = _ by decide +kernel) ⟨rfl, rfl, rfl⟩⟩

theorem witness_CabStatusIsMadeEachPeriod :
    ∀ cab ∈ [CabSlot.empty, .waiting (frame 1#11 [] 0), .sending (frame 1#11 [] 0)],
      let s := { part .standby with resp := { Responder.start with cab := cab, period := some ⟨0, 100⟩ } }
      s.awake = true ∧ s.resp.period = some ⟨0, 100⟩ ∧ s.resp.cab = cab := by decide +kernel

theorem witness_ReadsAnswerTheFieldAsItStands :
    (part .standby).Serves ∧ (part .standby).readField .status (0#8).toNat (0#8).toNat = some 1#32 ∧
    (4#8).toNat = Chan.c4.number ∧ counterOf (16#8).toNat = some .managementDrops ∧
    levelOf (2#8).toNat = some .high :=
  ⟨witness_Serves _, by decide +kernel⟩

theorem witness_WritesChangeTheWorkingCopy :
    ((part .standby).Serves ∧ (part .standby).busy = false) ∧
    ((part .standby).work.settings.write (2#8).toNat 23#32).isSome ∧
    ((95#8).toNat = (95 : Fin 96).val ∧ (((part .standby).work.routes.get 95).write (0#8).toNat 1#32).isSome) ∧
    ((19#8).toNat = (19 : Fin 20).val ∧ (((part .standby).work.signals.get 19).write (0#8).toNat 18#32).isSome) ∧
    ((4#8).toNat = Chan.c4.number ∧ (((part .standby).work.channels.get .c4).write (3#8).toNat 1000#32).isSome) ∧
    ((7#8).toNat = (7 : Fin 8).val ∧ (((part .standby).work.gradeCurve.get 7).write 450 6000 (1#8).toNat 6000#32).isSome) ∧
    ((4#8).toNat = (4 : Fin 5).val ∧ (((part .standby).work.drumCurve.get 4).write 200 400 (0#8).toNat 200#32).isSome) :=
  ⟨⟨witness_Serves _, rfl⟩, by decide +kernel⟩

/-- The maximum payload; a MERGE entry with a full mask and with a partial one; GRADE and DRUM_SPEED written to an entry. -/
theorem witness_WritesChangeTheWorkingCopy_effects :
    let m (mask : BitVec 29) : RouteEntry := ⟨true, .v, false, 0x100#29, mask, .merge, false, []⟩
    ((part .standby).work.settings.write (9#8).toNat 1500#32).isSome ∧
    (routesValid ((part .standby).work.routes.set 0 (m 0x7FF#29)) = true ∧
      routesValid ((part .standby).work.routes.set 0 (m 0x7FE#29)) = false) ∧
    ((((part .standby).work.signals.get 0).write 0 1#32).map (·.role) = some .grade ∧
      (((part .standby).work.signals.get 0).write 0 3#32).map (·.role) = some .drumSpeed) ∧
    (((part .standby).work.channels.get .c1).write (0#8).toNat 1#32).isSome := by decide +kernel

/-- A value the field holds and does not take: an identifier too wide for its entry's format, a channel's handshake state. -/
theorem witness_WritesChangeTheWorkingCopy_held :
    let e : RouteEntry := ⟨true, .v, false, 0x12345#29, 0x1FFFFFFF#29, .pass, false, []⟩
    ((routed .standby e).Serves ∧ (routed .standby e).busy = false) ∧
    ((routed .standby e).work.routes.get 0 = e ∧
      (routed .standby e).Takes .route 0#8 3#8 0x12345#32 e e (e.write (3#8).toNat 0x12345#32)) ∧
    (part .standby).Takes .channel 1#8 5#8 0#32 ((part .standby).work.channels.get .c1) ((part .standby).work.channels.get .c1)
      (((part .standby).work.channels.get .c1).write (5#8).toNat 0#32) :=
  ⟨⟨⟨rfl, rfl, rfl, (by decide : 0 < shortSize)⟩, by decide +kernel⟩,
    ⟨by decide +kernel, .inr ⟨by decide +kernel, by decide +kernel, rfl⟩⟩,
    .inr ⟨by decide +kernel, by decide +kernel, rfl⟩⟩

/-- A request of group SETTINGS field 0 by the request identifier, the route table SUSPENDED. -/
theorem witness_RequestsAreQueuedAndJudged_heard (n m : Nat) :
    let s := { part .standby with resp := { Responder.start with
      requests := List.replicate n (frame 1#11 [] 0), replies := List.replicate m ⟨frame 1#11 [] 0, false⟩ } }
    s.HearsRequest (frame 0x6F0#11 [1#8, 0#8, 0#8, 0#8, 0#8, 0#8, 0#8, 0#8] 8) :=
  ⟨rfl, rfl, rfl, .inl ⟨rfl, nofun, rfl⟩⟩

/-- The route table IN FORCE without a MANAGE entry, and with one. -/
theorem witness_RequestsAreQueuedAndJudged_inForce :
    (queued 0 false).HearsRequest (frame 0x6F0#11 [] 0) ∧
    (routed .standby (entry .v 0x120#29 .manage [])).HearsRequest (frame 0x120#11 [] 0) :=
  ⟨⟨rfl, rfl, rfl, .inr (.inl ⟨rfl, by decide +kernel, rfl, by decide +kernel⟩)⟩,
    ⟨rfl, rfl, rfl, .inr (.inr ⟨rfl, entry .v 0x120#29 .manage [], by decide +kernel, rfl, rfl⟩)⟩⟩

/-- One request for each kind of refusal: too short, no such item, a read-only group, no clearing part, BUSY with the value
held, BAD-VALUE with the value held, and the commands'. -/
theorem witness_RequestsAreQueuedAndJudged_refused :
    (part .standby).Refuses ⟨false, 1#8, 0#8, 0#8, 0#8, 0#32⟩ .badItem 0#32 ∧
    (part .standby).Refuses ⟨true, 1#8, 0#8, 0#8, 45#8, 0#32⟩ .badItem 0#32 ∧
    (part .standby).Refuses ⟨true, 2#8, 6#8, 0#8, 0#8, 0#32⟩ .denied 0#32 ∧
    (part .standby).Refuses ⟨true, 3#8, 0#8, 0#8, 44#8, 0#32⟩ .denied 0#32 ∧
    (part .checking).Refuses ⟨true, 2#8, 0#8, 0#8, 44#8, 0#32⟩ .busy 2000#32 ∧
    (part .standby).Refuses ⟨true, 2#8, 0#8, 0#8, 2#8, 24#32⟩ .badValue 18#32 ∧
    (part .holding).Refuses ⟨true, 4#8, 0#8, 0#8, 1#8, 0#32⟩ .busy 0#32 ∧
    (part .standby).Refuses ⟨true, 4#8, 0#8, 0#8, 2#8, 0#32⟩ .denied 0#32 ∧
    (part .standby).Refuses ⟨true, 4#8, 0#8, 0#8, 5#8, 0#32⟩ .denied 0#32 ∧
    (part .standby).Serves :=
  ⟨.short _ rfl, .item _ (by decide) (by decide) (by intro g h; obtain rfl : Group.settings = g := Option.some.inj h; rfl),
    .readOnly _ .status 1#32 rfl rfl rfl rfl (.inl rfl),
    .noClear _ .settings 2000#32 rfl rfl rfl rfl (by decide) (by decide) (by decide),
    .busy _ .settings _ rfl rfl rfl rfl (by decide) (by decide) (by decide) (.inr (.inl rfl)),
    .value _ .settings _ rfl rfl rfl rfl (by decide) (by decide) (by decide) (by unfold State.Busy; decide +kernel) rfl,
    .startBusy _ rfl rfl rfl (.inl rfl), .abortDenied _ rfl rfl rfl rfl,
    .reloadDenied _ rfl rfl rfl (by unfold State.Busy; decide +kernel) (by decide +kernel), witness_Serves _⟩

theorem witness_RequestsAreQueuedAndJudged_rows :
    (requestOf .save).isSome = true ∧ { part .standby with powered := false }.running = false ∧
    (let s := { part .standby with resp := { Responder.start with requests := List.replicate 4 (frame 1#11 [] 0) } }
     s.running = true ∧ s.portV.onBus = true ∧ 4 ≤ s.resp.requests.length) := by decide +kernel

theorem witness_SettingsTakeTheirRanges :
    1 ≤ Settings.default.highWater ∧ (Settings.default.write 2 23#32).isSome = true ∧
      (Settings.default.write 43 0x9FFFFFFF#32).isSome = true := by decide +kernel

theorem witness_FieldsAreNumberedInTheirOrder :
    (let s := rolling .releasing 0 254 2 17 0 (some ⟨168, ⟨0, 600⟩, .uphill⟩)
     s.sup.ctx.isSome = true ∧ (s.sup.ctx.bind fun c => c.release) = some ⟨168, ⟨0, 600⟩, .uphill⟩ ∧ s.gf = some 220 ∧
       s.channels.derived.lowestMax = some 800 ∧ (s.creep.wheels.get .w2).last = some 254) ∧
    ((part .standby).sup.ctx = none ∧ (part .standby).channels.derived.lowestMax = none) := by decide +kernel

/-- UNAVAILABLE for want of a channel alone, the spring applied, the truck at rest, C1 waiting for its check. -/
def parked : State :=
  let s := checking .c1 .low 0 .unchecked 0 0
  { s with
    sup := ⟨.unavailable, .noChannel, none, false, false⟩, path := PathCheck.start, merger := { s.merger with mode := .none }
    signals := { s.signals with records := s.signals.records.set 4 (rec 1) }
    creep := { s.creep with restHolds := true } }

theorem witness_CheckStartsAndAbortsOnRequest :
    (parked.Serves ∧ parked.checkPreconditions = true ∧ (channelsAbove none).find? parked.candidate = some .c1) ∧
    ((checking .c1 .low 0 .passed 0 0).Serves ∧ (checking .c1 .low 0 .passed 0 0).path.testing = true ∧
      (checking .c1 .low 0 .passed 0 0).sup.state = .checking ∧ (checking .c1 .low 0 .passed 0 0).driverBraking = false ∧
      (checking .c1 .low 0 .passed 0 0).unavailableReasons = [.noChannel]) :=
  ⟨⟨⟨rfl, rfl, rfl, (by decide : 0 < shortSize)⟩, by decide +kernel⟩,
    ⟨rfl, rfl, rfl, (by decide : 0 < shortSize)⟩, by decide +kernel⟩

/-- A run in CHECKING, the spring brake applied, whose driver demand record a frame 100h renews. -/
def tested : State :=
  let s := checking .c1 .low 0 .passed 0 0
  { s with
    work := { s.work with routes := s.work.routes.set 0 (entry .v 0x100#29 .merge []) }
    signals := { s.signals with records := s.signals.records.set 4 (rec 1) } }

theorem witness_CheckStartsAndAbortsOnRequest_events :
    tested.HandsTo .v (frame 0x100#11 [0#8, 0#8, 0#8, 1#8, 0#8, 0#8, 0#8, 0#8] 8) .merge ∧
    (tested.path.testing = true ∧ tested.sup.state = .checking ∧ tested.parkApplied = true ∧
      tested.driverBraking = false) ∧
    (∃ i < 4, byteAt [0#8, 0#8, 0#8, 1#8, 0#8, 0#8, 0#8, 0#8] i ≠ 0#8) ∧
    (tested.awake = true ∧ tested.signals.bindings.get 4 = .parkStatus ∧
      (tested.signals.records.get 4).loss = some ⟨0, 300⟩ ∧ (tested.signals.records.get 4).age ≠ .lost) ∧
    ((tested.creep.wheels.get .w2).last = some 252 ∧ 252 < 2 ^ tested.wheelLength .w2 ∧
      253 < 2 ^ tested.wheelLength .w2 ∧ 1 ≤ 2 ^ (tested.wheelLength .w2 - 1) ∧ 1 ≤ tested.wheelLength .w2) :=
  ⟨handsTo_of _ _ _ _ (entry .v 0x100#29 .merge []) ⟨rfl, rfl, rfl, rfl⟩
    (show tested.matchEntry .v (frame 0x100#11 [] 0) = _ by decide +kernel) ⟨rfl, rfl, rfl⟩,
    by decide +kernel, ⟨3, by decide, by decide⟩, by decide +kernel, by decide +kernel⟩

theorem witness_StoreCommandsBeginTheirWork :
    (parked.Serves ∧ parked.store.op = .idle ∧ parked.busy = false ∧ parked.parkAppliedFresh = true ∧
      parked.resp.restartPending = false) ∧ (part .secured).Serves :=
  ⟨⟨⟨rfl, rfl, rfl, (by decide : 0 < shortSize)⟩, by decide +kernel⟩, witness_Serves _⟩

/-- START-CHECK at the parked truck begins at C1's LOW level (R99, R145). -/
theorem test_start_check :
    let t := after (exec .startCheck parked)
    (t.sup.state, t.path.chan, t.path.level, t.merger.mode) = (.checking, some .c1, some .low, .check) := by decide +kernel

/-- A RELOAD at the parked truck: STORE, and the tables of the image at its end (R167). -/
theorem test_reload :
    let t := after (exec .reload parked)
    (t.sup.state, t.sup.reason, (after (exec .loadEnd t)).sup.reason) = (.unavailable, .store, .store) := by decide +kernel

/-- A CLEAR-SAFE-START on a clear marker notifies nobody: the auto-check's test of R99 does not follow (R169). -/
theorem test_clear_safe_start_on_a_clear_marker :
    let s := { parked with
      sup := ⟨.standby, .none, none, false, true⟩
      work := { parked.work with settings := { parked.work.settings with autoCheck := true } } }
    s.testCheck.sup.state = .checking ∧ (after (exec .clearSafeStart s)).sup = s.sup := by decide +kernel

/-- The truck in HOLDING with KEY about to fall. -/
def falling : State := { truck 2 with pending := [.keyFall] }

theorem falling_settled : falling.Settled where
  prq := rfl
  holdInForce := rfl
  conf := rfl
  context := rfl
  fits := by
    intro c h
    obtain rfl : truckHold 2 = c := Option.some.inj h
    exact ⟨by decide, by decide, by decide, by decide⟩
  handover := by decide +kernel
  marker := by decide +kernel
  checking := by decide +kernel

theorem witness_LawfulIsKept : falling.Lawful ∧ ∃ t, step falling = .next t :=
  ⟨⟨fun _ h => absurd h (by decide +kernel), fun _ _ => falling_settled, fun _ h => absurd h (by decide +kernel),
    fun _ h => absurd h (by decide +kernel)⟩, _, rfl⟩

theorem witness_BoundedIsKept : falling.Bounded ∧ ∃ t, step falling = .next t :=
  ⟨⟨⟨by decide +kernel, by decide +kernel, by decide +kernel⟩, ⟨by decide +kernel, by decide +kernel, by decide +kernel⟩,
    by decide +kernel, by decide +kernel, by decide +kernel, by decide +kernel, by decide +kernel, by decide +kernel,
    by decide +kernel⟩, _, rfl⟩

theorem witness_SlottedIsKept : falling.Slotted ∧ ∃ t, step falling = .next t :=
  ⟨slotted_of_idle rfl rfl rfl rfl, _, rfl⟩

end Sys2Proof.Tests
end

namespace Sys2Proof.Machine.SignalRecords

/-! The value of an extraction: the raw field bit by bit (R26), the scaled value (R28), the WHEEL count and its direction
code (R29). -/

/-! ### Bits of a byte string -/

/-- The number that a list of bytes spells, its first byte the least significant: bit `j` is a bit of byte `j / 8`. -/
theorem testBit_foldr_bytes (data : List Byte) (ks : List Nat) (j : Nat) (h : j / 8 < ks.length) :
    (ks.foldr (fun k acc => acc * 256 + (byteAt data k).toNat) 0).testBit j =
      (byteAt data ks[j / 8]).getLsbD (j % 8) := by
  induction ks generalizing j with
  | nil => simp at h
  | cons k ks ih =>
    have hk : (byteAt data k).toNat < 2 ^ 8 := (byteAt data k).isLt
    rw [List.foldr_cons, mul_comm, Nat.testBit_two_pow_mul_add (i := 8) _ hk]
    split
    next hj =>
      have h0 : j / 8 = 0 := Nat.div_eq_of_lt hj
      simp only [h0, List.getElem_cons_zero, Nat.mod_eq_of_lt hj]
      rfl
    next hj =>
      have hs : j / 8 = (j - 8) / 8 + 1 := by omega
      have hm : (j - 8) % 8 = j % 8 := by omega
      rw [ih (j - 8) (by simp only [List.length_cons] at h; omega), hm]
      simp only [hs, List.getElem_cons_succ]

/-- Two neighbouring bits of a byte as a number. -/
theorem twoBits_eq (b : Byte) (o : Nat) : b.toNat / 2 ^ o % 4 = (b.getLsbD o).toNat + 2 * (b.getLsbD (o + 1)).toNat := by
  have hlo : (b.toNat / 2 ^ o) % 2 = (b.getLsbD o).toNat := by
    rw [BitVec.getLsbD, Nat.toNat_testBit]
  have hhi : (b.toNat / 2 ^ o) / 2 % 2 = (b.getLsbD (o + 1)).toNat := by
    rw [BitVec.getLsbD, Nat.toNat_testBit, pow_succ, Nat.div_div_eq_div_mul]
  omega

/-! ### The raw field -/

theorem length_bytes (e : SigEntry) : e.bytes.length = (e.bitOff + e.length - 1) / 8 + 1 := by simp [SigEntry.bytes]

/-- R26: the byte that the walk reaches after `j` steps from the least significant one. -/
theorem getElem_bytes (e : SigEntry) (j : Nat) (h : j < e.bytes.length) :
    e.bytes[j] = if e.big then e.bytePos - j else e.bytePos + j := by simp [SigEntry.bytes]

theorem raw_lt (e : SigEntry) (data : List Byte) : e.raw data < 2 ^ e.length := Nat.mod_lt _ (by positivity)

/-- R26: bit `i` of the raw field. -/
theorem testBit_raw (e : SigEntry) (data : List Byte) {i : Nat} (h : i < e.length) : (e.raw data).testBit i =
    (byteAt data (if e.big then e.bytePos - (e.bitOff + i) / 8 else e.bytePos + (e.bitOff + i) / 8)).getLsbD
      ((e.bitOff + i) % 8) := by
  have hj : (e.bitOff + i) / 8 < e.bytes.length := by rw [length_bytes]; omega
  rw [SigEntry.raw, Nat.testBit_mod_two_pow, Nat.testBit_div_two_pow, Nat.add_comm i, testBit_foldr_bytes _ _ _ hj,
    getElem_bytes]
  simp [h]

/-- Settles O17: the raw field is a number below `2 ^ length` whose bits are those of the bytes the walk of R26 reaches. -/
theorem rawFieldIsAssembledBitByBit : Obligations.RawFieldIsAssembledBitByBit :=
  fun e data _ _ _ _ => ⟨raw_lt e data, fun _ hi => testBit_raw e data hi⟩

/-! ### The scaled value -/

/-- R28 step 2: the rounded quotient has its numerator's sign, and its magnitude is that of the numerator over 1024, rounded
half up. -/
theorem roundHalfAway1024_spec (a : Int) : 1024 * |roundHalfAway1024 a| ≤ |a| + 512 ∧
    |a| + 512 < 1024 * (|roundHalfAway1024 a| + 1) ∧ 0 ≤ roundHalfAway1024 a * a := by
  unfold roundHalfAway1024
  split
  next h =>
    obtain ⟨n, rfl⟩ : ∃ n : Nat, a = -n := ⟨(-a).toNat, by omega⟩
    simp only [neg_neg, Int.toNat_natCast, abs_neg, Nat.abs_cast, neg_mul_neg]
    exact ⟨by omega, by omega, by positivity⟩
  next h =>
    obtain ⟨n, rfl⟩ : ∃ n : Nat, a = n := ⟨a.toNat, by omega⟩
    simp only [Int.toNat_natCast, Nat.abs_cast]
    exact ⟨by omega, by omega, by positivity⟩

/-- A value held to a range is the greater of the lower bound and the lesser of value and upper bound. -/
theorem clampInt_eq_max_min {lo hi : Int} (h : lo ≤ hi) (x : Int) : clampInt lo hi x = max lo (min hi x) := by
  unfold clampInt; split
  · omega
  · split <;> omega

theorem range_le (r : Role) : r.range.1 ≤ r.range.2 := by cases r <;> simp [Role.range]

/-- R28: the value of a role that is not a WHEEL role. -/
theorem value_of_not_wheel (e : SigEntry) (data : List Byte) (h : e.role.isWheel = false) :
    e.value data = clampInt e.role.range.1 e.role.range.2 (roundHalfAway1024
      ((if e.signed = true ∧ 2 ^ (e.length - 1) ≤ e.raw data then (e.raw data : Int) - 2 ^ e.length else e.raw data) *
        e.gain) + e.offset) := by
  unfold SigEntry.value
  split
  next w hw => simp [hw, Role.isWheel] at h
  next => simp only [Bool.and_eq_true, decide_eq_true_eq]

/-- Settles O18: the value as scaled, rounded and held to the range, and the ranges read off R28's table. -/
theorem scaledValueIsRoundedAndClamped : Obligations.ScaledValueIsRoundedAndClamped := by
  intro e data h
  constructor
  · obtain ⟨hlow, hhigh, hsign⟩ := roundHalfAway1024_spec
      ((if e.signed = true ∧ 2 ^ (e.length - 1) ≤ e.raw data then (e.raw data : Int) - 2 ^ e.length else e.raw data) *
        e.gain)
    refine ⟨_, _, rfl, hlow, hhigh, hsign, ?_⟩
    rw [value_of_not_wheel e data h, clampInt_eq_max_min (range_le _)]
  · refine ⟨?_, ?_, ?_, ?_, ?_, ?_, ?_, ?_⟩
    case refine_8 => rintro (hr | hr | hr | hr | hr) <;> rw [hr] <;> rfl
    all_goals intro hr; rw [hr]; rfl

/-! ### The WHEEL count -/

/-- R29: the value of a WHEEL role. -/
theorem value_of_wheel {e : SigEntry} {w : Wheel} (h : e.role = .wheel w) (data : List Byte) :
    e.value data = e.raw data := by
  unfold SigEntry.value; rw [h]

/-- R29: the direction code of a WHEEL entry with a direction sub-field, by the sub-field's two bits. -/
theorem dirCode_of_dirSub {e : SigEntry} {w : Wheel} (h : e.role = .wheel w) {b o : Nat} (hd : e.dirSub = some (b, o))
    (data : List Byte) : e.dirCode data =
      if (byteAt data b).getLsbD o && !(byteAt data b).getLsbD (o + 1) then .forward
      else if !(byteAt data b).getLsbD o && (byteAt data b).getLsbD (o + 1) then .backward else .unknown := by
  unfold SigEntry.dirCode
  rw [h, hd]
  dsimp only
  rw [twoBits_eq]
  cases (byteAt data b).getLsbD o <;> cases (byteAt data b).getLsbD (o + 1) <;> rfl

/-- Settles O19: the count is the raw field, the direction code its two bits. -/
theorem wheelValueIsTheRawCount : Obligations.WheelValueIsTheRawCount := by
  intro e data w h
  have hlt : (e.raw data : Int) < 2 ^ e.length := by exact_mod_cast raw_lt e data
  refine ⟨value_of_wheel h data, ?_, ?_, ?_, ?_⟩
  · rw [value_of_wheel h]; positivity
  · rw [value_of_wheel h]; omega
  · intro hd
    unfold SigEntry.dirCode; rw [h, hd]
  · exact fun b o hd _ => dirCode_of_dirSub h hd data

end Sys2Proof.Machine.SignalRecords

namespace Sys2Proof.Machine.SignalRecords

/-! The ageing of a sample record (R31), and the filters of a sample: the grade window (R34) and the payload limiter
(R64). -/

/-! ### A record's expiries -/

theorem get_setRecord_self (s : State) (k : Fin 20) (r : SampleRecord) : (s.setRecord k r).signals.records.get k = r := by
  simp [Vector.get_eq_getElem]

theorem get_setRecord_of_ne (s : State) {k j : Fin 20} (r : SampleRecord) (h : j ≠ k) :
    (s.setRecord k r).signals.records.get j = s.signals.records.get j := by
  have hv : (k : Nat) ≠ j := fun e => h (Fin.ext e.symm)
  simp [Vector.get_eq_getElem, Vector.getElem_set_ne, hv]

theorem expiring_of_awake {s : State} (h : s.awake = true) (t : Timer) : s.expiring t = t := by simp [State.expiring, h]

/-- R31: the record as its stale timer's expiry leaves a FRESH one. -/
abbrev heldRecord (r : SampleRecord) : SampleRecord := { r with age := .held, stale := none }

/-- R31: the record as its loss timer's expiry leaves a FRESH or HELD one. -/
abbrev lostRecord (r : SampleRecord) : SampleRecord := { r with age := .lost, stale := none, loss := none }

/-- R31: the state in which the consumers of record `k` are told that it has gone LOST. -/
abbrev afterLoss (s : State) (k : Fin 20) (x : Running) : State :=
  (s.reach x).setRecord k (lostRecord (s.signals.records.get k))

/-- R31: STALE_TIMER_EXPIRY of a FRESH record. -/
theorem exec_staleTimerExpiry_of_fresh {s : State} {k : Fin 20} {x : Running} (ha : s.awake = true)
    (hx : (s.signals.records.get k).stale = some x) (hf : (s.signals.records.get k).age = .fresh) :
    exec (.staleTimerExpiry k) s = .next (((s.reach x).setRecord k (heldRecord (s.signals.records.get k))).notify
      (s.signals.bindings.get k) .ageing (s.signals.records.get k) (heldRecord (s.signals.records.get k))) := by
  show execStaleTimerExpiry k s = _
  simp only [execStaleTimerExpiry, expiring_of_awake ha, hx, hf]

/-- R31: LOSS_TIMER_EXPIRY of a FRESH or HELD record. -/
theorem exec_lossTimerExpiry_of_present {s : State} {k : Fin 20} {x : Running} (ha : s.awake = true)
    (hx : (s.signals.records.get k).loss = some x) (hl : (s.signals.records.get k).age ≠ .lost) :
    exec (.lossTimerExpiry k) s = .next ((afterLoss s k x).notify
      (s.signals.bindings.get k) .ageing (s.signals.records.get k) (lostRecord (s.signals.records.get k))) := by
  show execLossTimerExpiry k s = _
  simp only [execLossTimerExpiry, expiring_of_awake ha, hx]
  cases hg : (s.signals.records.get k).age with
  | lost => exact absurd hg hl
  | fresh => rfl
  | held => rfl

/-- R31, R32: the consumers of an ageing signal leave the records as they find them. -/
theorem signals_notify_ageing (s : State) (role : Role) (before after : SampleRecord) :
    (s.notify role .ageing before after).signals = s.signals :=
  State.signals_of_quiet (State.quiet_notify_ageing s role before after)

/-- Settles O21: each expiry sets the record, and its consumers leave the quiet view alone. -/
theorem signalExpiriesAgeTheRecord : Obligations.SignalExpiriesAgeTheRecord := by
  intro s k x ha
  constructor
  · intro hx hf
    refine ⟨_, exec_staleTimerExpiry_of_fresh ha hx hf, ?_, State.quiet_notify_ageing _ _ _ _⟩
    rw [signals_notify_ageing, get_setRecord_self]
  · intro hx hl
    refine ⟨_, exec_lossTimerExpiry_of_present ha hx hl, ?_, State.quiet_notify_ageing _ _ _ _⟩
    rw [signals_notify_ageing, get_setRecord_self]

/-! ### The grade window -/

theorem insertSorted_eq_orderedInsert (x : Int) (l : List Int) : insertSorted x l = l.orderedInsert (· ≤ ·) x := by
  induction l with
  | nil => rfl
  | cons y ys ih => rw [insertSorted, List.orderedInsert_cons, ih]

theorem sortInts_eq_insertionSort (l : List Int) : sortInts l = l.insertionSort (· ≤ ·) := by
  induction l with
  | nil => rfl
  | cons x xs ih => rw [sortInts, List.insertionSort_cons, insertSorted_eq_orderedInsert, ih]

/-- R34: a window of fewer than five samples takes one more. -/
theorem pushWindow_of_lt {w : List Int} (h : w.length < 5) (x : Int) : pushWindow w x = w ++ [x] := if_pos h

/-- R34: a window of five samples loses its oldest one. -/
theorem pushWindow_cons_of_full {w : List Int} {y : Int} (h : (y :: w).length = 5) (x : Int) :
    pushWindow (y :: w) x = w ++ [x] := by
  rw [pushWindow, if_neg (by rw [h, windowSize]; decide), List.tail_cons]

/-- R34: g_f is read from the window's samples in ascending order. -/
theorem filteredGrade_sorted (w : List Int) : ∃ sorted : List Int, sorted.Perm w ∧ sorted.Pairwise (· ≤ ·) ∧
    filteredGrade w = sorted[w.length / 2]? :=
  ⟨w.insertionSort (· ≤ ·), List.perm_insertionSort _ w, List.pairwise_insertionSort _ w, by
    rw [filteredGrade, sortInts_eq_insertionSort]⟩

/-! ### The payload limiter -/

/-- R64: a sample at or above payload used is taken up to the maximum. -/
theorem limitPayload_of_le {set : Settings} {used sample : Nat} (h : used ≤ sample) :
    limitPayload set used sample = min sample set.maxPayload := if_pos h

/-- R64: a sample below payload used lowers it by at most the fall step. -/
theorem limitPayload_of_lt {set : Settings} {used sample : Nat} (h : sample < used) :
    limitPayload set used sample = max (used - set.payloadFallStep) sample := if_neg (Nat.not_le.2 h)

/-- R64: what the limiter does to payload used, either way. -/
theorem limitPayload_spec (set : Settings) (used sample : Nat) (hu : used ≤ set.maxPayload) :
    limitPayload set used sample ≤ set.maxPayload ∧
    used ≤ limitPayload set used sample + set.payloadFallStep ∧
    (used ≤ sample → limitPayload set used sample = min sample set.maxPayload) ∧
    (sample < used → sample ≤ limitPayload set used sample ∧ limitPayload set used sample ≤ used ∧
      (limitPayload set used sample = sample ∨ limitPayload set used sample + set.payloadFallStep = used)) := by
  rcases Nat.lt_or_ge sample used with h | h
  · rw [limitPayload_of_lt h]
    omega
  · rw [limitPayload_of_le h]
    omega

/-- R31, R64: an ageing of PAYLOAD to LOST makes payload used the maximum payload setting. -/
theorem payloadUsed_notify_payload_lost (s : State) (before after : SampleRecord) (h : after.age = .lost) :
    (s.notify .payload .ageing before after).calculator.payloadUsed = s.work.settings.maxPayload := by
  have e : s.notify .payload .ageing before after = s.payloadMax.evaluate := if_pos h
  rw [e, State.calculator_payloadUsed_of_calm (State.calm_evaluate _)]
  rfl

/-- Settles O22: the window, the limiter, and the loss of PAYLOAD. -/
theorem gradeAndPayloadAreFiltered : Obligations.GradeAndPayloadAreFiltered := by
  refine ⟨⟨fun _ x h => pushWindow_of_lt h x, fun _ _ x h => pushWindow_cons_of_full h x, filteredGrade_sorted⟩,
    limitPayload_spec, ?_⟩
  intro s k x ha hx hl hb
  refine ⟨_, exec_lossTimerExpiry_of_present ha hx hl, ?_, ?_, State.quiet_notify_ageing _ _ _ _⟩
  · rw [hb, payloadUsed_notify_payload_lost _ _ _ rfl]
    rfl
  · rw [signals_notify_ageing, get_setRecord_self]

end Sys2Proof.Machine.SignalRecords

namespace Sys2Proof.Machine.SignalRecords

/-! What the merger's part in a notice leaves alone, what a record worked afresh (R59) does in each hold state, and the
reversal tracker (R36, R37), which ends in one. -/

/-! ### The merger's part in a notice -/

/-- `t` is `s` but for demand frames made, slots and build confirmation: what the merger does by itself on a notice (R118,
R126). -/
structure MergerOnly (s t : State) : Prop where
  sup : t.sup = s.sup
  park : t.park = s.park
  path : t.path = s.path
  counters : t.counters = s.counters
  calculator : t.calculator = s.calculator
  channels : t.channels = s.channels
  mode : t.merger.mode = s.merger.mode
  calm : t.calm = s.calm

theorem MergerOnly.trans {s t u : State} (h : MergerOnly s t) (h' : MergerOnly t u) : MergerOnly s u :=
  ⟨h'.sup.trans h.sup, h'.park.trans h.park, h'.path.trans h.path, h'.counters.trans h.counters,
    h'.calculator.trans h.calculator, h'.channels.trans h.channels, h'.mode.trans h.mode, h'.calm.trans h.calm⟩

theorem mergerOnly_noticeComponent (s : State) : MergerOnly s s.noticeComponent := by constructor <;> simp

/-- Outside a release handover a confirmed build moves nothing (R98). -/
theorem mergerOnly_noticeConfirm {s : State} (a : Bool) (h : ¬(s.sup.state = .secured ∧ s.sup.handover = true)) :
    MergerOnly s (s.noticeConfirm a) :=
  ⟨s.sup_noticeConfirm a h, s.park_noticeConfirm a h, s.path_noticeConfirm a h, s.counters_noticeConfirm a h,
    s.calculator_noticeConfirm a h, s.channels_noticeConfirm a h, s.merger_mode_noticeConfirm a h, s.calm_noticeConfirm a⟩

theorem mergerOnly_mergerRecord {s : State} (h : ¬(s.sup.state = .secured ∧ s.sup.handover = true)) :
    MergerOnly s s.mergerRecord :=
  (mergerOnly_noticeComponent s).trans (mergerOnly_noticeConfirm false (by simpa using h))

theorem mergerOnly_mergerSet {s : State} (h : ¬(s.sup.state = .secured ∧ s.sup.handover = true)) :
    MergerOnly s s.mergerSet :=
  (mergerOnly_noticeComponent s).trans (mergerOnly_noticeConfirm true (by simpa using h))

theorem no_handover_of_ne_secured {s : State} (h : s.sup.state ≠ .secured) :
    ¬(s.sup.state = .secured ∧ s.sup.handover = true) := fun hc => h hc.1

theorem ne_secured_of_hold {s : State} (h : s.sup.state = .holding ∨ s.sup.state = .releasing) :
    s.sup.state ≠ .secured := by
  rcases h with h | h <;> simp [h]

/-! ### Entry to SECURING, seen through other notices -/

/-- What the merger does after an entry to SECURING takes nothing from it. -/
theorem entersSecuring_mergerOnly {s t u : State} {r : Reason} (h : s.EntersSecuring t r) (hu : MergerOnly t u) :
    s.EntersSecuring u r where
  state := by rw [hu.sup, h.state]
  reason := by rw [hu.sup, h.reason]
  context := by rw [hu.sup, h.context]
  handover := by rw [hu.sup, h.handover]
  park := by rw [hu.park, h.park]
  mode := by rw [hu.mode, h.mode]
  counted := by rw [hu.counters, h.counted]

/-- An entry to SECURING from a state that notices alone have made of `s`, the context and the counters standing but for
what the entry itself takes from the context. -/
theorem entersSecuring_of_calm {s s' t : State} {r : Reason} (h : s'.EntersSecuring t r) (hc : s'.calm = s.calm)
    (hx : (s'.sup.ctx.map fun c => { c with release := none, reinforced := false, holdLimit := none }) =
      s.sup.ctx.map fun c => { c with release := none, reinforced := false, holdLimit := none })
    (hn : s'.counters = s.counters) : s.EntersSecuring t r where
  state := h.state
  reason := h.reason
  context := h.context.trans hx
  handover := h.handover
  park := by rw [h.park, State.now_of_calm hc, State.work_of_calm hc]
  mode := h.mode
  counted := by rw [h.counted, hn]

/-- R88, R90: a SECURING notice in HOLDING and RELEASING. -/
theorem securingNotice_of_hold {s : State} (h : s.sup.state = .holding ∨ s.sup.state = .releasing) (r : Reason) :
    s.securingNotice r = s.enterSecuring r := by
  unfold State.securingNotice; rcases h with h | h <;> rw [h]

theorem securingNotice_enters {s : State} (h : s.sup.state = .holding ∨ s.sup.state = .releasing) (r : Reason) :
    s.EntersSecuring (s.securingNotice r) r := by
  rw [securingNotice_of_hold h]; exact s.enterSecuring_enters r

/-- R94: SECURING does not heed a SECURING notice. -/
theorem securingNotice_of_securing {s : State} (h : s.sup.state = .securing) (r : Reason) : s.securingNotice r = s := by
  unfold State.securingNotice; rw [h]

/-! ### A record worked afresh -/

/-- R85, R99: the tests of STANDBY and UNAVAILABLE are not made in a hold state. -/
theorem testEntry_of_isHold {s : State} (h : s.sup.state.isHold = true) : s.testEntry = s := by
  unfold State.testEntry
  cases hs : s.sup.state with
  | unavailable | standby | checking => simp [hs, SupState.isHold] at h
  | holding | releasing | securing | secured => rfl

theorem isHold_of_hold {s : State} (h : s.sup.state = .holding ∨ s.sup.state = .releasing) :
    s.sup.state.isHold = true := by
  rcases h with h | h <;> rw [h] <;> rfl

theorem testEntry_of_hold {s : State} (h : s.sup.state = .holding ∨ s.sup.state = .releasing) : s.testEntry = s :=
  testEntry_of_isHold (isHold_of_hold h)

theorem recordInHold_of_sufficient {s : State} (h : s.calculator.record.insufficient = false) : s.recordInHold = s := by
  simp [State.recordInHold, h]

theorem recordInHold_of_insufficient {s : State} (h : s.calculator.record.insufficient = true) :
    s.recordInHold = s.securingNotice .insufficient := if_pos h

/-- R59: in HOLDING and RELEASING a sufficient record only reaches the merger. -/
theorem noticeRecord_of_sufficient {s : State} (h : s.sup.state = .holding ∨ s.sup.state = .releasing)
    (hr : s.calculator.record.insufficient = false) : MergerOnly s s.noticeRecord := by
  rw [State.noticeRecord, recordInHold_of_sufficient hr, testEntry_of_hold h]
  exact mergerOnly_mergerRecord (no_handover_of_ne_secured (ne_secured_of_hold h))

/-- R59, R88: in HOLDING and RELEASING an insufficient record secures. -/
theorem noticeRecord_of_insufficient {s : State} (h : s.sup.state = .holding ∨ s.sup.state = .releasing)
    (hr : s.calculator.record.insufficient = true) : s.EntersSecuring s.noticeRecord .insufficient := by
  have he := securingNotice_enters h .insufficient
  rw [State.noticeRecord, recordInHold_of_insufficient hr, testEntry_of_isHold (by simp [he.state, SupState.isHold])]
  exact entersSecuring_mergerOnly he (mergerOnly_mergerRecord (no_handover_of_ne_secured (by simp [he.state])))

/-- R59, R94: in SECURING a record only reaches the merger, sufficient or not. -/
theorem noticeRecord_of_securing {s : State} (h : s.sup.state = .securing) : MergerOnly s s.noticeRecord := by
  have hr : s.recordInHold = s := by
    unfold State.recordInHold
    rw [securingNotice_of_securing h, ite_self]
  rw [State.noticeRecord, hr, testEntry_of_isHold (by simp [h, SupState.isHold])]
  exact mergerOnly_mergerRecord (no_handover_of_ne_secured (by simp [h]))

/-! ### The reversal tracker -/

/-- The sign a nonzero drum speed leaves in the tracker (R36). -/
theorem signOf_of_ne {x : Int} (h : x ≠ 0) : signOf x = if 0 < x then .positive else .negative := if_neg h

/-- R36: a sample of 0. -/
theorem drumSample_zero (s : State) : s.drumSample 0 = s := rfl

/-- R36: a first nonzero sample is kept. -/
theorem drumSample_first {s : State} {x : Int} (hx : x ≠ 0) (hk : s.signals.keptSign = .none) :
    s.drumSample x = { s with signals := { s.signals with keptSign := if 0 < x then .positive else .negative } } := by
  unfold State.drumSample
  rw [signOf_of_ne hx, hk]
  by_cases hp : 0 < x <;> simp only [hp, if_true, if_false]

/-- R36: a sample of the kept sign. -/
theorem drumSample_same {s : State} {x : Int} (hx : x ≠ 0) (hk : s.signals.keptSign = signOf x) : s.drumSample x = s := by
  unfold State.drumSample
  rw [hk, signOf_of_ne hx]
  by_cases hp : 0 < x <;> simp [hp]

/-- R36, R37: a sample of the opposite sign is a drum reversal. -/
theorem drumSample_opposite {s : State} {x : Int} (hx : x ≠ 0) (hn : s.signals.keptSign ≠ .none)
    (hk : s.signals.keptSign ≠ signOf x) : s.drumSample x =
      State.reversal { s with signals := { s.signals with keptSign := if 0 < x then .positive else .negative } } := by
  unfold State.drumSample
  rw [signOf_of_ne hx] at hk ⊢
  cases hs : s.signals.keptSign with
  | none => exact absurd hs hn
  | positive =>
    have hp : ¬0 < x := fun hp => hk (by rw [hs, if_pos hp])
    simp only [if_neg hp, reduceCtorEq, if_false]
  | negative =>
    have hp : 0 < x := by_contra fun hp => hk (by rw [hs, if_neg hp])
    simp only [if_pos hp, reduceCtorEq, if_false]

/-- R37: a drum reversal starts or restarts the window timer; a window of 0 s leaves it as it was. -/
theorem signals_reversal (s : State) : s.reversal.signals = { s.signals with
    reversal := if s.work.settings.reversalWindow = 0 then s.signals.reversal
      else some ⟨s.now, 1000 * s.work.settings.reversalWindow⟩ } := by
  unfold State.reversal
  dsimp only
  split
  · rfl
  · split
    · rfl
    · rw [State.signals_of_calm (State.calm_evaluate _)]
      rfl

/-- R37: REVERSAL_WINDOW_EXPIRY stops the timer, and the calculator works afresh. -/
theorem exec_reversalWindowExpiry {s : State} {x : Running} (ha : s.awake = true) (hx : s.signals.reversal = some x) :
    exec .reversalWindowExpiry s =
      .next (State.evaluate { s.reach x with signals := { s.signals with reversal := none } }) := by
  show execReversalWindowExpiry s = _
  simp only [execReversalWindowExpiry, expiring_of_awake ha, hx]

/-- R59: in SECURING the record stands as the evaluation gives it. -/
theorem record_evaluate_of_securing {s : State} (h : s.sup.state = .securing) :
    s.evaluate.calculator.record = s.evaluation := by
  rw [State.evaluate, (noticeRecord_of_securing (s := s.evaluateCore) h).calculator]
  rfl

/-- R32: what a role shows depends on the signal block alone. -/
theorem effective_congr {s t : State} (h : t.signals = s.signals) (r : Role) : t.effective r = s.effective r := by
  simp only [State.effective, State.roleRecord, State.signalOf, h]

/-- R61: the inputs of the record: the signals, the working copies, the derived values of the channels, the calculator's own
state and the hold context. -/
theorem evaluation_congr {s t : State} (hs : t.signals = s.signals) (hw : t.work = s.work)
    (hd : t.channels.derived = s.channels.derived) (hc : t.calculator = s.calculator) (hx : t.sup.ctx = s.sup.ctx) :
    t.evaluation = s.evaluation := by
  have hg : t.gf = s.gf := by rw [State.gf, State.gf, hs]
  have he : t.escalation = s.escalation := by rw [State.escalation, State.escalation, hx]
  have hr : t.reservoirValue = s.reservoirValue := by
    simp only [State.reservoirValue, State.roleRecord, State.signalOf, hs]
  unfold State.evaluation
  rw [hg, hc, hw, hd, he, hr, hs, effective_congr hs]

/-- Settles O23: the tracker's four cases, and the window's expiry. -/
theorem oppositeDrumSpeedOpensTheReversalWindow : Obligations.OppositeDrumSpeedOpensTheReversalWindow := by
  refine ⟨fun s x => ⟨?_, drumSample_first, ?_, ?_⟩, ?_⟩
  · rintro rfl
    exact drumSample_zero s
  · rintro (⟨hx, hk⟩ | ⟨hx, hk⟩)
    · exact drumSample_same hx.ne' (by rw [hk, signOf_of_ne hx.ne', if_pos hx])
    · exact drumSample_same hx.ne (by rw [hk, signOf_of_ne hx.ne, if_neg hx.not_gt])
  · intro h
    have hop : x ≠ 0 ∧ s.signals.keptSign ≠ .none ∧ s.signals.keptSign ≠ signOf x := by
      rcases h with ⟨hx, hk⟩ | ⟨hx, hk⟩
      · exact ⟨hx.ne', by simp [hk], by simp [hk, signOf_of_ne hx.ne', hx]⟩
      · exact ⟨hx.ne, by simp [hk], by simp [hk, signOf_of_ne hx.ne, hx.not_gt]⟩
    obtain ⟨hx, hn, hk⟩ := hop
    simp only [drumSample_opposite hx hn hk, signals_reversal, and_self]
  · intro s x ha hx
    refine ⟨_, exec_reversalWindowExpiry ha hx, State.signals_of_calm (State.calm_evaluate _), State.calm_evaluate _, ?_⟩
    intro hsec
    refine (record_evaluate_of_securing ?_).trans (evaluation_congr ?_ ?_ ?_ ?_ ?_)
    · exact hsec
    all_goals rfl

end Sys2Proof.Machine.SignalRecords

namespace Sys2Proof.Machine.SignalRecords

/-! Which wheels are watched, what one that is not loses (R104, R108), and the notice of fewer than two (R88, R90). -/

/-! ### A role whose record has changed -/

/-- R32: the role bound to record `k` shows the record as set. -/
theorem effective_setRecord_self {s : State} {k : Fin 20} {role : Role} (h : s.signalOf role = some k) (r : SampleRecord) :
    (s.setRecord k r).effective role = r.effective := by
  have hr : (s.setRecord k r).roleRecord role = some r := by
    show (s.signalOf role).map (fun j => (s.setRecord k r).signals.records.get j) = _
    rw [h, Option.map_some, get_setRecord_self]
  rw [State.effective, hr]

/-- R32: a role not bound to record `k` shows what it showed. -/
theorem effective_setRecord_of_ne {s : State} {k : Fin 20} {role : Role} (h : s.signalOf role ≠ some k)
    (r : SampleRecord) : (s.setRecord k r).effective role = s.effective role := by
  have hr : (s.setRecord k r).roleRecord role = s.roleRecord role := by
    show (s.signalOf role).map (fun j => (s.setRecord k r).signals.records.get j) = (s.signalOf role).map _
    cases hs : s.signalOf role with
    | none => rfl
    | some j => exact congrArg some (get_setRecord_of_ne s r fun e => h (by rw [hs, e]))
  rw [State.effective, State.effective, hr]

/-- R24: the signal a role is bound to has that role. -/
theorem binding_of_signalOf {s : State} {role : Role} {k : Fin 20} (h : s.signalOf role = some k) :
    s.signals.bindings.get k = role := by
  unfold State.signalOf at h
  split at h
  · cases h
  · exact of_decide_eq_true (List.find?_some (p := fun k => decide (s.signals.bindings.get k = role)) h)

/-! ### Watched -/

/-- R104: a wheel is watched when its role is bound and its record is not LOST. -/
theorem wheelWatched_iff (s : State) (w : Wheel) : s.wheelWatched w = true ↔
    ∃ k, s.signalOf (.wheel w) = some k ∧ (s.signals.records.get k).age ≠ .lost := by
  unfold State.wheelWatched State.effective State.roleRecord
  cases s.signalOf (.wheel w) with
  | none => simp
  | some k =>
    simp only [Option.map_some, Option.some.injEq, exists_eq_left', SampleRecord.effective]
    cases (s.signals.records.get k).age <;> simp

/-- R104: the loss of a WHEEL record ends the watching of its wheel and of no other. -/
theorem wheelWatched_afterLoss {s : State} {k : Fin 20} {w : Wheel} (h : s.signalOf (.wheel w) = some k) (x : Running)
    (v : Wheel) : (afterLoss s k x).wheelWatched v = (s.wheelWatched v && decide (v ≠ w)) := by
  by_cases hv : v = w
  · subst hv
    have he : (afterLoss s k x).effective (.wheel v) = .lost := effective_setRecord_self (s := s.reach x) h _
    simp [State.wheelWatched, he]
  · have hn : s.signalOf (.wheel v) ≠ some k := fun hk =>
      hv (Role.wheel.inj ((binding_of_signalOf hk).symm.trans (binding_of_signalOf h)))
    have he : (afterLoss s k x).effective (.wheel v) = s.effective (.wheel v) :=
      effective_setRecord_of_ne (s := s.reach x) hn _
    simp [State.wheelWatched, he, hv]

/-! ### Tracking -/

theorem watch_true (t : Track) : t.watch true = { t with watched := true } := rfl

theorem watch_false (t : Track) : t.watch false = ⟨false, none, .stopped, false⟩ := rfl

theorem watched_watch (t : Track) (b : Bool) : (t.watch b).watched = b := by cases b <;> rfl

/-- R104, R108: each tracking record by whether its wheel is watched. -/
theorem track_trackWheels (s : State) (w : Wheel) :
    s.trackWheels.creep.wheels.get w = (s.creep.wheels.get w).watch (s.wheelWatched w) := by
  show (PerWheel.build fun w => (s.creep.wheels.get w).watch (s.wheelWatched w)).get w = _
  rw [PerWheel.get_build]

/-- R104: the number of watched wheels. -/
theorem watchedCount_trackWheels (s : State) :
    s.trackWheels.creep.watchedCount = (Wheel.all.filter s.wheelWatched).length := by
  show countWatched s.trackWheels.creep.wheels = _
  simp only [countWatched, track_trackWheels, watched_watch]

/-- R108: a context's entry loses its reference with the wheel, its accumulators stand. -/
theorem entry_trackWheels {s : State} {c : Context} {w : Wheel} {e : WheelEntry} (hc : s.sup.ctx = some c)
    (he : c.wheels.get w = some e) : ∃ c', s.trackWheels.sup.ctx = some c' ∧
      c'.wheels.get w = some (if s.wheelWatched w then e else { e with reference := none }) := by
  refine ⟨c.unwatch s.trackWheels.creep.wheels, ?_, ?_⟩
  · show s.sup.ctx.map _ = _
    rw [hc]
    rfl
  · simp only [Context.unwatch, PerWheel.get_build, he, Option.map_some, track_trackWheels, watched_watch]

/-! ### The notices of a changed number -/

/-- R104, R107: where the notice of the number leaves a hold state, a rest report that follows does nothing. -/
theorem tellWheels_of_isHold {s t : State} {before : Creep}
    (ht : (if s.creep.watchedCount ≠ before.watchedCount ∧ s.creep.watchedCount < 2 then s.securingNotice .wheelLost
      else s) = t) (h : t.sup.state.isHold = true) : s.tellWheels before = t := by
  unfold State.tellWheels
  dsimp only
  rw [ht, testEntry_of_isHold h, ite_self]

/-- R88, R90: in HOLDING and RELEASING a number that has changed to below two secures. -/
theorem tellWheels_of_below {s : State} {before : Creep} (h : s.sup.state = .holding ∨ s.sup.state = .releasing)
    (hn : s.creep.watchedCount ≠ before.watchedCount) (hlt : s.creep.watchedCount < 2) :
    s.EntersSecuring (s.tellWheels before) .wheelLost := by
  have he := securingNotice_enters h .wheelLost
  rw [tellWheels_of_isHold (if_pos ⟨hn, hlt⟩) (by rw [he.state]; rfl)]
  exact he

/-- R88, R90: in HOLDING and RELEASING two watched wheels or more are no matter. -/
theorem tellWheels_of_enough {s : State} {before : Creep} (h : s.sup.state = .holding ∨ s.sup.state = .releasing)
    (hge : 2 ≤ s.creep.watchedCount) : s.tellWheels before = s :=
  tellWheels_of_isHold (if_neg fun hc => Nat.not_lt.2 hge hc.2) (isHold_of_hold h)

/-- R104: the notices leave the tracking as it was worked. -/
theorem creep_watchWheels (s : State) : s.watchWheels.creep = s.trackWheels.creep :=
  State.creep_of_calm (State.calm_tellWheels _ _)

/-- Settles O31: the tracking worked afresh, and the loss of a WHEEL record. -/
theorem unwatchedWheelLosesItsTracking : Obligations.UnwatchedWheelLosesItsTracking := by
  constructor
  · intro s w
    refine ⟨wheelWatched_iff s w, fun h => ?_, fun h => ?_, watchedCount_trackWheels s, fun _ _ => entry_trackWheels⟩
    · rw [track_trackWheels, h, watch_true]
    · rw [track_trackWheels, h, watch_false]
  · intro s k w x ha hb hk hx hl
    have hcount : (afterLoss s k x).watchWheels.creep.watchedCount =
        (Wheel.all.filter fun v => s.wheelWatched v && decide (v ≠ w)).length := by
      rw [creep_watchWheels, watchedCount_trackWheels, funext (wheelWatched_afterLoss hk x)]
    have htrack (v : Wheel) : (afterLoss s k x).watchWheels.creep.wheels.get v =
        (s.creep.wheels.get v).watch (s.wheelWatched v && decide (v ≠ w)) := by
      rw [creep_watchWheels, track_trackWheels, wheelWatched_afterLoss hk]
      rfl
    refine ⟨(afterLoss s k x).watchWheels, ?_, ?_, ?_, hcount, ?_⟩
    · rw [exec_lossTimerExpiry_of_present ha hx hl, hb]
      rfl
    · rw [htrack, decide_eq_false (not_not.2 rfl), Bool.and_false, watch_false]
    · intro v hv hw
      rw [htrack, hw, decide_eq_true hv, Bool.and_true, watch_true]
    · intro hs
      rw [creep_watchWheels]
      refine ⟨fun hlt hn => ?_, fun hge => ?_⟩
      · have he : (afterLoss s k x).trackWheels.EntersSecuring (afterLoss s k x).watchWheels .wheelLost :=
          tellWheels_of_below hs hn hlt
        exact ⟨he.state, he.reason, by rw [he.park], he.counted⟩
      · have he : (afterLoss s k x).watchWheels = (afterLoss s k x).trackWheels := tellWheels_of_enough hs hge
        rw [he]
        exact ⟨rfl, rfl, rfl⟩

end Sys2Proof.Machine.SignalRecords

namespace Sys2Proof.Machine.SignalRecords

/-! The drive-away test (R73, R74), the supervisor's moves between HOLDING and RELEASING (R89, R90), and the notice of torque
and ratio that makes them (R75, R88). -/

/-! ### The test -/

/-- R74: the product rounded up to the thousand is reached. -/
theorem uphillRequirement_le_iff (set : Settings) (load force : Nat) :
    uphillRequirement set load ≤ force ↔ load * (1000 + set.releaseMargin) ≤ 1000 * force := by
  unfold uphillRequirement ceilDiv
  generalize load * (1000 + set.releaseMargin) = n
  omega

/-- R73: F_drive is the product over a million, rounded down. -/
theorem driveForce_spec (set : Settings) (torque : Nat) (ratio : Int) :
    1000000 * driveForce set torque ratio ≤ torque * ratio.natAbs * set.drivelineFactor ∧
    torque * ratio.natAbs * set.drivelineFactor < 1000000 * driveForce set torque ratio + 1000000 := by
  unfold driveForce
  generalize torque * ratio.natAbs * set.drivelineFactor = n
  omega

section
variable {s : State} {torque ratio : Int} {a b : Bool}

/-- R74: without an uphill direction the test fails. -/
theorem driveTest_none (ht : s.effective .engineTorque = .value torque a) (hr : s.effective .gearRatio = .value ratio b) :
    s.driveTest none = (.fail, driveForce s.work.settings torque.toNat ratio) := by
  unfold State.driveTest; rw [ht, hr]

/-- R74: the test in an uphill direction. -/
theorem driveTest_some (ht : s.effective .engineTorque = .value torque a) (hr : s.effective .gearRatio = .value ratio b)
    (u : Heading) : s.driveTest (some u) =
      (if ratio = 0 then .fail
       else if gearUphill u ratio then
         if s.gf.isSome = true ∧ s.calculator.record.load * (1000 + s.work.settings.releaseMargin) ≤
            1000 * driveForce s.work.settings torque.toNat ratio then .passUphill else .fail
       else if (s.work.settings.downhillTorque : Int) ≤ torque then .passDownhill else .fail,
       driveForce s.work.settings torque.toNat ratio) := by
  unfold State.driveTest
  rw [ht, hr]
  simp only [Bool.and_eq_true, decide_eq_true_eq, uphillRequirement_le_iff]
  split_ifs <;> rfl

/-- R73: the drive force, whatever the direction. -/
theorem driveTest_force (ht : s.effective .engineTorque = .value torque a)
    (hr : s.effective .gearRatio = .value ratio b) (up : Option Heading) :
    (s.driveTest up).2 = driveForce s.work.settings torque.toNat ratio := by
  cases up with
  | none => rw [driveTest_none ht hr]
  | some u => rw [driveTest_some ht hr]

/-- R74: a pass UPHILL. -/
theorem driveTest_passUphill_iff (ht : s.effective .engineTorque = .value torque a)
    (hr : s.effective .gearRatio = .value ratio b) (up : Option Heading) :
    (s.driveTest up).1 = .passUphill ↔
      ((up = some .forward ∧ 0 < ratio) ∨ (up = some .backward ∧ ratio < 0)) ∧ s.gf.isSome = true ∧
        s.calculator.record.load * (1000 + s.work.settings.releaseMargin) ≤ 1000 * (s.driveTest up).2 := by
  rw [driveTest_force ht hr]
  cases up with
  | none => simp [driveTest_none ht hr]
  | some u =>
    rw [driveTest_some ht hr]
    rcases lt_trichotomy ratio 0 with hs | rfl | hs
    · cases u <;> simp [gearUphill, hs, hs.ne, hs.not_gt, ite_eq_iff]
    · simp
    · cases u <;> simp [gearUphill, hs, hs.ne', hs.not_gt, ite_eq_iff]

/-- R74: a pass DOWNHILL. -/
theorem driveTest_passDownhill_iff (ht : s.effective .engineTorque = .value torque a)
    (hr : s.effective .gearRatio = .value ratio b) (up : Option Heading) :
    (s.driveTest up).1 = .passDownhill ↔
      ((up = some .forward ∧ ratio < 0) ∨ (up = some .backward ∧ 0 < ratio)) ∧
        (s.work.settings.downhillTorque : Int) ≤ torque := by
  cases up with
  | none => simp [driveTest_none ht hr]
  | some u =>
    rw [driveTest_some ht hr]
    rcases lt_trichotomy ratio 0 with hs | rfl | hs
    · cases u <;> simp [gearUphill, hs, hs.ne, hs.not_gt, ite_eq_iff]
    · simp
    · cases u <;> simp [gearUphill, hs, hs.ne', hs.not_gt, ite_eq_iff]

end

/-- R74: without torque or ratio the test fails. -/
theorem driveTest_of_missing {s : State} (up : Option Heading)
    (h : s.effective .engineTorque = .lost ∨ s.effective .engineTorque = .unbound ∨ s.effective .gearRatio = .lost ∨
      s.effective .gearRatio = .unbound) : s.driveTest up = (.fail, 0) := by
  unfold State.driveTest
  rcases h with h | h | h | h
  · rw [h]
  · rw [h]
  · rw [h]; cases s.effective .engineTorque <;> rfl
  · rw [h]; cases s.effective .engineTorque <;> rfl

theorem sup_workDriveTest (s : State) (up : Option Heading) : (s.workDriveTest up).sup = s.sup := rfl

/-! ### Build confirmation under a frame made -/

theorem conf_setSlot (m : Merger) (n : SlotName) (x : Slot) : (m.setSlot n x).conf = m.conf := by cases n <;> rfl

theorem conf_place (m : Merger) (f : Frame) (t : Timer) : (m.place f t).conf = m.conf := by
  unfold Merger.place Merger.load
  dsimp only
  split
  · split <;> simp only [conf_setSlot]
  · split <;> simp only [conf_setSlot]

theorem conf_restartRefresh (s : State) : s.restartRefresh.merger.conf = s.merger.conf := by
  unfold State.restartRefresh; split <;> rfl

theorem conf_makeDemand (s : State) : s.makeDemand.merger.conf = s.merger.conf := by
  unfold State.makeDemand
  split
  · rw [conf_restartRefresh]
  · rw [conf_restartRefresh]
    exact conf_place _ _ _

theorem conf_noticeComponent (s : State) : s.noticeComponent.merger.conf = s.merger.conf := by
  unfold State.noticeComponent State.makeForComponent
  split
  · rfl
  · split <;> simp only [conf_makeDemand]

/-- R126: under RAMP no build confirmation runs. -/
theorem conf_handMode_ramp (s : State) (a : Bool) : (s.handMode .ramp a).merger.conf = .idle := by
  have hl : (s.setMode .ramp).noticeComponent.levelInForce = none := by
    unfold State.levelInForce
    rw [State.merger_mode_noticeComponent, State.merger_mode_setMode]
  unfold State.handMode State.noticeConfirm
  rw [hl]
  exact conf_noticeComponent _

/-! ### Between HOLDING and RELEASING -/

/-- R89: the supervisor after entry to RELEASING: the ramp starts from the target. -/
theorem sup_enterReleasing (s : State) (d : ReleaseDir) : (s.enterReleasing d).sup = { s.sup with
    state := .releasing, reason := .none
    ctx := s.sup.ctx.map fun c => { c with
      release := some ⟨s.calculator.record.target, ⟨s.now, s.work.settings.rampTime⟩, d⟩ } } := by
  unfold State.enterReleasing
  rw [State.sup_handMode _ _ _ (no_handover_of_ne_secured (by simp))]
  simp

theorem mode_enterReleasing (s : State) (d : ReleaseDir) : (s.enterReleasing d).merger.mode = .ramp :=
  State.merger_mode_handMode _ _ _ (no_handover_of_ne_secured (by simp))

theorem conf_enterReleasing (s : State) (d : ReleaseDir) : (s.enterReleasing d).merger.conf = .idle :=
  conf_handMode_ramp _ _

theorem calculator_enterReleasing (s : State) (d : ReleaseDir) : (s.enterReleasing d).calculator = s.calculator := by
  unfold State.enterReleasing
  rw [State.calculator_handMode _ _ _ (no_handover_of_ne_secured (by simp))]
  simp

theorem counters_enterReleasing (s : State) (d : ReleaseDir) : (s.enterReleasing d).counters = s.counters := by
  unfold State.enterReleasing
  rw [State.counters_handMode _ _ _ (no_handover_of_ne_secured (by simp))]
  simp

/-- R90: the supervisor back in HOLDING: the release part is gone. -/
theorem sup_returnToHolding (s : State) : s.returnToHolding.sup = { s.sup with
    state := .holding, reason := .none, ctx := s.sup.ctx.map fun c => { c with release := none } } := by
  unfold State.returnToHolding
  rw [State.sup_handMode _ _ _ (no_handover_of_ne_secured (by simp))]
  simp

theorem mode_returnToHolding (s : State) : s.returnToHolding.merger.mode = .hold :=
  State.merger_mode_handMode _ _ _ (no_handover_of_ne_secured (by simp))

theorem park_returnToHolding (s : State) : s.returnToHolding.park = { s.park with holdInForce := true } := by
  unfold State.returnToHolding
  rw [State.park_handMode _ _ _ (no_handover_of_ne_secured (by simp))]
  simp [SupState.isHold]

theorem calculator_returnToHolding (s : State) : s.returnToHolding.calculator = s.calculator := by
  unfold State.returnToHolding
  rw [State.calculator_handMode _ _ _ (no_handover_of_ne_secured (by simp))]
  simp

theorem counters_returnToHolding (s : State) : s.returnToHolding.counters = s.counters := by
  unfold State.returnToHolding
  rw [State.counters_handMode _ _ _ (no_handover_of_ne_secured (by simp))]
  simp

/-! ### An outcome handed on -/

/-- The release direction of a pass (R88, R90). -/
def passDir (o : DriveOutcome) : ReleaseDir := if o = .passUphill then .uphill else .downhill

/-- R88: HOLDING goes on a pass to RELEASING. -/
theorem driveOutcome_holding_pass {s : State} {o : DriveOutcome} (h : s.sup.state = .holding) (ho : o ≠ .fail) :
    s.driveOutcome o = s.enterReleasing (passDir o) := by
  unfold State.driveOutcome
  rw [h]
  cases o with
  | fail => exact absurd rfl ho
  | passUphill => rfl
  | passDownhill => rfl

/-- R88: HOLDING stays on FAIL. -/
theorem driveOutcome_holding_fail {s : State} (h : s.sup.state = .holding) : s.driveOutcome .fail = s := by
  unfold State.driveOutcome; rw [h]

/-- R90: RELEASING goes on FAIL back to HOLDING. -/
theorem driveOutcome_releasing_fail {s : State} (h : s.sup.state = .releasing) :
    s.driveOutcome .fail = s.returnToHolding := by
  unfold State.driveOutcome; rw [h]

/-- R90: RELEASING takes the direction of a pass. -/
theorem driveOutcome_releasing_pass {s : State} {o : DriveOutcome} (h : s.sup.state = .releasing) (ho : o ≠ .fail) :
    s.driveOutcome o =
      s.mapContext fun c => { c with release := c.release.map fun r => { r with dir := passDir o } } := by
  unfold State.driveOutcome
  rw [h]
  cases o with
  | fail => exact absurd rfl ho
  | passUphill => rfl
  | passDownhill => rfl

/-- An outcome handed on touches neither the calculator nor a counter (R75). -/
theorem driveOutcome_keeps {s : State} (h : s.sup.state = .holding ∨ s.sup.state = .releasing) (o : DriveOutcome) :
    (s.driveOutcome o).calculator = s.calculator ∧ (s.driveOutcome o).counters = s.counters := by
  by_cases ho : o = .fail
  · subst ho
    rcases h with h | h
    · rw [driveOutcome_holding_fail h]
      exact ⟨rfl, rfl⟩
    · rw [driveOutcome_releasing_fail h]
      exact ⟨calculator_returnToHolding s, counters_returnToHolding s⟩
  · rcases h with h | h
    · rw [driveOutcome_holding_pass h ho]
      exact ⟨calculator_enterReleasing s _, counters_enterReleasing s _⟩
    · rw [driveOutcome_releasing_pass h ho]
      exact ⟨rfl, rfl⟩

/-! ### The notice of torque or ratio -/

/-- R75: in HOLDING and RELEASING the notice works the test in the context's direction. -/
theorem driveNotice_of_hold {s : State} {c : Context} (h : s.sup.state = .holding ∨ s.sup.state = .releasing)
    (hc : s.sup.ctx = some c) :
    s.driveNotice = (s.workDriveTest c.uphill).driveOutcome (s.driveTest c.uphill).1 := by
  unfold State.driveNotice
  rcases h with h | h <;> rw [h, hc] <;> rfl

/-- R75: in the other states the notice does not work it. -/
theorem driveNotice_elsewhere {s : State} (h : s.sup.state ≠ .holding) (h' : s.sup.state ≠ .releasing) :
    s.driveNotice = s := by
  unfold State.driveNotice
  cases hs : s.sup.state with
  | holding => exact absurd hs h
  | releasing => exact absurd hs h'
  | unavailable | standby | checking | securing | secured => rfl

/-- R90: RELEASING, a failed test: back to HOLDING. -/
theorem driveNotice_releasing_fail {s : State} {c : Context} (h : s.sup.state = .releasing) (hc : s.sup.ctx = some c)
    (ho : (s.driveTest c.uphill).1 = .fail) :
    s.driveNotice.merger.mode = .hold ∧ s.driveNotice.park = { s.park with holdInForce := true } ∧
      s.driveNotice.sup = { s.sup with state := .holding, reason := .none, ctx := some { c with release := none } } := by
  rw [driveNotice_of_hold (.inr h) hc, ho, driveOutcome_releasing_fail (s := s.workDriveTest c.uphill) h,
    mode_returnToHolding, park_returnToHolding, sup_returnToHolding]
  refine ⟨rfl, rfl, ?_⟩
  rw [sup_workDriveTest, hc]
  rfl

/-- R88, R89: HOLDING, a passed test: RELEASING. -/
theorem driveNotice_holding_pass {s : State} {c : Context} (h : s.sup.state = .holding) (hc : s.sup.ctx = some c)
    (ho : (s.driveTest c.uphill).1 ≠ .fail) :
    s.driveNotice.merger.mode = .ramp ∧ s.driveNotice.merger.conf = .idle ∧
      s.driveNotice.sup = { s.sup with state := .releasing, reason := .none, ctx := some { c with
        release := some ⟨s.calculator.record.target, ⟨s.now, s.work.settings.rampTime⟩,
          passDir (s.driveTest c.uphill).1⟩ } } := by
  rw [driveNotice_of_hold (.inl h) hc, driveOutcome_holding_pass (s := s.workDriveTest c.uphill) h ho,
    mode_enterReleasing, conf_enterReleasing, sup_enterReleasing]
  refine ⟨rfl, rfl, ?_⟩
  rw [sup_workDriveTest, hc]
  rfl

/-- R90: RELEASING, a passed test: its direction. -/
theorem driveNotice_releasing_pass {s : State} {c : Context} {rel : Release} (h : s.sup.state = .releasing)
    (hc : s.sup.ctx = some c) (hr : c.release = some rel) (ho : (s.driveTest c.uphill).1 ≠ .fail) :
    s.driveNotice.merger = s.merger ∧ s.driveNotice.sup = { s.sup with
      ctx := some { c with release := some { rel with dir := passDir (s.driveTest c.uphill).1 } } } := by
  rw [driveNotice_of_hold (.inr h) hc, driveOutcome_releasing_pass (s := s.workDriveTest c.uphill) h ho]
  refine ⟨rfl, ?_⟩
  rw [State.sup_mapContext, sup_workDriveTest, hc, Option.map_some, hr]
  rfl

/-- Settles O36: the test's outcomes, the moves they make, and the loss of ENGINE_TORQUE in RELEASING. -/
theorem driveAwayTestReleasesAndReturns : Obligations.DriveAwayTestReleasesAndReturns := by
  refine ⟨?_, fun s up h => driveTest_of_missing up h, ?_, fun s => driveNotice_elsewhere, ?_⟩
  · intro s up torque ratio a b ht hr
    refine ⟨?_, ?_, driveTest_passUphill_iff ht hr up, driveTest_passDownhill_iff ht hr up⟩
    · rw [driveTest_force ht hr]; exact (driveForce_spec _ _ _).1
    · rw [driveTest_force ht hr]; exact (driveForce_spec _ _ _).2
  · intro s c hc
    refine ⟨fun h => ?_, fun h ho => driveNotice_holding_pass h hc ho, fun h ho => ?_, fun h ho => ?_,
      fun rel h ho hr => driveNotice_releasing_pass h hc hr ho⟩
    · obtain ⟨hcalc, hcount⟩ := driveOutcome_keeps (s := s.workDriveTest c.uphill) h (s.driveTest c.uphill).1
      rw [driveNotice_of_hold h hc]
      exact ⟨hcalc, State.calm_driveOutcome _ _, hcount⟩
    · rw [driveNotice_of_hold (.inl h) hc, ho, driveOutcome_holding_fail (s := s.workDriveTest c.uphill) h]
      exact ⟨rfl, rfl⟩
    · obtain ⟨hmode, -, hsup⟩ := driveNotice_releasing_fail h hc ho
      exact ⟨hmode, hsup⟩
  · intro s k x c ha hs hc hb hk hx hl
    have hlost : (afterLoss s k x).effective .engineTorque = .lost := effective_setRecord_self (s := s.reach x) hk _
    refine ⟨(afterLoss s k x).driveNotice, ?_, driveNotice_releasing_fail hs hc ?_⟩
    · rw [exec_lossTimerExpiry_of_present ha hx hl, hb]
      rfl
    · rw [driveTest_of_missing _ (.inl hlost)]

end Sys2Proof.Machine.SignalRecords

namespace Sys2Proof.Machine.SignalRecords

/-! The ways out of HOLDING and RELEASING by a timer or a notice (R78, R81, R88, R90, R91): entry to STANDBY where no further
entry follows, the SECURING notices of signals that have gone LOST, and a usable set that has become empty. -/

/-! ### The timers of the hold context -/

/-- R88, R90: HOLD_LIMIT_EXPIRY with the timer running. -/
theorem exec_holdLimitExpiry {s : State} {c : Context} {x : Running} (ha : s.awake = true) (hc : s.sup.ctx = some c)
    (hx : c.holdLimit = some x) : exec .holdLimitExpiry s = .next (s.reach x).holdLimitReached := by
  have ht : s.holdLimitTimerOf = some x := by rw [State.holdLimitTimerOf, hc, Option.bind_some, hx]
  show execHoldLimitExpiry s = _
  simp only [execHoldLimitExpiry, expiring_of_awake ha, ht]

/-- R88, R90: the hold limit secures; the context's own timer is stopped first, which entry to SECURING does too. -/
theorem holdLimitReached_enters {s : State} (h : s.sup.state = .holding ∨ s.sup.state = .releasing) :
    s.EntersSecuring s.holdLimitReached .holdLimit := by
  refine entersSecuring_of_calm (securingNotice_enters (s := s.mapContext fun c => { c with holdLimit := none }) h _)
    (State.calm_mapContext _ _) ?_ rfl
  rw [State.sup_mapContext, Option.map_map]
  rfl

/-- R90: RAMP_TIMER_EXPIRY in RELEASING. -/
theorem exec_rampTimerExpiry {s : State} {c : Context} {rel : Release} (ha : s.awake = true)
    (hs : s.sup.state = .releasing) (hc : s.sup.ctx = some c) (hr : c.release = some rel) :
    exec .rampTimerExpiry s = .next ((s.reach rel.ramp).enterStandby .none) := by
  have ht : s.rampTimerOf = some rel.ramp := by
    rw [State.rampTimerOf, if_pos hs, hc, Option.bind_some, hr, Option.map_some]
  show execRampTimerExpiry s = _
  simp only [execRampTimerExpiry, expiring_of_awake ha, ht]

/-! ### Entry to STANDBY -/

/-- No entry to HOLDING or CHECKING follows an entry to STANDBY: auto-check is off, and the driver does not brake or the
spring brake shows applied (R84, R99). -/
def StaysInStandby (s : State) : Prop :=
  s.work.settings.autoCheck = false ∧ (s.driverBraking = false ∨ s.parkApplied = true)

/-- What keeps the part in STANDBY is not changed by notices. -/
theorem staysInStandby_of_calm {s t : State} (hs : StaysInStandby s) (h : t.calm = s.calm) : StaysInStandby t := by
  have hd : t.driverDemand = s.driverDemand := by
    funext c
    rw [State.driverDemand, State.driverDemand, State.merger_driver_of_calm h]
  have hb : t.driverBraking = s.driverBraking := by
    rw [State.driverBraking, State.driverBraking, State.work_of_calm h, hd]
  have hp : t.parkApplied = s.parkApplied := by
    rw [State.parkApplied, State.parkApplied, effective_congr (State.signals_of_calm h)]
  unfold StaysInStandby
  rw [State.work_of_calm h, hb, hp]
  exact hs

/-- R84: with no driver demand, or with the spring brake applied, the conditions of entry to HOLDING are not met. -/
theorem entryMet_eq_false {s : State} (h : s.driverBraking = false ∨ s.parkApplied = true) : s.entryMet = false := by
  rcases h with h | h <;> simp [State.entryMet, h]

/-- R85: in STANDBY, where no entry follows, only the drive-away test is worked. -/
theorem testEntry_of_standby {s : State} (hs : s.sup.state = .standby) (h : StaysInStandby s) :
    s.testEntry = s.workDriveTest (headingOf s.gf) := by
  have hm : (s.workDriveTest (headingOf s.gf)).entryMet = false := entryMet_eq_false h.2
  have hh : s.testHold = s.workDriveTest (headingOf s.gf) := by
    unfold State.testHold
    rw [if_pos hs]
    dsimp only
    rw [hm]
    rfl
  have hc : (s.workDriveTest (headingOf s.gf)).testCheck = s.workDriveTest (headingOf s.gf) := by
    have ha : (s.workDriveTest (headingOf s.gf)).work.settings.autoCheck = false := h.1
    simp [State.testCheck, ha]
  unfold State.testEntry
  rw [hs]
  dsimp only
  rw [hh, hc]

/-- What entry to STANDBY leaves (R52, R78, R81, R120, R132): `s` is the state that the entry is made from. -/
structure EntersStandby (s t : State) (r : Reason) : Prop where
  sup : t.sup = ⟨.standby, r, none, false, s.sup.autoPending⟩
  park : t.park = { s.park with holdInForce := false }
  mode : t.merger.mode = .none
  refresh : t.merger.refresh = none
  records : ∀ k, t.channels.records.get k = (s.channels.records.get k).standby
  calm : t.calm = s.calm

theorem merger_makeCab (s : State) : s.makeCab.merger = s.merger := by
  unfold State.makeCab; dsimp only; split <;> rfl

theorem merger_tendSleep (s : State) : s.tendSleep.merger = s.merger := by
  unfold State.tendSleep; split <;> rfl

/-- R120: outside the hold states a move stops the refresh timer. -/
theorem refresh_move {s : State} {st : SupState} (h : st.isHold = false) (r : Reason) :
    (s.move st r).merger.refresh = none := by
  unfold State.move
  rw [merger_makeCab, merger_tendSleep]
  unfold State.enterRefresh
  rw [if_neg (by simp [h])]

/-- R52: each channel's record as entry to STANDBY makes it. -/
theorem records_channelsStandby (s : State) (k : Chan) :
    s.channelsStandby.channels.records.get k = (s.channels.records.get k).standby := by
  show (PerChan.build fun c => (s.channels.records.get c).standby).get k = _
  rw [PerChan.get_build]

/-- The state in STANDBY, its channels returned, of which the record is then worked afresh or not (R52, R60, R81). -/
def inStandby (s : State) (r : Reason) : State :=
  ((State.move { s with sup := { s.sup with ctx := none, handover := false } } .standby r).setMode .none).channelsStandby

theorem enterStandbyCore_eq_or (s : State) (r : Reason) :
    s.enterStandbyCore r = (inStandby s r).evaluateCore ∨ s.enterStandbyCore r = inStandby s r := by
  unfold State.enterStandbyCore
  dsimp only
  split
  · exact .inl rfl
  · exact .inr rfl

theorem inStandby_enters (s : State) (r : Reason) : EntersStandby s (inStandby s r) r where
  sup := by
    show ((State.move _ .standby r).setMode .none).sup = _
    rw [State.sup_setMode, State.sup_move]
  park := by
    show ((State.move _ .standby r).setMode .none).park = _
    rw [State.park_setMode, State.park_move]
    rfl
  mode := State.merger_mode_setMode _ _
  refresh := refresh_move rfl r
  records k := by
    rw [inStandby, records_channelsStandby, State.channels_setMode, State.channels_move]
  calm := by
    rw [inStandby, State.calm_channelsStandby, State.calm_setMode, State.calm_move, State.calm_sup]

/-- Working the record takes nothing from an entry to STANDBY. -/
theorem EntersStandby.evaluateCore {s t : State} {r : Reason} (h : EntersStandby s t r) :
    EntersStandby s t.evaluateCore r :=
  ⟨h.sup, h.park, h.mode, h.refresh, h.records, h.calm⟩

/-- R85: the tests in STANDBY take nothing from an entry to it where no further entry follows. -/
theorem EntersStandby.testEntry {s t : State} {r : Reason} (h : EntersStandby s t r) (hs : StaysInStandby s) :
    EntersStandby s t.testEntry r := by
  rw [testEntry_of_standby (by rw [h.sup]) (staysInStandby_of_calm hs h.calm)]
  exact ⟨h.sup, h.park, h.mode, h.refresh, h.records, h.calm⟩

theorem enterStandby_enters {s : State} (hs : StaysInStandby s) (r : Reason) : EntersStandby s (s.enterStandby r) r := by
  have hi := inStandby_enters s r
  have hc : EntersStandby s (s.enterStandbyCore r) r := by
    rcases enterStandbyCore_eq_or s r with e | e <;> rw [e]
    · exact hi.evaluateCore
    · exact hi
  exact hc.testEntry hs

/-! ### A renewal of PARK_STATUS showing applied -/

/-- R134: outside SECURING a confirmed spring brake moves park control's confirmation and timer alone. -/
theorem springApplied_elsewhere {s : State} (h : s.sup.state ≠ .securing) :
    s.springApplied.sup = s.sup ∧ s.springApplied.park.prq = s.park.prq ∧
      s.springApplied.park.holdInForce = s.park.holdInForce ∧ s.springApplied.merger = s.merger := by
  have hc : State.springConfirmed { s with park := { s.park with conf := .confirmed, timer := none } } =
      { s with park := { s.park with conf := .confirmed, timer := none } } := if_neg h
  unfold State.springApplied
  rw [hc]
  cases s.park.conf <;> exact ⟨rfl, rfl, rfl, rfl⟩

/-- R90: in HOLDING and RELEASING the renewal gives STANDBY. -/
theorem parkRenewal_enters {s : State} (h : s.sup.state = .holding ∨ s.sup.state = .releasing) (hs : StaysInStandby s) :
    ∃ t, EntersStandby s t .parkedByDriver ∧ s.parkRenewal 1 = t.springApplied := by
  refine ⟨_, (enterStandby_enters hs .parkedByDriver).testEntry hs, ?_⟩
  have hp : s.parkRenewalHold 1 = s.enterStandby .parkedByDriver := by
    unfold State.parkRenewalHold
    rcases h with h | h <;> rw [h] <;> rfl
  show (s.parkRenewalHold 1).testEntry.springApplied = _
  rw [hp]

/-! ### The loss of DRIVER_PRESENT and of RESERVOIR -/

/-- R88: in a hold, a DRIVER_PRESENT that showed present and is now LOST shows absent: a SECURING notice. -/
theorem notify_driverPresent_lost {s : State} (h : s.sup.state = .holding ∨ s.sup.state = .releasing) {r : SampleRecord}
    (hl : r.age ≠ .lost) (hv : r.value = 1) :
    s.notify .driverPresent .ageing r (lostRecord r) = s.securingNotice .driverAbsent := by
  have hold : r.effective.flag true false = true := by
    unfold SampleRecord.effective
    cases hg : r.age with
    | lost => exact absurd hg hl
    | fresh | held => simp [Effective.flag, hv]
  show (if (r.effective.flag true false && !(lostRecord r).effective.flag true false) = true
    then s.testEntry.securingNotice .driverAbsent else s.testEntry) = _
  rw [hold, testEntry_of_hold h]
  rfl

/-- R59: in HOLDING and RELEASING a record worked afresh that is sufficient only reaches the merger. -/
theorem evaluate_of_sufficient {s : State} (h : s.sup.state = .holding ∨ s.sup.state = .releasing)
    (hr : s.evaluation.insufficient = false) : MergerOnly s.evaluateCore s.evaluate :=
  noticeRecord_of_sufficient (s := s.evaluateCore) h hr

/-- R59, R88: in HOLDING and RELEASING one that is insufficient secures. -/
theorem evaluate_of_insufficient {s : State} (h : s.sup.state = .holding ∨ s.sup.state = .releasing)
    (hr : s.evaluation.insufficient = true) : s.EntersSecuring s.evaluate .insufficient :=
  entersSecuring_of_calm (noticeRecord_of_insufficient (s := s.evaluateCore) h hr) (State.calm_evaluateCore s) rfl rfl

/-- R59: in HOLDING and RELEASING a sufficient record leaves the state. -/
theorem hold_evaluate {s : State} (h : s.sup.state = .holding ∨ s.sup.state = .releasing)
    (hr : s.evaluation.insufficient = false) : s.evaluate.sup.state = .holding ∨ s.evaluate.sup.state = .releasing := by
  rw [(evaluate_of_sufficient h hr).sup]; exact h

/-- R88: in a hold, a RESERVOIR gone LOST is a SECURING notice once the record has been worked and found sufficient. -/
theorem notify_reservoir_lost {s : State} (h : s.sup.state = .holding ∨ s.sup.state = .releasing) {r : SampleRecord}
    (hl : r.age ≠ .lost) (hr : s.evaluation.insufficient = false) :
    s.notify .reservoir .ageing r (lostRecord r) = s.evaluate.securingNotice .reservoir := by
  show (if (lostRecord r).age = .lost ∧ r.age ≠ .lost then s.evaluate.testEntry.securingNotice .reservoir
    else s.evaluate.testEntry) = _
  rw [if_pos ⟨rfl, hl⟩, testEntry_of_hold (hold_evaluate h hr)]

/-- R59, R88: a SECURING notice after a sufficient record secures from the state before the record. -/
theorem securingNotice_evaluate_enters {s : State} (h : s.sup.state = .holding ∨ s.sup.state = .releasing)
    (hr : s.evaluation.insufficient = false) (r : Reason) : s.EntersSecuring (s.evaluate.securingNotice r) r := by
  have he := evaluate_of_sufficient h hr
  exact entersSecuring_of_calm (securingNotice_enters (hold_evaluate h hr) _) (State.calm_evaluate s)
    (by rw [he.sup]; rfl) (by rw [he.counters]; rfl)

/-! ### The last usable channel -/

/-- R49: STATUS_LOSS_EXPIRY with the timer running. -/
theorem exec_statusLossExpiry {s : State} {c : Chan} {x : Running} (ha : s.awake = true)
    (hx : (s.channels.records.get c).loss = some x) : exec (.statusLossExpiry c) s =
      .next ((s.reach x).setChannel c (s.channels.records.get c).goLost).reworkNotice := by
  show execStatusLossExpiry c s = _
  simp only [execStatusLossExpiry, expiring_of_awake ha, hx]

/-- R54: a channel whose status is LOST is not usable. -/
theorem channelUsable_of_lost {s : State} {c : Chan} (h : (s.channels.records.get c).age = .lost) :
    s.channelUsable c = false := by
  simp [State.channelUsable, h, Age.present]

/-- R54: whether a channel is usable does not depend on the other channels' records. -/
theorem channelUsable_setChannel_of_ne (s : State) {c d : Chan} (h : d ≠ c) (r : ChannelRecord) :
    (s.setChannel c r).channelUsable d = s.channelUsable d := by
  have hr : (s.setChannel c r).channels.records.get d = s.channels.records.get d := PerChan.get_set_of_ne _ _ h
  unfold State.channelUsable State.lifted State.liftable
  rw [hr]
  rfl

/-- R54: the usable set, channel by channel. -/
theorem usable_deriveChannels (s : State) (c : Chan) : s.deriveChannels.usable.get c = s.channelUsable c := by
  show (PerChan.build s.channelUsable).get c = _
  rw [PerChan.get_build]

/-- R55: B is 0 with no channel usable. -/
theorem b_deriveChannels_of_unusable {s : State} (h : ∀ c, s.channelUsable c = false) : s.deriveChannels.b = 0 := by
  have hm : Chan.all.filter s.deriveChannels.usable.get = [] := by
    simp [List.filter_eq_nil_iff, usable_deriveChannels, h]
  show ((Chan.all.filter s.deriveChannels.usable.get).map _).sum = 0
  rw [hm]
  rfl

/-- R68: the stages up to F_hold leave the insufficient flag clear. -/
theorem insufficient_loadStages (set : Settings) (slopeS payload allowance step b : Nat) :
    (loadStages set slopeS payload allowance step b).1.insufficient = false := rfl

/-- R61: with B at 0 the record is worked as far as F_hold or not at all. -/
theorem evaluation_of_b_zero {s : State} (h : s.channels.derived.b = 0) :
    (∃ slopeS allowance, s.evaluation =
      (loadStages s.work.settings slopeS s.calculator.payloadUsed allowance s.escalation 0).1) ∨
    s.evaluation = HoldResult.unworked s.work.settings s.calculator.payloadUsed 0 := by
  unfold State.evaluation
  rw [h]
  split
  · exact .inl ⟨_, _, rfl⟩
  · exact .inr rfl

/-- R61: a record worked with B at 0 is not insufficient. -/
theorem evaluation_sufficient_of_b_zero {s : State} (h : s.channels.derived.b = 0) :
    s.evaluation.insufficient = false := by
  rcases evaluation_of_b_zero h with ⟨slopeS, allowance, e⟩ | e
  · rw [e, insufficient_loadStages]
  · rw [e, HoldResult.unworked]

theorem noticeConditions_of_isHold {s : State} (h : s.sup.state.isHold = true) : s.noticeConditions = s := by
  unfold State.noticeConditions
  cases hs : s.sup.state with
  | unavailable | standby | checking => simp [hs, SupState.isHold] at h
  | holding | releasing | securing | secured => rfl

/-- R88, R90: in HOLDING and RELEASING the supervisor takes B falling to 0 as a SECURING notice. -/
theorem supSet_of_hold {s : State} (h : s.sup.state = .holding ∨ s.sup.state = .releasing)
    (hb : s.channels.derived.b = 0) : s.supSet = s.securingNotice .noChannel := by
  unfold State.supSet
  rcases h with h | h <;> rw [h] <;> exact if_pos hb

/-- R148: without a run the path check does not look. -/
theorem pathSet_of_idle {s : State} (h : s.path.testing = false) : s.pathSet = s := by
  unfold State.pathSet; rw [h]

theorem path_enterSecuring (s : State) (r : Reason) : (s.enterSecuring r).path = s.path := by
  unfold State.enterSecuring
  rw [State.path_handMode _ _ _ (no_handover_of_ne_secured (by simp))]
  simp [State.assertPark]

theorem channels_enterSecuring (s : State) (r : Reason) : (s.enterSecuring r).channels = s.channels := by
  unfold State.enterSecuring
  rw [State.channels_handMode _ _ _ (no_handover_of_ne_secured (by simp))]
  simp [State.assertPark]

/-- R56, R88: in HOLDING and RELEASING, without a path check run, the notice of a set with B at 0 secures. -/
theorem tellSet_of_b_zero {s : State} (h : s.sup.state = .holding ∨ s.sup.state = .releasing)
    (hb : s.channels.derived.b = 0) (hp : s.path.testing = false) :
    s.EntersSecuring s.tellSet .noChannel ∧ s.tellSet.channels = s.channels := by
  have hm := mergerOnly_mergerSet (no_handover_of_ne_secured (ne_secured_of_hold h))
  have hms : s.mergerSet.sup.state = .holding ∨ s.mergerSet.sup.state = .releasing := by rw [hm.sup]; exact h
  have hc : s.mergerSet.evaluateCore.noticeConditions = s.mergerSet.evaluateCore :=
    noticeConditions_of_isHold (isHold_of_hold (s := s.mergerSet) hms)
  have hn : MergerOnly s.mergerSet.evaluateCore s.mergerSet.evaluateCore.noticeRecord :=
    noticeRecord_of_sufficient (s := s.mergerSet.evaluateCore) hms
      (evaluation_sufficient_of_b_zero (by rw [hm.channels]; exact hb))
  unfold State.tellSet
  rw [hc]
  generalize s.mergerSet.evaluateCore.noticeRecord = t at hn
  have hsup : t.sup = s.sup := hn.sup.trans hm.sup
  have hchan : t.channels = s.channels := hn.channels.trans hm.channels
  have hts : t.sup.state = .holding ∨ t.sup.state = .releasing := by rw [hsup]; exact h
  have hpath : (t.enterSecuring .noChannel).path.testing = false := by
    rw [path_enterSecuring, hn.path]
    exact (congrArg PathCheck.testing hm.path).trans hp
  rw [supSet_of_hold hts (by rw [hchan]; exact hb), securingNotice_of_hold hts, pathSet_of_idle hpath]
  exact ⟨entersSecuring_of_calm (t.enterSecuring_enters _) (hn.calm.trans hm.calm) (by rw [hsup])
    (hn.counters.trans hm.counters), (channels_enterSecuring _ _).trans hchan⟩

/-- R49, R54, R88: the loss of the status of the only usable channel. -/
theorem reworkNotice_of_last_lost {s : State} {c : Chan} (h : s.sup.state = .holding ∨ s.sup.state = .releasing)
    (hp : s.path.testing = false) (hd : s.channels.derived = s.deriveChannels)
    (hu : ∀ d, s.channelUsable d = true ↔ d = c) {r : ChannelRecord} (hr : r.age = .lost) :
    s.EntersSecuring (s.setChannel c r).reworkNotice .noChannel ∧
      (s.setChannel c r).reworkNotice.channels.derived.b = 0 := by
  have hnone : ∀ d, (s.setChannel c r).channelUsable d = false := by
    intro d
    by_cases hdc : d = c
    · subst hdc
      exact channelUsable_of_lost (by rw [State.channels_setChannel]; simp [hr])
    · rw [channelUsable_setChannel_of_ne s hdc, Bool.eq_false_iff]
      exact fun hd' => hdc ((hu d).1 hd')
  have hne : (s.setChannel c r).rework.channels.derived ≠ s.channels.derived := by
    intro he
    have hc : (s.setChannel c r).deriveChannels.usable.get c = s.deriveChannels.usable.get c := by
      rw [← hd, ← he]
      rfl
    rw [usable_deriveChannels, usable_deriveChannels, hnone c, (hu c).2 rfl] at hc
    exact Bool.false_ne_true hc
  have ht : (s.setChannel c r).reworkNotice = (s.setChannel c r).rework.tellSet := if_neg hne
  have hb : (s.setChannel c r).rework.channels.derived.b = 0 := b_deriveChannels_of_unusable hnone
  obtain ⟨hsec, hchan⟩ := tellSet_of_b_zero (s := (s.setChannel c r).rework) h hb hp
  rw [ht, hchan]
  exact ⟨⟨hsec.state, hsec.reason, hsec.context, hsec.handover, hsec.park, hsec.mode, hsec.counted⟩, hb⟩

/-! ### The statement -/

/-- Settles O39: the two timers of the context, the notices, the losses of two signals and of the last usable channel. -/
theorem holdTimersAndNoticesEndTheHold : Obligations.HoldTimersAndNoticesEndTheHold := by
  refine ⟨?_, ?_, ?_, ?_, ?_⟩
  · intro s c x ha hc hx hs
    exact ⟨_, exec_holdLimitExpiry ha hc hx, holdLimitReached_enters (s := s.reach x) hs,
      State.calm_holdLimitReached (s.reach x)⟩
  · intro s c rel ha hs hc hr hb hauto
    have he := enterStandby_enters (s := s.reach rel.ramp) ⟨hauto, .inl hb⟩ .none
    exact ⟨_, exec_rampTimerExpiry ha hs hc hr, he.sup, he.park, he.mode, he.refresh, he.records, he.calm⟩
  · intro s hs
    refine ⟨fun r => ⟨securingNotice_enters hs r, State.calm_securingNotice s r⟩,
      fun hr => ⟨evaluate_of_insufficient hs hr, State.calm_evaluate s⟩, fun hr => ?_, fun hp hauto => ?_⟩
    · have he := evaluate_of_sufficient hs hr
      exact ⟨he.sup, he.park, congrArg Calc.record he.calculator, he.calm⟩
    · obtain ⟨t, ht, e⟩ := parkRenewal_enters hs ⟨hauto, .inr hp⟩
      obtain ⟨hsup, hprq, hheld, hmerger⟩ := springApplied_elsewhere (s := t) (by simp [ht.sup])
      refine ⟨?_, ?_, ?_, ?_, State.calm_parkRenewal s 1⟩
      · rw [e, hsup, ht.sup]
      · rw [e, hprq, ht.park]
      · rw [e, hheld, ht.park]
      · rw [e, hmerger, ht.mode]
  · intro s u k x ha hs hx hl hu
    obtain rfl : u = afterLoss s k x := hu
    have hs' : (afterLoss s k x).sup.state = .holding ∨ (afterLoss s k x).sup.state = .releasing := hs
    refine ⟨fun hb hv => ?_, fun hb hr => ?_⟩
    · refine ⟨_, exec_lossTimerExpiry_of_present ha hx hl, ?_⟩
      rw [hb, notify_driverPresent_lost hs' hl hv]
      exact ⟨securingNotice_enters hs' _, State.calm_securingNotice _ _⟩
    · refine ⟨_, exec_lossTimerExpiry_of_present ha hx hl, ?_⟩
      rw [hb, notify_reservoir_lost hs' hl hr]
      exact ⟨securingNotice_evaluate_enters hs' hr _, by rw [State.calm_securingNotice, State.calm_evaluate]⟩
  · intro s c x ha hs hp hd hu hx _
    exact ⟨_, exec_statusLossExpiry ha hx, reworkNotice_of_last_lost (s := s.reach x) hs hp hd hu rfl⟩

end Sys2Proof.Machine.SignalRecords

namespace Sys2Proof.Machine.AxleChannels

open SignalRecords

/-! What the notices of a step leave of a channel record, and the two expiries that age one (R49, R50). -/

/-! ### What one calm view says of a channel record -/

/-- R52: entry to STANDBY changes nothing of a record but, for SHORT and a cleared FAULT, the handshake state. -/
theorem standby_eq_or (r : ChannelRecord) : r.standby = r ∨ r.standby = { r with handshake := .accepted } := by
  unfold ChannelRecord.standby
  split
  · exact .inr rfl
  · split
    · exact .inl rfl
    · exact .inr rfl
  all_goals exact .inl rfl

/-- Record `r` is what notices may have made of record `n`: every field but check state and handshake state stands. -/
structure Kept (r n : ChannelRecord) : Prop where
  advert : r.advert = n.advert
  count : r.count = n.count
  pressure : r.pressure = n.pressure
  fault : r.fault = n.fault
  age : r.age = n.age
  stale : r.stale = n.stale
  loss : r.loss = n.loss
  lostSinceRead : r.lostSinceRead = n.lostSinceRead

theorem kept_calm (r : ChannelRecord) : Kept r.calm r := by
  unfold ChannelRecord.calm
  rcases standby_eq_or r with h | h <;> rw [h] <;> constructor <;> rfl

theorem kept_of_calm {r n : ChannelRecord} (h : r.calm = n.calm) : Kept r n := by
  have hr := kept_calm r
  have hn := kept_calm n
  rw [h] at hr
  exact ⟨hr.advert.symm.trans hn.advert, hr.count.symm.trans hn.count, hr.pressure.symm.trans hn.pressure,
    hr.fault.symm.trans hn.fault, hr.age.symm.trans hn.age, hr.stale.symm.trans hn.stale, hr.loss.symm.trans hn.loss,
    hr.lostSinceRead.symm.trans hn.lostSinceRead⟩

/-- R52: a handshake state that entry to STANDBY neither takes away nor gives is not touched by notices. -/
theorem handshake_of_calm {r n : ChannelRecord} (h : r.calm = n.calm) (hs : n.standby = n) (ha : n.handshake ≠ .accepted) :
    r.handshake = n.handshake := by
  have he : r.standby.handshake = n.handshake := by
    have hc := congrArg ChannelRecord.handshake h
    rw [← congrArg ChannelRecord.handshake hs]
    exact hc
  rcases standby_eq_or r with hr | hr <;> rw [hr] at he
  · exact he
  · exact absurd he.symm ha

/-- R52: only SHORT, and FAULT with the flag clear, return to ACCEPTED. -/
theorem standby_of_stays {r : ChannelRecord} (hs : r.handshake ≠ .short) (hf : r.handshake = .fault → r.fault = true) :
    r.standby = r := by
  unfold ChannelRecord.standby
  split
  next h => exact absurd h hs
  next h => exact if_pos (hf h)
  all_goals rfl

/-! ### The expiries -/

/-- R49: STATUS_STALE_EXPIRY with the timer running. -/
theorem exec_statusStaleExpiry {s : State} {c : Chan} {x : Running} (ha : s.awake = true)
    (hx : (s.channels.records.get c).stale = some x) : exec (.statusStaleExpiry c) s =
      .next ((s.reach x).setChannel c (s.channels.records.get c).goStale).reworkNotice := by
  show execStatusStaleExpiry c s = _
  simp only [execStatusStaleExpiry, expiring_of_awake ha, hx]

/-- R49: a FRESH status goes HELD. -/
theorem goStale_of_fresh {r : ChannelRecord} (h : r.age = .fresh) : r.goStale = { r with age := .held, stale := none } := by
  simp only [ChannelRecord.goStale, h]

/-- R49: an expected channel is LOST with its status. -/
theorem handshake_goLost {r : ChannelRecord} (h : r.handshake ≠ .absent) : r.goLost.handshake = .lost := by
  unfold ChannelRecord.goLost
  cases hh : r.handshake with
  | absent => exact absurd hh h
  | listening | accepted | short | fault | lost => rfl

/-- What the notice of a changed record leaves of the record set. -/
theorem record_reworkNotice_self (s : State) (c : Chan) (r : ChannelRecord) :
    ((s.setChannel c r).reworkNotice.channels.records.get c).calm = r.calm := by
  rw [State.record_of_calm (State.calm_reworkNotice _), State.channels_setChannel, PerChan.get_set_self]

/-- Settles O24: each expiry sets the record, and the notices that follow keep its fields. -/
theorem statusExpiriesAgeTheChannel : Obligations.StatusExpiriesAgeTheChannel := by
  intro s c x ha
  constructor
  · intro hx hf
    have hk := kept_of_calm (record_reworkNotice_self (s.reach x) c (s.channels.records.get c).goStale)
    refine ⟨_, exec_statusStaleExpiry ha hx, ?_, hk.stale, hk.loss, hk.pressure, hk.fault, ?_⟩
    · rw [hk.age, goStale_of_fresh hf]
    · rw [State.calm_reworkNotice, goStale_of_fresh hf]
  · intro hx _
    have hr := record_reworkNotice_self (s.reach x) c (s.channels.records.get c).goLost
    have hk := kept_of_calm hr
    have hc := State.calm_reworkNotice ((s.reach x).setChannel c (s.channels.records.get c).goLost)
    refine ⟨_, exec_statusLossExpiry ha hx, hk.age, hk.stale, hk.loss, hk.lostSinceRead, fun hn => ?_, fun d hd => ?_,
      (State.signals_of_calm hc :), (State.work_of_calm hc :), (State.store_of_calm hc :)⟩
    · have hl := handshake_goLost hn
      rw [handshake_of_calm hr (standby_of_stays (by simp [hl]) (by simp [hl])) (by simp [hl]), hl]
    · rw [State.record_of_calm hc, State.channels_setChannel]
      exact congrArg _ (PerChan.get_set_of_ne _ _ hd)

end Sys2Proof.Machine.AxleChannels

namespace Sys2Proof.Machine.AxleChannels

open SignalRecords

/-! Frames of the modulators: the way of a frame to the channel block (R1, R8, R42), adverts (R43 to R47) and status frames
(R48). -/

/-! ### The derived values after a changed record -/

theorem set_get_self {α : Type} (p : PerChan α) (c : Chan) : p.set c (p.get c) = p := by cases c <;> rfl

/-- R54: a channel that is not ACCEPTED is not usable. -/
theorem channelUsable_of_not_accepted {s : State} {c : Chan} (h : (s.channels.records.get c).handshake ≠ .accepted) :
    s.channelUsable c = false := by
  simp [State.channelUsable, h]

/-- R54, R55: the derived values are worked from the usable channels and their adverts, and from the working copies. -/
theorem deriveChannels_congr {s t : State} (hw : t.work = s.work) (hu : ∀ c, t.channelUsable c = s.channelUsable c)
    (ha : ∀ c, s.channelUsable c = true → (t.channels.records.get c).advert = (s.channels.records.get c).advert) :
    t.deriveChannels = s.deriveChannels := by
  have hf : t.channelUsable = s.channelUsable := funext hu
  unfold State.deriveChannels
  rw [hf, hw]
  dsimp only
  congr 2
  refine List.filterMap_congr fun c hc => ?_
  rw [ha c (by simpa using (List.mem_filter.1 hc).2)]

/-- R54, R55: a new record that leaves its channel as usable as it was, with its advert while usable, leaves the derived
values. -/
theorem deriveChannels_setChannel {s : State} {c : Chan} {r : ChannelRecord}
    (hu : (s.setChannel c r).channelUsable c = s.channelUsable c)
    (ha : s.channelUsable c = true → r.advert = (s.channels.records.get c).advert) :
    (s.setChannel c r).deriveChannels = s.deriveChannels := by
  refine deriveChannels_congr rfl (fun d => ?_) fun d hd => ?_
  · by_cases h : d = c
    · rw [h, hu]
    · exact channelUsable_setChannel_of_ne s h r
  · rw [State.channels_setChannel]
    by_cases h : d = c
    · subst h
      rw [PerChan.get_set_self, ha hd]
    · rw [PerChan.get_set_of_ne _ _ h]

/-- R54, R55: records that are not ACCEPTED play no part in the derived values. -/
theorem deriveChannels_setChannel_of_not_accepted {s : State} {c : Chan} {r : ChannelRecord}
    (h : (s.channels.records.get c).handshake ≠ .accepted) (hr : r.handshake ≠ .accepted) :
    (s.setChannel c r).deriveChannels = s.deriveChannels := by
  have hu : s.channelUsable c = false := channelUsable_of_not_accepted h
  refine deriveChannels_setChannel ?_ fun hc => absurd hc (by simp [hu])
  rw [hu]
  exact channelUsable_of_not_accepted (by simpa using hr)

/-- R56: derived values that come out as they stand are no change, and nothing is told. -/
theorem reworkNotice_of_same {s : State} (h : s.deriveChannels = s.channels.derived) : s.reworkNotice = s := by
  have hr : s.rework = s := by unfold State.rework; rw [h]
  rw [State.reworkNotice, hr]
  exact if_pos rfl

/-! ### The way of a frame -/

/-- R3, R4: the controller of a port that takes a frame. -/
theorem setPort_taken {s : State} {p : Port} (h : (s.port p).onBus = true) :
    s.setPort p (s.port p).taken = s.afterTaking p := by
  unfold State.afterTaking PortCtl.taken PortCtl.restate
  cases hm : (s.port p).mode with
  | offBus => simp [PortCtl.onBus, hm] at h
  | active | passive => rfl

/-- R8, R9: a frame handed to the channel block reaches it with its port's count lowered. -/
theorem exec_frameReceived_channel {s : State} {p : Port} {f : Frame} (h : s.HandsTo p f .channel) :
    exec (.frameReceived p f) s = .next ((s.afterTaking p).channelFrame f) := by
  obtain ⟨e, he, ha, hx, hp⟩ := h.entry
  have hm : (s.afterTaking p).matchEntry p f = some e := by cases p <;> exact he
  have hr : (s.afterTaking p).route.state = .inForce := by cases p <;> exact h.route
  have hn : (s.afterTaking p).extractAll f [] = s.afterTaking p := by
    unfold State.extractAll; split <;> rfl
  have ho : (s.afterTaking p).offerPart e p f = s.afterTaking p := by
    simp only [State.offerPart, ha, hp]; rfl
  show execFrameReceived p f s = _
  simp only [execFrameReceived, h.running, h.onBus, Bool.and_self, if_true, setPort_taken h.onBus, State.classify, hr, hm,
    State.matched, h.data, ho, hx, hn, State.handPart, ha]
  rfl

@[simp] theorem channels_afterTaking (s : State) (p : Port) : (s.afterTaking p).channels = s.channels := by
  cases p <;> rfl

@[simp] theorem work_afterTaking (s : State) (p : Port) : (s.afterTaking p).work = s.work := by cases p <;> rfl

@[simp] theorem signals_afterTaking (s : State) (p : Port) : (s.afterTaking p).signals = s.signals := by cases p <;> rfl

@[simp] theorem store_afterTaking (s : State) (p : Port) : (s.afterTaking p).store = s.store := by cases p <;> rfl

@[simp] theorem vToB_afterTaking (s : State) (p : Port) : (s.afterTaking p).vToB = s.vToB := by cases p <;> rfl

@[simp] theorem bToV_afterTaking (s : State) (p : Port) : (s.afterTaking p).bToV = s.bToV := by cases p <;> rfl

@[simp] theorem merger_afterTaking (s : State) (p : Port) : (s.afterTaking p).merger = s.merger := by cases p <;> rfl

@[simp] theorem counters_afterTaking (s : State) (p : Port) : (s.afterTaking p).counters = s.counters := by
  cases p <;> rfl

@[simp] theorem sup_afterTaking (s : State) (p : Port) : (s.afterTaking p).sup = s.sup := by cases p <;> rfl

@[simp] theorem park_afterTaking (s : State) (p : Port) : (s.afterTaking p).park = s.park := by cases p <;> rfl

@[simp] theorem path_afterTaking (s : State) (p : Port) : (s.afterTaking p).path = s.path := by cases p <;> rfl

@[simp] theorem now_afterTaking (s : State) (p : Port) : (s.afterTaking p).now = s.now := by cases p <;> rfl

theorem identifierChannel_afterTaking (s : State) (p : Port) (i : CanId) :
    (s.afterTaking p).identifierChannel i = s.identifierChannel i := by cases p <;> rfl

theorem deriveChannels_afterTaking (s : State) (p : Port) : (s.afterTaking p).deriveChannels = s.deriveChannels := by
  cases p <;> rfl

/-- R42: an advert of sufficient length. -/
theorem channelFrame_advert {s : State} {f : Frame} (hs : s.channels.state = .inForce) (hk : frameKind f = 1#4)
    (hd : 4 ≤ f.dlc.val) : s.channelFrame f = s.sortAdvert f := by
  unfold State.channelFrame
  rw [hs]
  dsimp only
  rw [if_pos hk, if_neg (Nat.not_lt.2 hd)]

/-- R42: a status frame of sufficient length. -/
theorem channelFrame_status {s : State} {f : Frame} (hs : s.channels.state = .inForce) (hk : frameKind f = 2#4)
    (hd : 3 ≤ f.dlc.val) : s.channelFrame f = s.sortStatus f := by
  unfold State.channelFrame
  rw [hs]
  dsimp only
  rw [if_neg (by simp [hk]), if_pos hk, if_neg (Nat.not_lt.2 hd)]

/-- R42, R47: an advert for the channel of its identifier, its maximum in range, is taken. -/
theorem exec_advert {s : State} {p : Port} {f : Frame} {c : Chan} (h : s.HandsTo p f .channel)
    (hs : s.channels.state = .inForce) (hk : frameKind f = 1#4) (hd : 4 ≤ f.dlc.val)
    (hc : s.identifierChannel f.id = some c) (hn : (frameChannel f).toNat = c.number)
    (hlow : 1 ≤ (byteAt f.data 1).toNat) (hhigh : (byteAt f.data 1).toNat ≤ 250) :
    exec (.frameReceived p f) s = .next ((s.afterTaking p).advertTaken c (frameAdvert f)) := by
  rw [exec_frameReceived_channel h, channelFrame_advert (by simpa using hs) hk hd]
  unfold State.sortAdvert
  rw [identifierChannel_afterTaking, hc]
  simp [frameAdvert, Chan.named, hn, hlow, hhigh]

/-- R42: a status frame for the channel of its identifier is taken. -/
theorem exec_status {s : State} {p : Port} {f : Frame} {c : Chan} (h : s.HandsTo p f .channel)
    (hs : s.channels.state = .inForce) (hk : frameKind f = 2#4) (hd : 3 ≤ f.dlc.val)
    (hc : s.identifierChannel f.id = some c) (hn : (frameChannel f).toNat = c.number) :
    exec (.frameReceived p f) s = .next ((s.afterTaking p).statusTaken c f) := by
  rw [exec_frameReceived_channel h, channelFrame_status (by simpa using hs) hk hd]
  unfold State.sortStatus
  rw [identifierChannel_afterTaking, hc]
  simp [Chan.named, hn]

/-! ### What an advert makes of a record -/

/-- R43: an identical advert, or a first one, leaves the record's check state. -/
theorem adverted_of_same {r : ChannelRecord} {a : Advert} (h : r.advert = some a ∨ r.advert = none) : r.adverted a = r := by
  unfold ChannelRecord.adverted
  rcases h with h | h <;> simp [h]

/-- R43: an advert that differs from the copy makes the check state UNCHECKED. -/
theorem adverted_of_ne {r : ChannelRecord} {a old : Advert} (h : r.advert = some old) (hne : old ≠ a) :
    r.adverted a = { r with check := .unchecked } := by
  unfold ChannelRecord.adverted
  simp [h, hne]

/-- R43: the check state after an advert. -/
theorem adverted_eq (r : ChannelRecord) (a : Advert) :
    r.adverted a = { r with check := if r.advert = none ∨ r.advert = some a then r.check else .unchecked } := by
  by_cases h : r.advert = none ∨ r.advert = some a
  · rw [if_pos h, adverted_of_same h.symm]
  · obtain ⟨old, ho⟩ := Option.ne_none_iff_exists'.1 fun hn => h (.inl hn)
    rw [if_neg h, adverted_of_ne ho fun e => h (.inr (by rw [ho, e]))]

/-- R44: an identical advert in LISTENING that is the third makes the channel ACCEPTED, or FAULT with the flag set. -/
theorem takeAdvert_third {r : ChannelRecord} {a : Advert} (h : r.handshake = .listening) (hc : r.count = 2)
    (ha : r.advert = some a) :
    r.takeAdvert a = { r with count := 3, handshake := if r.fault then .fault else .accepted } := by
  simp [ChannelRecord.takeAdvert, adverted_of_same (.inl ha), h, hc, ha]

/-- R44: an earlier identical advert raises the count. -/
theorem takeAdvert_again {r : ChannelRecord} {a : Advert} (h : r.handshake = .listening) (hc : r.count < 2)
    (ha : r.advert = some a) : r.takeAdvert a = { r with count := r.count + 1 } := by
  have h3 : ¬3 ≤ r.count + 1 := by omega
  simp [ChannelRecord.takeAdvert, adverted_of_same (.inl ha), h, h3, ha]

/-- R45: an identical advert in ACCEPTED, SHORT or FAULT keeps the record. -/
theorem takeAdvert_identical {r : ChannelRecord} {a : Advert}
    (h : r.handshake = .accepted ∨ r.handshake = .short ∨ r.handshake = .fault) (ha : r.advert = some a) :
    r.takeAdvert a = r := by
  rcases h with h | h | h <;> simp [ChannelRecord.takeAdvert, adverted_of_same (.inl ha), h, ha]

/-- R43, R46: an advert that is not a repetition, outside ABSENT, becomes the copy with count 1 in LISTENING. -/
theorem takeAdvert_new {r : ChannelRecord} {a : Advert} (h : r.handshake ≠ .absent)
    (hn : r.advert ≠ some a ∨ r.handshake = .lost) :
    r.takeAdvert a = { r with
      advert := some a, count := 1, handshake := .listening
      check := if r.advert = none ∨ r.advert = some a then r.check else .unchecked } := by
  unfold ChannelRecord.takeAdvert
  rw [adverted_eq]
  cases hh : r.handshake with
  | absent => exact absurd hh h
  | lost => rfl
  | listening =>
    have hne : r.advert ≠ some a := hn.resolve_right (by simp [hh])
    simp [hne]
  | accepted | short | fault =>
    have hne : r.advert ≠ some a := hn.resolve_right (by simp [hh])
    simp [hne]

/-- R43 to R46: copy, count and handshake state are all that an advert changes besides the check state. -/
theorem takeAdvert_eq_or (r : ChannelRecord) (a : Advert) : r.takeAdvert a = r ∨
    ∃ copy n h, r.takeAdvert a = { r.adverted a with advert := copy, count := n, handshake := h } := by
  unfold ChannelRecord.takeAdvert
  dsimp only
  split
  · exact .inl rfl
  · split
    · split <;> exact .inr ⟨_, _, _, rfl⟩
    · exact .inr ⟨_, _, _, rfl⟩
  · split <;> exact .inr ⟨_, _, _, rfl⟩
  · split <;> exact .inr ⟨_, _, _, rfl⟩
  · split <;> exact .inr ⟨_, _, _, rfl⟩
  · exact .inr ⟨_, _, _, rfl⟩

theorem takeAdvert_keeps (r : ChannelRecord) (a : Advert) : (r.takeAdvert a).age = r.age ∧
    (r.takeAdvert a).lostSinceRead = r.lostSinceRead ∧ (r.takeAdvert a).pressure = r.pressure := by
  rcases takeAdvert_eq_or r a with h | ⟨copy, n, st, h⟩ <;> rw [h]
  · exact ⟨rfl, rfl, rfl⟩
  · rw [adverted_eq]
    exact ⟨rfl, rfl, rfl⟩

/-- R43: an identical advert, or a first one, keeps the check state in every handshake state. -/
theorem check_takeAdvert {r : ChannelRecord} {a : Advert} (h : r.advert = some a ∨ r.advert = none) :
    (r.takeAdvert a).check = r.check := by
  rcases takeAdvert_eq_or r a with ht | ⟨copy, n, st, ht⟩ <;> rw [ht]
  rw [adverted_of_same h]

/-! ### A channel takes an advert -/

/-- R44, R45: the adverts that are answered. -/
theorem answers_of_same {r : ChannelRecord} {a : Advert} (ha : r.advert = some a)
    (h : r.handshake = .listening ∧ r.count = 2 ∨
      r.handshake = .accepted ∨ r.handshake = .short ∨ r.handshake = .fault) : r.answers a = true := by
  rcases h with ⟨h, hc⟩ | h | h | h <;> simp [ChannelRecord.answers, *]

/-- R44 to R46: the adverts that are not answered. -/
theorem answers_of_other {r : ChannelRecord} {a : Advert} (h : r.handshake = .listening ∧ r.count < 2 ∨
    r.handshake = .listening ∧ r.advert ≠ some a ∨ r.handshake = .lost) : r.answers a = false := by
  rcases h with ⟨h, hc⟩ | ⟨h, hn⟩ | h
  · have h3 : ¬3 ≤ r.count + 1 := by omega
    simp [ChannelRecord.answers, h, h3]
  · simp [ChannelRecord.answers, hn]
  · simp [ChannelRecord.answers, h]

/-- R44, R45: an answered advert. -/
theorem advertTaken_answered {s : State} {c : Chan} {a : Advert} (h : (s.channels.records.get c).answers a = true) :
    s.advertTaken c a = ((s.offerControl (acceptFrame (s.work.channels.get c).acceptId a)).setChannel c
      ((s.channels.records.get c).takeAdvert a)).reworkNotice := by
  unfold State.advertTaken
  dsimp only
  rw [h, if_pos rfl]

/-- R44, R46: an advert that is not answered, in a state that is not ACCEPTED and stays so, changes the record alone. -/
theorem advertTaken_silent {s : State} {c : Chan} {a : Advert} (hd : s.channels.derived = s.deriveChannels)
    (h : (s.channels.records.get c).answers a = false) (hs : (s.channels.records.get c).handshake ≠ .accepted)
    (hn : ((s.channels.records.get c).takeAdvert a).handshake ≠ .accepted) :
    s.advertTaken c a = s.setChannel c ((s.channels.records.get c).takeAdvert a) := by
  unfold State.advertTaken
  dsimp only
  rw [h, if_neg Bool.false_ne_true]
  exact reworkNotice_of_same ((deriveChannels_setChannel_of_not_accepted hs hn).trans hd.symm)

/-- R45: an identical advert that keeps the record is answered, and nothing else. -/
theorem advertTaken_identical {s : State} {c : Chan} {a : Advert} (hd : s.channels.derived = s.deriveChannels)
    (hs : (s.channels.records.get c).handshake = .accepted ∨ (s.channels.records.get c).handshake = .short ∨
      (s.channels.records.get c).handshake = .fault) (ha : (s.channels.records.get c).advert = some a) :
    s.advertTaken c a = s.offerControl (acceptFrame (s.work.channels.get c).acceptId a) := by
  have hc (f : Frame) : (s.offerControl f).setChannel c (s.channels.records.get c) = s.offerControl f := by
    unfold State.offerControl State.setChannel
    split <;> dsimp only <;> rw [set_get_self]
  have ho (f : Frame) : (s.offerControl f).deriveChannels = (s.offerControl f).channels.derived := by
    unfold State.offerControl
    split <;> exact hd.symm
  rw [advertTaken_answered (answers_of_same ha (.inr hs)), takeAdvert_identical hs ha, hc, reworkNotice_of_same (ho _)]

/-- R125: a frame offered to the control queue, which refuses it when full. -/
theorem offerControl_eq (s : State) (f : Frame) : s.offerControl f = { s with merger := { s.merger with
    control := if s.merger.control.length < 4 then s.merger.control ++ [f] else s.merger.control } } := by
  unfold State.offerControl
  by_cases h : s.merger.control.length < 4
  · rw [if_pos h, if_neg (show ¬shortSize ≤ _ from Nat.not_le.2 h)]
  · rw [if_neg h, if_pos (show shortSize ≤ _ from Nat.not_lt.1 h)]

/-- R44: the third identical advert of a channel in LISTENING. -/
theorem advertTaken_third {s : State} {c : Chan} {a : Advert} (h : (s.channels.records.get c).handshake = .listening)
    (hc : (s.channels.records.get c).count = 2) (ha : (s.channels.records.get c).advert = some a) :
    ((s.advertTaken c a).channels.records.get c).handshake =
      (if (s.channels.records.get c).fault then .fault else .accepted) ∧
    ((s.advertTaken c a).channels.records.get c).count = 3 ∧
    ((s.advertTaken c a).channels.records.get c).advert = some a ∧
    (s.advertTaken c a).calm = ((s.offerControl (acceptFrame (s.work.channels.get c).acceptId a)).setChannel c
      { s.channels.records.get c with
        count := 3, handshake := if (s.channels.records.get c).fault then .fault else .accepted }).calm := by
  rw [advertTaken_answered (answers_of_same ha (.inl ⟨h, hc⟩)), takeAdvert_third h hc ha]
  generalize s.offerControl _ = u
  generalize hn : ({ s.channels.records.get c with
    count := 3, handshake := if (s.channels.records.get c).fault then .fault else .accepted } : ChannelRecord) = n
  have hr := record_reworkNotice_self u c n
  have hk := kept_of_calm hr
  refine ⟨?_, by rw [hk.count, ← hn], by rw [hk.advert, ← hn, ← ha], State.calm_reworkNotice _⟩
  cases hf : (s.channels.records.get c).fault with
  | true =>
    have hh : n.handshake = .fault := by rw [← hn]; simp [hf]
    have hnf : n.fault = true := by rw [← hn]; exact hf
    rw [handshake_of_calm hr (standby_of_stays (by simp [hh]) fun _ => hnf) (by simp [hh]), hh]
    rfl
  | false =>
    have hh : (u.setChannel c n).accepted c = true := by
      rw [← hn, State.accepted, State.channels_setChannel, PerChan.get_set_self]
      simp [hf]
    exact of_decide_eq_true (State.accepted_reworkNotice _ hh)

/-- Settles O25: the third identical advert, and the others by handshake state. -/
theorem thirdIdenticalAdvertIsAccepted : Obligations.ThirdIdenticalAdvertIsAccepted := by
  constructor
  · intro s p f c hto hs hk hd hc hn hlow hhigh hl hcount hcopy hroom
    obtain ⟨hh, hnum, hadv, hcalm⟩ := advertTaken_third (s := s.afterTaking p) (c := c) (a := frameAdvert f)
      (by simpa using hl) (by simpa using hcount) (by simpa using hcopy)
    refine ⟨_, exec_advert hto hs hk hd hc hn hlow hhigh, by simpa using hh, hnum, hadv, ?_, ?_, ?_, ?_, ?_, ?_⟩
    · rw [State.merger_control_of_calm hcalm, offerControl_eq, State.merger_setChannel]
      simp [hroom]
      rfl
    · rw [State.signals_of_calm hcalm, offerControl_eq]; exact signals_afterTaking s p
    · rw [State.work_of_calm hcalm, offerControl_eq]; exact work_afterTaking s p
    · rw [State.store_of_calm hcalm, offerControl_eq]; exact store_afterTaking s p
    · rw [State.vToB_of_calm hcalm, offerControl_eq]; exact vToB_afterTaking s p
    · rw [State.bToV_of_calm hcalm, offerControl_eq]; exact bToV_afterTaking s p
  · intro s p f c hto hs hk hd hc hn hlow hhigh hder r a accept becomes
    have hder' : (s.afterTaking p).channels.derived = (s.afterTaking p).deriveChannels := by
      rw [channels_afterTaking, deriveChannels_afterTaking, hder]
    have hex := exec_advert hto hs hk hd hc hn hlow hhigh
    have hbecomes (n : ChannelRecord) (ht : r.takeAdvert a = n) (hq : r.answers a = false) (hr : r.handshake ≠ .accepted)
        (hna : n.handshake ≠ .accepted) : becomes n := by
      subst ht
      show exec (.frameReceived p f) s = _
      rw [hex, advertTaken_silent hder' (by simpa using hq) (by simpa using hr) (by simpa using hna)]
      simp [State.setChannel, r, a]
    refine ⟨fun hr ha => ?_, fun hr hcount ha => ?_, fun hr => ?_⟩
    · rw [hex, advertTaken_identical hder' (by simpa using hr) (by simpa using ha), offerControl_eq]
      simp [accept, acceptFrame, frameAdvert]
    · exact hbecomes _ (takeAdvert_again hr hcount ha) (answers_of_other (.inl ⟨hr, hcount⟩)) (by simp [hr]) (by simp [hr])
    · have hab : r.handshake ≠ .absent ∧ r.handshake ≠ .accepted := by rcases hr with ⟨hr, _⟩ | hr <;> simp [hr]
      exact hbecomes _ (takeAdvert_new hab.1 (hr.imp_left And.right)) (answers_of_other (.inr hr)) hab.2 (by simp)

/-! ### Adverts that differ, and unknown ones -/

/-- R42: an advert without its channel, or with a maximum out of range, is counted. -/
theorem sortAdvert_unknown {s : State} {f : Frame} (h : ∀ c, s.identifierChannel f.id = some c →
    (frameChannel f).toNat ≠ c.number ∨ (byteAt f.data 1).toNat < 1 ∨ 250 < (byteAt f.data 1).toNat) :
    s.sortAdvert f = s.count .unknownAdverts := by
  unfold State.sortAdvert
  dsimp only
  cases hc : s.identifierChannel f.id with
  | none => rfl
  | some c =>
    refine if_neg ?_
    simp only [Chan.named, frameAdvert, Bool.and_eq_true, beq_iff_eq]
    rintro ⟨⟨hn, hlow⟩, hhigh⟩
    rcases h c hc with h | h | h
    · exact h hn
    · exact Nat.not_lt.2 (of_decide_eq_true hlow) h
    · exact Nat.not_lt.2 (of_decide_eq_true hhigh) h

/-- Settles O26: what an advert makes of a record, and the unknown adverts. -/
theorem advertsThatDifferLoseTheCheck : Obligations.AdvertsThatDifferLoseTheCheck := by
  constructor
  · intro r a
    refine ⟨fun old hab hold hne => ?_, check_takeAdvert, takeAdvert_keeps r a⟩
    have hn : r.advert ≠ some a := by
      rintro ha
      obtain rfl : old = a := Option.some.inj (hold.symm.trans ha)
      exact hne ⟨rfl, rfl, rfl, rfl⟩
    rw [takeAdvert_new hab (.inl hn)]
    exact ⟨if_neg (not_or.2 ⟨by simp [hold], hn⟩), rfl, rfl, rfl⟩
  · intro s p f hto hs hk hd hu
    rw [exec_frameReceived_channel hto, channelFrame_advert (by simpa using hs) hk hd,
      sortAdvert_unknown (by simpa only [identifierChannel_afterTaking] using hu)]
    simp [State.count, Counters.get]

/-! ### Status frames -/

/-- R48: the record a status frame leaves. -/
def renewed (s : State) (c : Chan) (f : Frame) : ChannelRecord :=
  (s.channels.records.get c).takeStatus (4 * (byteAt f.data 1).toNat) ((byteAt f.data 2).getLsbD 0)
    (s.timer s.work.settings.statusStale) (s.timer s.work.settings.statusLoss)

/-- R48: the notices of a status frame leave the calm view as the record makes it. -/
theorem calm_statusTaken (s : State) (c : Chan) (f : Frame) :
    (s.statusTaken c f).calm = (s.setChannel c (renewed s c f)).calm := by
  unfold State.statusTaken
  dsimp only
  split <;> simp <;> rfl

/-- R48: a set fault flag takes ACCEPTED and SHORT to FAULT. -/
theorem handshake_renewed_fault {s : State} {c : Chan} {f : Frame}
    (h : (s.channels.records.get c).handshake = .accepted ∨ (s.channels.records.get c).handshake = .short)
    (hf : (byteAt f.data 2).getLsbD 0 = true) : (renewed s c f).handshake = .fault := by
  rcases h with h | h <;> simp only [renewed, ChannelRecord.takeStatus, h, hf] <;> rfl

/-- R48: LISTENING is not left by a status frame. -/
theorem handshake_renewed_listening {s : State} {c : Chan} (f : Frame)
    (h : (s.channels.records.get c).handshake = .listening) : (renewed s c f).handshake = .listening := by
  simp only [renewed, ChannelRecord.takeStatus, h]

/-- Settles O27: the record as the status frame sets it, seen through the notices. -/
theorem statusFrameRenewsTheChannel : Obligations.StatusFrameRenewsTheChannel := by
  intro s p f c hto hs hk hd hc hn
  have hcalm := calm_statusTaken (s.afterTaking p) c f
  have hr : (((s.afterTaking p).statusTaken c f).channels.records.get c).calm = (renewed (s.afterTaking p) c f).calm := by
    rw [State.record_of_calm hcalm, State.channels_setChannel, PerChan.get_set_self]
  have hkept := kept_of_calm hr
  refine ⟨_, exec_status hto hs hk hd hc hn, hkept.pressure, hkept.fault, hkept.age, ?_, ?_, fun h hf => ?_, fun h => ?_,
    fun d hdc => ?_, ?_, ?_, ?_, ?_, ?_⟩
  · rw [hkept.stale]; simp [renewed, ChannelRecord.takeStatus, State.timer]
  · rw [hkept.loss]; simp [renewed, ChannelRecord.takeStatus, State.timer]
  · have hh := handshake_renewed_fault (s := s.afterTaking p) (c := c) (by simpa using h) hf
    rw [handshake_of_calm hr (standby_of_stays (by simp [hh]) fun _ => hf) (by simp [hh]), hh]
  · have hh := handshake_renewed_listening (s := s.afterTaking p) (c := c) f (by simpa using h)
    rw [handshake_of_calm hr (standby_of_stays (by simp [hh]) (by simp [hh])) (by simp [hh]), hh]
  · rw [State.record_of_calm hcalm, State.channels_setChannel]
    simp [PerChan.get_set_of_ne _ _ hdc]
  · exact (State.signals_of_calm hcalm).trans (signals_afterTaking s p)
  · exact (State.work_of_calm hcalm).trans (work_afterTaking s p)
  · exact (State.store_of_calm hcalm).trans (store_afterTaking s p)
  · exact (State.vToB_of_calm hcalm).trans (vToB_afterTaking s p)
  · exact (State.bToV_of_calm hcalm).trans (bToV_afterTaking s p)

end Sys2Proof.Machine.AxleChannels

namespace Sys2Proof.Machine.AxleChannels

open SignalRecords

/-! Lifted and usable channels, the brake factor sum and the lowest advertised maximum (R53 to R55). -/

/-- R32: LIFT_AXLE shows raised when it is bound and reads 1 or is LOST. -/
theorem liftRaised_iff (s : State) : s.liftRaised = true ↔ ∃ k, s.signalOf .liftAxle = some k ∧
    ((s.signals.records.get k).age = .lost ∨ (s.signals.records.get k).value = 1) := by
  unfold State.liftRaised State.effective State.roleRecord
  cases s.signalOf .liftAxle with
  | none => simp [Effective.flag]
  | some k =>
    simp only [Option.map_some, Option.some.injEq, exists_eq_left', SampleRecord.effective]
    cases (s.signals.records.get k).age <;> simp [Effective.flag]

/-- R53: the setting or the advert copy makes a channel liftable. -/
theorem liftable_iff (s : State) (c : Chan) : s.liftable c = true ↔ (s.work.channels.get c).liftable = true ∨
    ∃ a, (s.channels.records.get c).advert = some a ∧ a.liftable = true := by
  unfold State.liftable
  cases (s.channels.records.get c).advert <;> simp

/-- R54: the conditions of usability. -/
theorem channelUsable_iff (s : State) (c : Chan) : s.channelUsable c = true ↔
    s.channels.state = .inForce ∧ (s.channels.records.get c).handshake = .accepted ∧
    (s.channels.records.get c).age ≠ .lost ∧ s.lifted c = false ∧
    ((s.channels.records.get c).check = .passed ∨
      (s.work.settings.checkRequired = false ∧ (s.channels.records.get c).check = .unchecked)) := by
  have hage : (s.channels.records.get c).age.present = true ↔ (s.channels.records.get c).age ≠ .lost := by
    cases (s.channels.records.get c).age <;> simp [Age.present]
  unfold State.channelUsable
  simp only [Bool.and_eq_true, decide_eq_true_eq, Bool.not_eq_true', hage, and_assoc]
  cases (s.channels.records.get c).check <;> simp

/-- R55: the channels whose brake factors are summed. -/
theorem b_deriveChannels (s : State) : s.deriveChannels.b =
    ((Chan.all.filter s.channelUsable).map fun c => (s.work.channels.get c).brakeFactor).sum := by
  have hf : s.deriveChannels.usable.get = s.channelUsable := funext (usable_deriveChannels s)
  show ((Chan.all.filter s.deriveChannels.usable.get).map _).sum = _
  rw [hf]

/-- The sum over a filtered list, term by term. -/
theorem sum_map_filter (p : Chan → Bool) (g : Chan → Nat) (l : List Chan) :
    ((l.filter p).map g).sum = (l.map fun c => if p c then g c else 0).sum := by
  induction l with
  | nil => rfl
  | cons c l ih => cases h : p c <;> simp [h, ih]

/-- R55: the usable channels' advertised maxima. -/
def maxima (s : State) : List Nat :=
  (Chan.all.filter s.channelUsable).filterMap fun c =>
    (s.channels.records.get c).advert.map fun a => 4 * a.max.toNat

theorem lowestMax_deriveChannels (s : State) : s.deriveChannels.lowestMax = (maxima s).min? := by
  have hf : s.deriveChannels.usable.get = s.channelUsable := funext (usable_deriveChannels s)
  show ((Chan.all.filter s.deriveChannels.usable.get).filterMap _).min? = _
  rw [hf]
  rfl

theorem mem_maxima {s : State} {m : Nat} : m ∈ maxima s ↔ ∃ c a, s.channelUsable c = true ∧
    (s.channels.records.get c).advert = some a ∧ m = 4 * a.max.toNat := by
  have hall : ∀ c, c ∈ Chan.all := by intro c; cases c <;> decide
  simp only [maxima, List.mem_filterMap, List.mem_filter, hall, true_and, Option.map_eq_some_iff]
  exact ⟨fun ⟨c, hc, a, ha, e⟩ => ⟨c, a, hc, ha, e.symm⟩, fun ⟨c, a, hc, ha, e⟩ => ⟨c, hc, a, ha, e.symm⟩⟩

/-- Settles O28: the lifted condition, usability, the sum B and the least of the usable channels' maxima. -/
theorem usableSetGivesTheBrakeFactorSum : Obligations.UsableSetGivesTheBrakeFactorSum := by
  intro s
  refine ⟨fun c => ?_, fun c => ?_, ?_, ?_, fun m hm => ?_⟩
  · rw [State.lifted, Bool.and_eq_true, liftable_iff, liftRaised_iff]
  · rw [usable_deriveChannels, channelUsable_iff]
  · rw [b_deriveChannels, sum_map_filter]
    simp [Chan.all, PerChan.get, Nat.add_assoc]
  · rw [lowestMax_deriveChannels, List.min?_eq_none_iff, List.eq_nil_iff_forall_not_mem]
    constructor
    · intro h c hc
      refine Option.eq_none_iff_forall_ne_some.2 fun a ha => h _ (mem_maxima.2 ⟨c, a, hc, ha, rfl⟩)
    · rintro h m hm
      obtain ⟨c, a, hc, ha, -⟩ := mem_maxima.1 hm
      simp [h c hc] at ha
  · rw [lowestMax_deriveChannels, List.min?_eq_some_iff] at hm
    obtain ⟨hmem, hleast⟩ := hm
    exact ⟨mem_maxima.1 hmem, fun c a hc ha => hleast _ (mem_maxima.2 ⟨c, a, hc, ha, rfl⟩)⟩

end Sys2Proof.Machine.AxleChannels

namespace Sys2Proof.Machine.AxleChannels

open SignalRecords

/-! The unavailable conditions (R82), and what a notice of them does in UNAVAILABLE and STANDBY (R83) where auto-check is
off: the state that a change of the usable set and a cleared safe-start marker lead to. -/

/-! ### The conditions in their order -/

theorem configBad_iff (s : State) : s.configBad = true ↔ s.route.state = .suspended ∨ s.signals.state = .suspended ∨
    s.channels.state = .suspended ∨ s.calculator.state = .suspended := by
  simp [State.configBad, or_assoc]

/-- The conditions but for the last are worked from the store and the four table states (R82). -/
structure SameTables (s t : State) : Prop where
  store : t.store = s.store
  route : t.route = s.route
  signals : t.signals = s.signals
  channels : t.channels.state = s.channels.state
  calculator : t.calculator.state = s.calculator.state

theorem sameTables_of_calm {s t : State} (h : t.calm = s.calm) : SameTables s t :=
  ⟨State.store_of_calm h, State.route_of_calm h, State.signals_of_calm h, State.channels_state_of_calm h,
    State.calculator_state_of_calm h⟩

/-- R82: the conditions as B and the first three leave them. -/
theorem unavailableReasons_of_sameTables {s t : State} (h : SameTables s t) (hb : t.channels.derived.b = s.channels.derived.b) :
    t.unavailableReasons = s.unavailableReasons := by
  unfold State.unavailableReasons State.configBad
  rw [h.store, h.route, h.signals, h.channels, h.calculator, hb]

/-- R82: where no condition stands, B falling to 0 leaves NO-CHANNEL as the only one. -/
theorem unavailableReasons_noChannel {s t : State} (h : SameTables s t) (hs : s.unavailableReasons = [])
    (hb : t.channels.derived.b = 0) : t.unavailableReasons = [.noChannel] := by
  unfold State.unavailableReasons State.configBad at hs ⊢
  rw [h.store, h.route, h.signals, h.channels, h.calculator, if_pos hb]
  obtain ⟨hfirst, -⟩ := List.append_eq_nil_iff.1 hs
  rw [hfirst, List.nil_append]

/-- R82: the first of the conditions that stand. -/
theorem head_unavailableReasons (s : State) :
    let store := s.store.imageGood = false ∨ s.store.op = .loading
    let config := s.route.state = .suspended ∨ s.signals.state = .suspended ∨ s.channels.state = .suspended ∨
      s.calculator.state = .suspended
    let noChannel := s.channels.derived.b = 0
    (s.unavailableReasons.head? = some .store ↔ store) ∧
    (s.unavailableReasons.head? = some .config ↔ ¬store ∧ config) ∧
    (s.unavailableReasons.head? = some .safeStart ↔ ¬store ∧ ¬config ∧ s.store.marker = true) ∧
    (s.unavailableReasons.head? = some .noChannel ↔ ¬store ∧ ¬config ∧ s.store.marker = false ∧ noChannel) ∧
    (s.unavailableReasons = [] ↔ ¬store ∧ ¬config ∧ s.store.marker = false ∧ ¬noChannel) := by
  intro store config noChannel
  have hstore : (!s.store.imageGood || decide (s.store.op = .loading)) = true ↔ store := by simp [store]
  have hconfig : s.configBad = true ↔ config := configBad_iff s
  unfold State.unavailableReasons
  simp only [hstore, hconfig]
  by_cases h1 : store
  · simp [h1]
  · by_cases h2 : config
    · simp [h1, h2]
    · cases hm : s.store.marker with
      | true => simp [h1, h2]
      | false => by_cases h3 : s.channels.derived.b = 0 <;> simp [h1, h2, h3, noChannel]

/-! ### The moves -/

/-- R99: with auto-check off no check follows. -/
theorem testCheck_of_off {s : State} (h : s.work.settings.autoCheck = false) : s.testCheck = s := by
  simp [State.testCheck, h]

theorem sup_changeReason (s : State) (r : Reason) : (s.changeReason r).sup = { s.sup with reason := r } := by
  unfold State.changeReason
  split
  next h => rw [← h]
  next => simp

theorem park_changeReason (s : State) (r : Reason) : (s.changeReason r).park = s.park := by
  unfold State.changeReason
  split
  · rfl
  · simp

/-- What entry to UNAVAILABLE leaves (R78, R81, R132): `s` is the state that the entry is made from. -/
structure EntersUnavailable (s t : State) (r : Reason) : Prop where
  sup : t.sup = ⟨.unavailable, r, none, false, s.sup.autoPending⟩
  park : t.park = { s.park with holdInForce := false }
  mode : t.merger.mode = .none
  channels : t.channels = s.channels
  path : t.path = s.path
  calm : t.calm = s.calm

theorem enterUnavailable_enters (s : State) (r : Reason) : EntersUnavailable s (s.enterUnavailable r) r := by
  unfold State.enterUnavailable
  dsimp only
  split <;> constructor <;> simp [SupState.isHold, State.calm_sup]

/-! ### A notice of the conditions -/

/-- R83: with no condition left UNAVAILABLE is left for STANDBY. -/
theorem noticeConditions_cleared {s : State} (h : s.sup.state = .unavailable) (hr : s.unavailableReasons = []) :
    s.noticeConditions = s.enterStandby .none := by
  unfold State.noticeConditions
  rw [h, hr]

/-- R83: UNAVAILABLE takes the reason of the first condition. -/
theorem noticeConditions_unavailable {s : State} {r : Reason} {rest : List Reason} (h : s.sup.state = .unavailable)
    (hr : s.unavailableReasons = r :: rest) (ha : s.work.settings.autoCheck = false) :
    s.noticeConditions = s.changeReason r := by
  have hw : (s.changeReason r).work.settings.autoCheck = false := by
    rw [State.work_of_calm (State.calm_changeReason s r), ha]
  unfold State.noticeConditions
  rw [h, hr]
  dsimp only
  rw [testCheck_of_off hw]
  split
  next he => exact (if_pos he).symm
  next => rfl

/-- R83: STANDBY is left for UNAVAILABLE with the reason of the first condition. -/
theorem noticeConditions_standby {s : State} {r : Reason} {rest : List Reason} (h : s.sup.state = .standby)
    (hr : s.unavailableReasons = r :: rest) (ha : s.work.settings.autoCheck = false) :
    s.noticeConditions = s.enterUnavailable r := by
  unfold State.noticeConditions
  rw [h, hr]
  exact testCheck_of_off (by rw [State.work_of_calm (State.calm_enterUnavailable s r), ha])

/-- R83: STANDBY stays where no condition stands. -/
theorem noticeConditions_standby_clear {s : State} (h : s.sup.state = .standby) (hr : s.unavailableReasons = []) :
    s.noticeConditions = s := by
  unfold State.noticeConditions
  rw [h, hr]

/-- R83: the other states do not take the conditions. -/
theorem noticeConditions_elsewhere {s : State} (h : s.sup.state ≠ .unavailable) (h' : s.sup.state ≠ .standby) :
    s.noticeConditions = s := by
  unfold State.noticeConditions
  cases hs : s.sup.state with
  | unavailable => exact absurd hs h
  | standby => exact absurd hs h'
  | checking | holding | releasing | securing | secured => rfl

/-- R131: no notice of the conditions moves PRQ, where no further entry follows. -/
theorem prq_noticeConditions {s : State} (ha : s.work.settings.autoCheck = false) (hb : s.driverBraking = false) :
    s.noticeConditions.park.prq = s.park.prq := by
  by_cases hu : s.sup.state = .unavailable
  · cases hr : s.unavailableReasons with
    | nil => rw [noticeConditions_cleared hu hr, (enterStandby_enters ⟨ha, .inl hb⟩ .none).park]
    | cons r rest => rw [noticeConditions_unavailable hu hr ha, park_changeReason]
  · by_cases hs : s.sup.state = .standby
    · cases hr : s.unavailableReasons with
      | nil => rw [noticeConditions_standby_clear hs hr]
      | cons r rest => rw [noticeConditions_standby hs hr ha, (enterUnavailable_enters s r).park]
    · rw [noticeConditions_elsewhere hu hs]

/-! ### The loss of the only usable channel in STANDBY -/

/-- R49, R54: the status of the only usable channel goes LOST: the usable set is empty, and that is told. -/
theorem reworkNotice_of_only_lost {s : State} {c : Chan} (hd : s.channels.derived = s.deriveChannels)
    (hu : ∀ d, s.channelUsable d = true ↔ d = c) {r : ChannelRecord} (hr : r.age = .lost) :
    (s.setChannel c r).reworkNotice = (s.setChannel c r).rework.tellSet ∧
      (s.setChannel c r).rework.channels.derived.b = 0 := by
  have hnone : ∀ d, (s.setChannel c r).channelUsable d = false := by
    intro d
    by_cases hdc : d = c
    · subst hdc
      exact channelUsable_of_lost (by simp [hr])
    · rw [channelUsable_setChannel_of_ne s hdc, Bool.eq_false_iff]
      exact fun h => hdc ((hu d).1 h)
  refine ⟨if_neg fun he => ?_, b_deriveChannels_of_unusable hnone⟩
  have hc : (s.setChannel c r).deriveChannels.usable.get c = s.deriveChannels.usable.get c := by
    rw [← hd]
    exact congrArg (fun d => d.usable.get c) he
  rw [usable_deriveChannels, usable_deriveChannels, hnone c, (hu c).2 rfl] at hc
  exact Bool.false_ne_true hc

/-- R59, R99: in UNAVAILABLE a record worked afresh only reaches the merger, with auto-check off. -/
theorem noticeRecord_of_unavailable {s : State} (h : s.sup.state = .unavailable)
    (ha : s.work.settings.autoCheck = false) : MergerOnly s s.noticeRecord := by
  have hr : s.recordInHold = s := by
    unfold State.recordInHold State.securingNotice
    rw [h, ite_self]
  have ht : s.testEntry = s := by
    unfold State.testEntry
    rw [h]
    exact testCheck_of_off ha
  rw [State.noticeRecord, hr, ht]
  exact mergerOnly_mergerRecord (no_handover_of_ne_secured (by simp [h]))

/-- R56, R83: in STANDBY a changed set with an unavailable condition standing gives UNAVAILABLE. -/
theorem tellSet_of_standby {s : State} {r : Reason} {rest : List Reason} (h : s.sup.state = .standby)
    (hr : s.unavailableReasons = r :: rest) (ha : s.work.settings.autoCheck = false) (hp : s.path.testing = false) :
    s.tellSet.sup = ⟨.unavailable, r, none, false, s.sup.autoPending⟩ ∧ s.tellSet.channels = s.channels ∧
      s.tellSet.park.prq = s.park.prq := by
  have hm := mergerOnly_mergerSet (s := s) (no_handover_of_ne_secured (by simp [h]))
  have hc : s.mergerSet.evaluateCore.noticeConditions = s.mergerSet.evaluateCore.enterUnavailable r :=
    noticeConditions_standby (rest := rest) (by rw [State.sup_evaluateCore, hm.sup, h])
      ((unavailableReasons_of_sameTables (sameTables_of_calm (t := s.mergerSet.evaluateCore) hm.calm)
        (congrArg (fun x => x.derived.b) hm.channels)).trans hr)
      (by rw [State.work_evaluateCore, State.work_of_calm hm.calm, ha])
  unfold State.tellSet
  rw [hc]
  have he := enterUnavailable_enters s.mergerSet.evaluateCore r
  generalize s.mergerSet.evaluateCore.enterUnavailable r = t at he
  have hn := noticeRecord_of_unavailable (s := t) (by rw [he.sup])
    (by rw [State.work_of_calm he.calm, State.work_evaluateCore, State.work_of_calm hm.calm, ha])
  have hsup : t.noticeRecord.sup = ⟨.unavailable, r, none, false, s.sup.autoPending⟩ := by
    rw [hn.sup, he.sup, State.sup_evaluateCore, hm.sup]
  have hset : t.noticeRecord.supSet = t.noticeRecord := by
    unfold State.supSet
    rw [hsup]
  rw [hset, pathSet_of_idle]
  · refine ⟨hsup, ?_, ?_⟩
    · rw [hn.channels, he.channels, State.channels_evaluateCore, hm.channels]
    · rw [hn.park, he.park, State.park_evaluateCore, hm.park]
  · rw [hn.path, he.path, State.path_evaluateCore, hm.path, hp]

/-! ### CLEAR_SAFE_START -/

/-- R169: the state in which a cleared marker is told, the store idle. -/
def cleared (s : State) : State := { s with store := { s.store with marker := false, cell := false } }

/-- R160, R169: the supervisor is told of a marker that has been set. -/
theorem requestMarker_erase {s : State} (hm : s.store.marker = true) (ho : s.store.op = .idle) :
    s.requestMarker .erase = (cleared s).noticeConditions := by
  have hr : s.store.request .erase = { s.store with marker := false, cell := false } := by
    unfold Store.request
    dsimp only
    rw [ho]
    rfl
  unfold State.requestMarker
  dsimp only
  rw [hr, hm, if_neg Bool.false_ne_true]
  rfl

/-- R82: with the marker the only condition, clearing it leaves none. -/
theorem unavailableReasons_cleared {s : State} (h : s.unavailableReasons = [.safeStart]) :
    s.store.marker = true ∧ (cleared s).unavailableReasons = [] := by
  obtain ⟨-, -, hsafe, -, -⟩ := head_unavailableReasons s
  obtain ⟨hstore, hconfig, hmarker⟩ := hsafe.1 (by rw [h]; rfl)
  refine ⟨hmarker, ?_⟩
  obtain ⟨-, -, -, -, hnil⟩ := head_unavailableReasons (cleared s)
  refine hnil.2 ⟨hstore, hconfig, rfl, fun hb => ?_⟩
  have hmem : Reason.noChannel ∈ s.unavailableReasons := by
    unfold State.unavailableReasons
    rw [if_pos (show s.channels.derived.b = 0 from hb)]
    simp
  rw [h] at hmem
  simp at hmem

/-- The state in which CLEAR_SAFE_START's request is judged. -/
def clearing (s : State) : State := s.asked codeCommand 0#8 0#8 Command.clearSafeStart.byte 0#32

/-- R160: the request that CLEAR_SAFE_START stands for is judged as the command, and its reply joins the queue. -/
theorem exec_clearSafeStart {s : State} (h : s.Serves) : ∃ resp : Responder,
    exec .clearSafeStart s = .next { (clearing s).requestMarker .erase with resp := resp } := by
  show ∃ resp, execClearSafeStart s = _
  rw [execClearSafeStart, State.commandRow, State.requestRow_serves s h]
  exact ⟨_, rfl⟩

/-! ### The statement -/

/-- Settles O37: the conditions, the notice of them state by state, the loss of the last channel, and the cleared marker. -/
theorem unavailableFollowsItsConditions : Obligations.UnavailableFollowsItsConditions := by
  refine ⟨head_unavailableReasons, ?_, fun s => noticeConditions_elsewhere, ?_, ?_⟩
  · intro s ha hb t
    refine ⟨fun hs hr => ?_, fun r rest hs hr => ?_, fun r rest hs hr => ?_, noticeConditions_standby_clear,
      prq_noticeConditions ha hb, State.calm_noticeConditions s⟩
    · have he := enterStandby_enters (s := s) ⟨ha, .inl hb⟩ .none
      rw [← noticeConditions_cleared hs hr] at he
      exact ⟨he.sup, he.mode, he.records⟩
    · show s.noticeConditions.sup = _
      rw [noticeConditions_unavailable hs hr ha, sup_changeReason]
    · have he := enterUnavailable_enters s r
      rw [← noticeConditions_standby hs hr ha] at he
      exact ⟨he.sup, he.mode⟩
  · intro s c x hawake hs hp ha hr hd hu hx
    obtain ⟨ht, hb⟩ := reworkNotice_of_only_lost (s := s.reach x) (r := (s.channels.records.get c).goLost) hd hu rfl
    have hreasons := unavailableReasons_noChannel (s := s)
      (t := ((s.reach x).setChannel c (s.channels.records.get c).goLost).rework) ⟨rfl, rfl, rfl, rfl, rfl⟩ hr hb
    obtain ⟨hsup, hchan, hprq⟩ := tellSet_of_standby
      (s := ((s.reach x).setChannel c (s.channels.records.get c).goLost).rework) hs hreasons ha hp
    refine ⟨_, exec_statusLossExpiry hawake hx, ?_⟩
    rw [ht, hsup, hchan, hprq]
    exact ⟨rfl, rfl, hb, rfl⟩
  · intro s hserves hs hr ho ha hb
    obtain ⟨resp, hrow⟩ := exec_clearSafeStart hserves
    obtain ⟨hm, hnone⟩ := unavailableReasons_cleared (s := clearing s) hr
    have he := enterStandby_enters (s := cleared (clearing s)) ⟨ha, .inl hb⟩ .none
    rw [← noticeConditions_cleared (s := cleared (clearing s)) hs hnone, ← requestMarker_erase hm ho] at he
    exact ⟨_, hrow, congrArg Store.marker (State.store_of_calm he.calm), congrArg Store.cell (State.store_of_calm he.calm),
      he.sup⟩

end Sys2Proof.Machine.AxleChannels

namespace Sys2Proof.Machine.AxleChannels

open SignalRecords

/-! The path check: what the start of a level makes (R145), what a run's end leaves (R100), and a level that fails, passes or
is abandoned (R146 to R149). -/

/-! ### A report to the supervisor -/

/-- The path check and the check states stand: what the supervisor's moves leave of them (R57, R143). -/
structure KeepsChecks (s t : State) : Prop where
  path : t.path = s.path
  check : ∀ c, (t.channels.records.get c).check = (s.channels.records.get c).check

theorem KeepsChecks.trans {s t u : State} (h : KeepsChecks s t) (h' : KeepsChecks t u) : KeepsChecks s u :=
  ⟨h'.path.trans h.path, fun c => (h'.check c).trans (h.check c)⟩

theorem keepsChecks_of_channels {s t : State} (hp : t.path = s.path) (hc : t.channels = s.channels) : KeepsChecks s t :=
  ⟨hp, fun c => by rw [hc]⟩

theorem check_standby (r : ChannelRecord) : r.standby.check = r.check := by
  rcases standby_eq_or r with h | h <;> rw [h]

theorem enterStandbyCore_enters (s : State) (r : Reason) : EntersStandby s (s.enterStandbyCore r) r := by
  rcases enterStandbyCore_eq_or s r with e | e <;> rw [e]
  · exact (inStandby_enters s r).evaluateCore
  · exact inStandby_enters s r

theorem path_enterStandbyCore (s : State) (r : Reason) : (s.enterStandbyCore r).path = s.path := by
  have hi : (inStandby s r).path = s.path := by
    show ((State.move _ .standby r).setMode .none).path = _
    simp
  rcases enterStandbyCore_eq_or s r with e | e <;> rw [e] <;> exact hi

theorem keepsChecks_enterStandbyCore (s : State) (r : Reason) : KeepsChecks s (s.enterStandbyCore r) :=
  ⟨path_enterStandbyCore s r, fun c => by rw [(enterStandbyCore_enters s r).records, check_standby]⟩

theorem keepsChecks_recordInHold {s : State} (h : s.sup.state = .holding) : KeepsChecks s s.recordInHold := by
  unfold State.recordInHold
  split
  · rw [securingNotice_of_hold (.inl h)]
    exact keepsChecks_of_channels (path_enterSecuring s _) (channels_enterSecuring s _)
  · exact keepsChecks_of_channels rfl rfl

theorem keepsChecks_handMode {s : State} (m : HoldMode) (a : Bool) (h : s.sup.state ≠ .secured) :
    KeepsChecks s (s.handMode m a) :=
  keepsChecks_of_channels (State.path_handMode s m a (no_handover_of_ne_secured h))
    (State.channels_handMode s m a (no_handover_of_ne_secured h))

theorem keepsChecks_enterHolding (s : State) : KeepsChecks s s.enterHolding := by
  unfold State.enterHolding
  dsimp only
  refine KeepsChecks.trans ?_ (keepsChecks_recordInHold ?_)
  · refine KeepsChecks.trans (keepsChecks_of_channels ?_ ?_) (keepsChecks_handMode .hold true (by simp)) <;> simp
  · rw [State.sup_handMode _ _ _ (no_handover_of_ne_secured (by simp))]
    simp

theorem keepsChecks_testHold (s : State) : KeepsChecks s s.testHold := by
  unfold State.testHold
  dsimp only
  split
  · split
    · exact KeepsChecks.trans (t := s.workDriveTest (headingOf s.gf)) (keepsChecks_of_channels rfl rfl)
        (keepsChecks_enterHolding _)
    · exact keepsChecks_of_channels rfl rfl
  · exact keepsChecks_of_channels rfl rfl

/-- R100: the supervisor's leaving of CHECKING changes neither results nor check states. -/
theorem keepsChecks_checkReport (s : State) : KeepsChecks s s.checkReport := by
  unfold State.checkReport
  split
  · split
    · exact (keepsChecks_enterStandbyCore s .none).trans (keepsChecks_testHold _)
    next r _ _ =>
      exact keepsChecks_of_channels (enterUnavailable_enters s r).path (enterUnavailable_enters s r).channels
  · exact keepsChecks_of_channels rfl rfl

/-- R85: in STANDBY, where the conditions of R84 are not met, the test leaves the supervisor. -/
theorem sup_testHold_of_unmet {s : State} (hs : s.sup.state = .standby) (h : StaysInStandby s) :
    s.testHold.sup = s.sup := by
  have hm : (s.workDriveTest (headingOf s.gf)).entryMet = false := entryMet_eq_false h.2
  unfold State.testHold
  rw [if_pos hs]
  dsimp only
  rw [hm, if_neg Bool.false_ne_true]
  rfl

/-- R100: with no unavailable condition the report leads to STANDBY. -/
theorem checkReport_clear {s : State} (hs : s.sup.state = .checking) (hr : s.unavailableReasons = [])
    (h : StaysInStandby s) : s.checkReport.sup.state = .standby ∧ s.checkReport.sup.reason = .none := by
  have he := enterStandbyCore_enters s .none
  have hc : s.checkReport = (s.enterStandbyCore .none).testHold := by
    unfold State.checkReport
    rw [if_pos hs, hr]
  rw [hc, sup_testHold_of_unmet (by rw [he.sup]) (staysInStandby_of_calm h he.calm), he.sup]
  exact ⟨rfl, rfl⟩

/-- R100: with one standing it leads to UNAVAILABLE. -/
theorem checkReport_standing {s : State} {r : Reason} {rest : List Reason} (hs : s.sup.state = .checking)
    (hr : s.unavailableReasons = r :: rest) : s.checkReport.sup.state = .unavailable ∧ s.checkReport.sup.reason = r := by
  have hc : s.checkReport = s.enterUnavailable r := by
    unfold State.checkReport
    rw [if_pos hs, hr]
  rw [hc, (enterUnavailable_enters s r).sup]
  exact ⟨rfl, rfl⟩

/-! ### The start of a level -/

/-- The start of a level on a channel (R117, R145): `s` is the state that it is made from. -/
structure StartsLevel (s t : State) (d : Chan) (k : Level) : Prop where
  path : t.path = { s.path with
    chan := some d, level := some k, settle := 0, timer := some ⟨s.now, s.work.settings.levelTimeout⟩ }
  sup : t.sup = s.sup
  park : t.park = s.park
  channels : t.channels = s.channels
  frame : ∀ id, s.sup.state = .checking → s.demandId = some id → s.merger.mode = .check →
    t.merger.rolling = s.merger.rolling + 1#4 ∧
    t.merger.lastComponent = PerChan.build fun b => if b = d then s.work.settings.level k else 0

theorem rolling_restartRefresh (s : State) : s.restartRefresh.merger.rolling = s.merger.rolling := by
  unfold State.restartRefresh; split <;> rfl

theorem lastComponent_restartRefresh (s : State) :
    s.restartRefresh.merger.lastComponent = s.merger.lastComponent := by
  unfold State.restartRefresh; split <;> rfl

/-- R117, R118: a frame made takes the next rolling count and the components as they stand. -/
theorem makeDemand_frame {s : State} {id : CanId} (h : s.demandId = some id) :
    s.makeDemand.merger.rolling = s.merger.rolling + 1#4 ∧
      s.makeDemand.merger.lastComponent = PerChan.build s.component := by
  unfold State.makeDemand
  rw [h]
  dsimp only
  rw [rolling_restartRefresh, lastComponent_restartRefresh]
  exact ⟨rfl, rfl⟩

/-- R118: under CHECK the level is on the channel under test alone. -/
theorem component_of_check {s : State} {d : Chan} {k : Level} (hm : s.merger.mode = .check)
    (hc : s.path.chan = some d) (hl : s.path.level = some k) :
    s.component = fun b => if b = d then s.work.settings.level k else 0 := by
  funext b
  simp only [State.component, hm, State.checkComponent, hc, hl, eq_comm]

theorem startLevel_starts (s : State) (d : Chan) (k : Level) : StartsLevel s (s.startLevel d k) d k where
  path := State.path_makeForComponent _
  sup := State.sup_makeForComponent _
  park := State.park_makeForComponent _
  channels := State.channels_makeForComponent _
  frame id hs hid hm := by
    unfold State.startLevel
    generalize hu : ({ s with path := { s.path with
      chan := some d, level := some k, settle := 0, timer := s.timer s.work.settings.levelTimeout } } : State) = u
    have hf : u.makeForComponent = u.makeDemand := by
      unfold State.makeForComponent
      rw [show u.sup.state = .checking by rw [← hu]; exact hs]
    obtain ⟨hr, hlast⟩ := makeDemand_frame (s := u) (id := id) (by rw [← hu]; exact hid)
    have hcomp : u.component = fun b => if b = d then u.work.settings.level k else 0 :=
      component_of_check (by rw [← hu]; exact hm) (by rw [← hu]) (by rw [← hu])
    rw [hf, hr, hlast, hcomp, ← hu]
    exact ⟨rfl, rfl⟩

/-! ### The next channel, or the end of the run -/

/-- State `u` is state `s` but for what the path check itself writes: results, check states, and with these the derived values
and the record (R57, R147 to R149). -/
structure Beside (s u : State) : Prop where
  sup : u.sup = s.sup
  merger : u.merger = s.merger
  route : u.route = s.route
  now : u.now = s.now
  work : u.work = s.work
  testing : u.path.testing = s.path.testing
  candidate : u.candidate = s.candidate

theorem Beside.demandId {s u : State} (h : Beside s u) : u.demandId = s.demandId := by
  unfold State.demandId
  rw [h.merger, h.route]

/-- The test goes to a level of a channel (R145, R147, R149). -/
def GoesTo (s t : State) (d : Chan) (k : Level) : Prop :=
  t.path.testing = true ∧ t.path.chan = some d ∧ t.path.level = some k ∧ t.path.settle = 0 ∧
  t.path.timer = some ⟨s.now, s.work.settings.levelTimeout⟩ ∧
  ∀ id, s.sup.state = .checking → s.demandId = some id → s.merger.mode = .check →
    t.merger.rolling = s.merger.rolling + 1#4 ∧
    t.merger.lastComponent = PerChan.build fun b => if b = d then s.work.settings.level k else 0

theorem goesTo_of_starts {s u t : State} {d : Chan} {k : Level} (hu : Beside s u) (h : StartsLevel u t d k)
    (ht : s.path.testing = true) : GoesTo s t d k := by
  have hf := h.frame
  rw [hu.sup, hu.demandId, hu.merger, hu.work] at hf
  unfold GoesTo
  rw [h.path, hu.now, hu.work]
  exact ⟨hu.testing.trans ht, rfl, rfl, rfl, rfl, hf⟩

theorem chooseChannel_some {s : State} {a : Option Chan} {d : Chan} (h : (channelsAbove a).find? s.candidate = some d) :
    s.chooseChannel a = s.startLevel d .low := by
  unfold State.chooseChannel
  rw [h]

theorem chooseChannel_none {s : State} {a : Option Chan} (h : (channelsAbove a).find? s.candidate = none) :
    s.chooseChannel a = (s.stopRun .ended).checkReport := by
  unfold State.chooseChannel
  rw [h]

/-- R144: the choice of the next channel, or the end of the run, changes neither results nor check states. -/
theorem chooseChannel_keeps (s : State) (a : Option Chan) : (s.chooseChannel a).path.results = s.path.results ∧
    ∀ c, ((s.chooseChannel a).channels.records.get c).check = (s.channels.records.get c).check := by
  cases h : (channelsAbove a).find? s.candidate with
  | some d =>
    rw [chooseChannel_some h]
    have hl := startLevel_starts s d .low
    exact ⟨by rw [hl.path], fun c => by rw [hl.channels]⟩
  | none =>
    rw [chooseChannel_none h]
    have hk := keepsChecks_checkReport (s.stopRun .ended)
    exact ⟨by rw [hk.path]; rfl, hk.check⟩

/-- R144, R149: the next candidate is tested from LOW. -/
theorem chooseChannel_goesTo {s u : State} {a : Option Chan} {d : Chan} (hu : Beside s u) (ht : s.path.testing = true)
    (h : (channelsAbove a).find? s.candidate = some d) :
    GoesTo s (u.chooseChannel a) d .low ∧ (u.chooseChannel a).sup = s.sup := by
  rw [chooseChannel_some (by rw [hu.candidate]; exact h)]
  have hl := startLevel_starts u d .low
  exact ⟨goesTo_of_starts hu hl ht, hl.sup.trans hu.sup⟩

/-- R144: with no candidate left the run ends. -/
theorem chooseChannel_ends {s u : State} {a : Option Chan} (hu : Beside s u)
    (h : (channelsAbove a).find? s.candidate = none) : u.chooseChannel a = (u.stopRun .ended).checkReport ∧
      (u.chooseChannel a).path.testing = false ∧ (u.chooseChannel a).path.lastRun = .ended := by
  have hc := chooseChannel_none (s := u) (a := a) (by rw [hu.candidate]; exact h)
  rw [hc, (keepsChecks_checkReport _).path]
  exact ⟨rfl, rfl, rfl⟩

/-! ### Results and check states written -/

theorem beside_writeResult (s : State) (c : Chan) (l : Level) (o : ResultOutcome) (p : Nat) :
    Beside s (s.writeResult c l o p).stopLevel := ⟨rfl, rfl, rfl, rfl, rfl, rfl, rfl⟩

theorem beside_stopLevel (s : State) : Beside s s.stopLevel := ⟨rfl, rfl, rfl, rfl, rfl, rfl, rfl⟩

theorem Beside.trans {s t u : State} (h : Beside s t) (h' : Beside t u) : Beside s u :=
  ⟨h'.sup.trans h.sup, h'.merger.trans h.merger, h'.route.trans h.route, h'.now.trans h.now, h'.work.trans h.work,
    h'.testing.trans h.testing, h'.candidate.trans h.candidate⟩

/-- R57: a check state as written, before the record is worked afresh. -/
def checked (s : State) (c : Chan) (x : CheckState) : State :=
  State.rework (s.setChannel c { s.channels.records.get c with check := x })

theorem writeCheck_eq_or (s : State) (c : Chan) (x : CheckState) :
    s.writeCheck c x = checked s c x ∨ s.writeCheck c x = (checked s c x).evaluateCore := by
  unfold State.writeCheck
  dsimp only
  split
  · exact .inl rfl
  · exact .inr rfl

/-- R144: whether a channel may be tested does not depend on its check state. -/
theorem candidate_checked (s : State) (c : Chan) (x : CheckState) : (checked s c x).candidate = s.candidate := by
  funext d
  show (s.setChannel c { s.channels.records.get c with check := x }).candidate d = _
  by_cases h : d = c
  · subst h
    simp only [State.candidate, State.lifted, State.liftable, State.channels_setChannel, PerChan.get_set_self]
    rfl
  · simp only [State.candidate, State.lifted, State.liftable, State.channels_setChannel, PerChan.get_set_of_ne _ _ h]
    rfl

theorem beside_writeCheck (s : State) (c : Chan) (x : CheckState) : Beside s (s.writeCheck c x) := by
  have hc : Beside s (checked s c x) := ⟨rfl, rfl, rfl, rfl, rfl, rfl, candidate_checked s c x⟩
  rcases writeCheck_eq_or s c x with h | h <;> rw [h]
  · exact hc
  · exact ⟨hc.sup, hc.merger, hc.route, hc.now, hc.work, hc.testing, hc.candidate⟩

theorem channels_writeCheck (s : State) (c : Chan) (x : CheckState) :
    (s.writeCheck c x).channels = (checked s c x).channels := by
  rcases writeCheck_eq_or s c x with h | h <;> rw [h]
  rfl

theorem path_writeCheck (s : State) (c : Chan) (x : CheckState) : (s.writeCheck c x).path = s.path := by
  rcases writeCheck_eq_or s c x with h | h <;> rw [h] <;> rfl

theorem check_writeCheck (s : State) (c : Chan) (x : CheckState) :
    ((s.writeCheck c x).channels.records.get c).check = x := by
  rw [channels_writeCheck]
  exact congrArg ChannelRecord.check (PerChan.get_set_self _ _ _)

theorem result_writeResult (s : State) (c : Chan) (l k : Level) (o : ResultOutcome) (p : Nat) :
    ((s.writeResult c l o p).path.results.get c).get k =
      if k = l then ⟨o, p, true⟩ else (s.path.results.get c).get k := by
  show ((s.path.results.set c ((s.path.results.get c).set l ⟨o, p, true⟩)).get c).get k = _
  rw [PerChan.get_set_self]
  split
  next h => rw [h, PerLevel.get_set_self]
  next h => rw [PerLevel.get_set_of_ne _ _ h]

theorem results_writeResult_of_ne (s : State) {c d : Chan} (l : Level) (o : ResultOutcome) (p : Nat) (h : d ≠ c) :
    (s.writeResult c l o p).path.results.get d = s.path.results.get d := PerChan.get_set_of_ne _ _ h

/-- R149: the levels of a list read NOT-RUN. -/
def notRun (s : State) (c : Chan) (ks : List Level) : State := ks.foldl (fun t k => t.writeResult c k .notRun 0) s

theorem result_notRun (c : Chan) (ks : List Level) (k : Level) (s : State) :
    ((notRun s c ks).path.results.get c).get k =
      if k ∈ ks then ⟨.notRun, 0, true⟩ else (s.path.results.get c).get k := by
  induction ks generalizing s with
  | nil => rfl
  | cons j ks ih =>
    show ((notRun (s.writeResult c j .notRun 0) c ks).path.results.get c).get k = _
    rw [ih, result_writeResult]
    by_cases hk : k ∈ ks <;> by_cases hj : k = j <;> simp [hk, hj]

theorem results_notRun_of_ne {c d : Chan} (h : d ≠ c) (ks : List Level) (s : State) :
    (notRun s c ks).path.results.get d = s.path.results.get d := by
  induction ks generalizing s with
  | nil => rfl
  | cons j ks ih => exact (ih _).trans (results_writeResult_of_ne s _ _ _ h)

theorem channels_notRun (c : Chan) (ks : List Level) (s : State) : (notRun s c ks).channels = s.channels := by
  induction ks generalizing s with
  | nil => rfl
  | cons j ks ih => exact ih _

/-! ### A level fails -/

/-- R148, R149: what a level failure writes. -/
theorem failLevel_writes (s : State) (c : Chan) (l : Level) :
    (∀ k, ((s.failLevel c l).path.results.get c).get k = if k ∈ l.above then ⟨.notRun, 0, true⟩
      else if k = l then ⟨.fail, (s.channels.records.get c).pressure, true⟩ else (s.path.results.get c).get k) ∧
    (∀ d, d ≠ c → (s.failLevel c l).path.results.get d = s.path.results.get d) ∧
    ((s.failLevel c l).channels.records.get c).check = .failed := by
  let v := (s.writeResult c l .fail (s.channels.records.get c).pressure).stopLevel
  let u := v.writeCheck c .failed
  have hu : s.failLevel c l = (notRun u c l.above).chooseChannel (some c) := rfl
  have hpath : u.path.results = (s.writeResult c l .fail (s.channels.records.get c).pressure).path.results :=
    (congrArg PathCheck.results (path_writeCheck v c .failed) :)
  obtain ⟨hresults, hcheck⟩ := chooseChannel_keeps (notRun u c l.above) (some c)
  rw [hu, hresults]
  refine ⟨fun k => ?_, fun d hd => ?_, ?_⟩
  · rw [result_notRun, hpath, result_writeResult]
  · rw [results_notRun_of_ne hd, hpath, results_writeResult_of_ne _ _ _ _ hd]
  · rw [hcheck, channels_notRun, check_writeCheck]

theorem not_mem_above (l : Level) : l ∉ l.above := by cases l <;> decide

/-- R148: the level timer's expiry with a channel under test that goes on. -/
theorem exec_levelTimerExpiry {s : State} {x : Running} (ha : s.awake = true) (hx : s.path.timer = some x) :
    exec .levelTimerExpiry s = .next (State.pathTimeout { s.reach x with path := { s.path with timer := none } }) := by
  show execLevelTimerExpiry s = _
  simp only [execLevelTimerExpiry, expiring_of_awake ha, hx]

/-- R148: an ACCEPTED channel that is not lifted goes on. -/
theorem look_accepted {s : State} {c : Chan} (h : (s.channels.records.get c).handshake = .accepted)
    (hl : s.lifted c = false) : s.look c = .goesOn := by
  simp [State.look, h, hl]

/-- R148: the timeout of a channel that goes on. -/
theorem pathTimeout_goesOn {s : State} {c : Chan} {l : Level} (ht : s.path.testing = true) (hc : s.path.chan = some c)
    (hl : s.path.level = some l) (h : s.look c = .goesOn) : s.pathTimeout = s.failLevel c l := by
  simp only [State.pathTimeout, ht, hc, hl, h]

/-- Settles O47: the timeout fails the level, and writes the results of the levels. -/
theorem levelTimeoutFailsTheChannel : Obligations.LevelTimeoutFailsTheChannel := by
  intro s c l x ha ht hc hl hx hh hlift
  refine ⟨_, exec_levelTimerExpiry ha hx, ?_⟩
  generalize hu : ({ s.reach x with path := { s.path with timer := none } } : State) = u
  have hcalm : u.pathTimeout.calm = (s.reach x).calm := by rw [State.calm_pathTimeout, ← hu, State.calm_path]
  have hf : u.pathTimeout = u.failLevel c l := by
    subst hu
    exact pathTimeout_goesOn ht hc hl (look_accepted hh hlift)
  obtain ⟨hresult, hothers, hcheck⟩ := failLevel_writes u c l
  rw [← hf] at hresult hothers hcheck
  refine ⟨?_, fun k hk => ?_, fun k hk hk' => ?_, fun d hd => ?_, hcheck, hcalm⟩
  · rw [hresult, if_neg (not_mem_above l), if_pos rfl, ← hu]
    rfl
  · rw [hresult, if_pos hk]
  · rw [hresult, if_neg hk', if_neg hk, ← hu]
  · rw [hothers d hd, ← hu]

end Sys2Proof.Machine.AxleChannels

namespace Sys2Proof.Machine.AxleChannels

open SignalRecords

/-! The path check judges a status notice (R146 to R149): settling, passing, the next level and channel, abandoning and failing,
and the third settled status frame from the bus to the next level. -/

/-! ### A status notice -/

section Notice

variable {s : State} {c : Chan} {l : Level}

/-- R146: only the channel under test is judged. -/
theorem pathStatus_of_ne {d : Chan} (ht : s.path.testing = true) (hc : s.path.chan = some c) (hl : s.path.level = some l)
    (hd : d ≠ c) : s.pathStatus d = s := by
  simp only [State.pathStatus, ht, hc, hl, if_neg hd]

theorem pathStatus_goesOn (ht : s.path.testing = true) (hc : s.path.chan = some c) (hl : s.path.level = some l)
    (h : s.look c = .goesOn) : s.pathStatus c = s.judgeLevel c l := by
  simp only [State.pathStatus, ht, hc, hl, if_true, h]

theorem pathStatus_fails (ht : s.path.testing = true) (hc : s.path.chan = some c) (hl : s.path.level = some l)
    (h : s.look c = .fails) : s.pathStatus c = s.failLevel c l := by
  simp only [State.pathStatus, ht, hc, hl, if_true, h]

theorem pathStatus_abandoned (ht : s.path.testing = true) (hc : s.path.chan = some c) (hl : s.path.level = some l)
    (h : s.look c = .abandoned) : s.pathStatus c = s.stopLevel.chooseChannel (some c) := by
  simp only [State.pathStatus, ht, hc, hl, if_true, h, State.abandon]

/-- R148: a channel found LISTENING or lifted is abandoned. -/
theorem look_abandoned (h : (s.channels.records.get c).handshake = .listening ∨
    (s.channels.records.get c).handshake = .accepted ∧ s.lifted c = true) : s.look c = .abandoned := by
  rcases h with h | ⟨h, hl⟩
  · simp [State.look, h]
  · simp [State.look, h, hl]

/-- R148: a channel found FAULT or LOST fails. -/
theorem look_fails (h : (s.channels.records.get c).handshake = .fault ∨ (s.channels.records.get c).handshake = .lost) :
    s.look c = .fails := by
  rcases h with h | h <;> simp [State.look, h]

/-- R146: within the check tolerance of the level, either way. -/
theorem settled_iff : s.settled c l = true ↔
    (s.channels.records.get c).pressure ≤ s.work.settings.level l + s.work.settings.checkTolerance ∧
    s.work.settings.level l ≤ (s.channels.records.get c).pressure + s.work.settings.checkTolerance := by
  simp [State.settled]

/-- R146: a pressure outside the tolerance sets the settle count to 0. -/
theorem judgeLevel_outside (h : s.settled c l = false) :
    s.judgeLevel c l = { s with path := { s.path with settle := 0 } } := by
  unfold State.judgeLevel
  rw [h]
  rfl

/-- R146: the state with the settle count raised. -/
def counted (s : State) : State := { s with path := { s.path with settle := s.path.settle + 1 } }

/-- R146: a first or second settled pressure raises the count. -/
theorem judgeLevel_early (h : s.settled c l = true) (hn : s.path.settle < 2) : s.judgeLevel c l = counted s := by
  unfold State.judgeLevel
  rw [if_pos h]
  exact if_neg (by omega)

/-- R147: the third passes the level. -/
theorem judgeLevel_third (h : s.settled c l = true) (hn : 2 ≤ s.path.settle) :
    s.judgeLevel c l = (counted s).passLevel c l := by
  unfold State.judgeLevel
  rw [if_pos h]
  exact if_pos (by omega)

end Notice

/-! ### A level passes -/

/-- R147: the state with the level's record written and its timer stopped. -/
def passed (s : State) (c : Chan) (l : Level) : State :=
  (s.writeResult c l .pass (s.channels.records.get c).pressure).stopLevel

theorem passLevel_next {l k : Level} (h : l.next = some k) (s : State) (c : Chan) :
    s.passLevel c l = (passed s c l).startLevel c k := by
  unfold State.passLevel
  rw [h]
  rfl

theorem passLevel_last {l : Level} (h : l.next = none) (s : State) (c : Chan) :
    s.passLevel c l = ((passed s c l).writeCheck c .passed).chooseChannel (some c) := by
  unfold State.passLevel
  rw [h]
  rfl

/-- R147: the results a passed level leaves. -/
theorem results_passLevel (s : State) (c : Chan) (l : Level) : (s.passLevel c l).path.results =
    s.path.results.set c ((s.path.results.get c).set l ⟨.pass, (s.channels.records.get c).pressure, true⟩) := by
  cases h : l.next with
  | some k =>
    rw [passLevel_next h, (startLevel_starts _ c k).path]
    rfl
  | none =>
    rw [passLevel_last h, (chooseChannel_keeps _ _).1, path_writeCheck]
    rfl

/-- R147: the next level starts on the same channel. -/
theorem passLevel_starts {l k : Level} (h : l.next = some k) (s : State) (c : Chan) :
    StartsLevel (passed s c l) (s.passLevel c l) c k := by
  rw [passLevel_next h]
  exact startLevel_starts _ c k

theorem beside_passed (s : State) (c : Chan) (l : Level) : Beside s (passed s c l) := beside_writeResult s c l _ _

theorem beside_counted (s : State) : Beside s (counted s) := ⟨rfl, rfl, rfl, rfl, rfl, rfl, rfl⟩

/-- R149: the state once the last level's record and the check state are written. -/
theorem beside_finished (s : State) (c : Chan) (l : Level) : Beside s ((passed (counted s) c l).writeCheck c .passed) :=
  ((beside_counted s).trans (beside_passed _ c l)).trans (beside_writeCheck _ c .passed)

/-- R54, R55: what the path check keeps for itself plays no part in the derived values. -/
theorem channels_checked_path (s : State) (q : PathCheck) (c : Chan) (x : CheckState) :
    (checked { s with path := q } c x).channels = (checked s c x).channels := rfl

/-- R100: the run's end after the last channel has passed. -/
theorem checkReport_of_finished {s : State} {c : Chan} {l : Level} (hs : s.sup.state = .checking) (hb : StaysInStandby s) :
    let t := (((passed (counted s) c l).writeCheck c .passed).stopRun .ended).checkReport
    ((checked s c .passed).unavailableReasons = [] → t.sup.state = .standby ∧ t.sup.reason = .none) ∧
    (∀ a rest, (checked s c .passed).unavailableReasons = a :: rest →
      t.sup.state = .unavailable ∧ t.sup.reason = a) := by
  intro t
  have hcalm : (((passed (counted s) c l).writeCheck c .passed).stopRun .ended).calm = s.calm := by
    rw [State.calm_stopRun, State.calm_writeCheck]
    rfl
  have hchan := (channels_writeCheck (passed (counted s) c l) c .passed).trans (channels_checked_path s _ c .passed)
  have hsup := (beside_finished s c l).sup
  generalize hu : ((passed (counted s) c l).writeCheck c .passed).stopRun .ended = u at hcalm
  have hstate : u.sup.state = .checking := by rw [← hu, ← hs]; exact congrArg Sup.state hsup
  have htables := sameTables_of_calm hcalm
  have hreasons : u.unavailableReasons = (checked s c .passed).unavailableReasons := by
    refine unavailableReasons_of_sameTables
      ⟨htables.store, htables.route, htables.signals, htables.channels, htables.calculator⟩ ?_
    rw [← hu]
    exact congrArg (fun x => x.derived.b) hchan
  have ht : t = u.checkReport := by rw [← hu]
  rw [ht]
  exact ⟨fun hr => checkReport_clear hstate (hreasons.trans hr) (staysInStandby_of_calm hb hcalm),
    fun a rest hr => checkReport_standing hstate (hreasons.trans hr)⟩

/-! ### The third settled status frame -/

/-- R126: under CHECK no build is judged. -/
theorem judge_of_check {s : State} (h : s.merger.mode = .check) : s.judge = s := by
  have hl : s.levelInForce = none := by
    unfold State.levelInForce
    rw [h]
  unfold State.judge
  rw [hl]
  cases s.merger.conf <;> rfl

theorem mergerStatus_of_check {s : State} (h : s.merger.mode = .check) (c : Chan) : s.mergerStatus c = s := by
  unfold State.mergerStatus
  rw [judge_of_check h, ite_self]

/-- R53: whether a channel is lifted does not depend on its record but for the advert copy. -/
theorem lifted_setChannel {s : State} {c : Chan} {r : ChannelRecord}
    (h : r.advert = (s.channels.records.get c).advert) : (s.setChannel c r).lifted c = s.lifted c := by
  unfold State.lifted State.liftable
  rw [State.channels_setChannel, PerChan.get_set_self, h]
  rfl

/-- R48: a status frame with the fault flag clear leaves ACCEPTED. -/
theorem handshake_renewed_accepted {s : State} {c : Chan} {f : Frame}
    (h : (s.channels.records.get c).handshake = .accepted) (hf : (byteAt f.data 2).getLsbD 0 = false) :
    (renewed s c f).handshake = .accepted := by
  simp only [renewed, ChannelRecord.takeStatus, h, hf]
  rfl

/-- R54: a status frame of an ACCEPTED channel whose status is not LOST leaves the derived values. -/
theorem deriveChannels_renewed {s : State} {c : Chan} {f : Frame}
    (h : (s.channels.records.get c).handshake = .accepted) (ha : (s.channels.records.get c).age ≠ .lost)
    (hf : (byteAt f.data 2).getLsbD 0 = false) : (s.setChannel c (renewed s c f)).deriveChannels = s.deriveChannels := by
  refine deriveChannels_setChannel ?_ fun _ => rfl
  have hage : (renewed s c f).age = .fresh := rfl
  have hlift := lifted_setChannel (s := s) (c := c) (r := renewed s c f) rfl
  rw [Bool.eq_iff_iff, channelUsable_iff, channelUsable_iff, hlift, State.channels_setChannel, PerChan.get_set_self,
    handshake_renewed_accepted h hf, h, hage]
  simp [ha, renewed, ChannelRecord.takeStatus]

/-- R48, R56: a status frame that leaves the derived values reaches merger and path check alone. -/
theorem statusTaken_of_same {s : State} {c : Chan} {f : Frame}
    (h : (s.setChannel c (renewed s c f)).deriveChannels = s.channels.derived) :
    s.statusTaken c f = ((s.setChannel c (renewed s c f)).mergerStatus c).pathStatus c := by
  have hr : (s.setChannel c (renewed s c f)).rework = s.setChannel c (renewed s c f) := by
    unfold State.rework
    rw [h]
    rfl
  have ht : s.statusTaken c f = if (s.setChannel c (renewed s c f)).rework.channels.derived = s.channels.derived
      then ((s.setChannel c (renewed s c f)).rework.mergerStatus c).pathStatus c
      else (((s.setChannel c (renewed s c f)).rework.mergerStatus c).pathStatus c).tellSet := rfl
  rw [ht, hr]
  exact if_pos rfl

/-- R48, R146, R147: under CHECK the third settled status frame of the channel under test passes its level. -/
theorem statusTaken_third {s : State} {c : Chan} {f : Frame} {l : Level} (hd : s.channels.derived = s.deriveChannels)
    (hh : (s.channels.records.get c).handshake = .accepted) (hage : (s.channels.records.get c).age ≠ .lost)
    (hf : (byteAt f.data 2).getLsbD 0 = false) (hlift : s.lifted c = false) (hm : s.merger.mode = .check)
    (ht : s.path.testing = true) (hc : s.path.chan = some c) (hl : s.path.level = some l) (hn : 2 ≤ s.path.settle)
    (hhigh : 4 * (byteAt f.data 1).toNat ≤ s.work.settings.level l + s.work.settings.checkTolerance)
    (hlow : s.work.settings.level l ≤ 4 * (byteAt f.data 1).toNat + s.work.settings.checkTolerance) :
    s.statusTaken c f = (counted (s.setChannel c (renewed s c f))).passLevel c l := by
  rw [statusTaken_of_same ((deriveChannels_renewed hh hage hf).trans hd.symm),
    mergerStatus_of_check (s := s.setChannel c (renewed s c f)) hm]
  have hrec : (s.setChannel c (renewed s c f)).channels.records.get c = renewed s c f := PerChan.get_set_self _ _ _
  have hlook : (s.setChannel c (renewed s c f)).look c = .goesOn :=
    look_accepted (by rw [hrec]; exact handshake_renewed_accepted hh hf)
      ((lifted_setChannel (r := renewed s c f) rfl).trans hlift)
  have hsettled : (s.setChannel c (renewed s c f)).settled c l = true := by
    rw [settled_iff, hrec]
    exact ⟨hhigh, hlow⟩
  exact (pathStatus_goesOn (s := s.setChannel c (renewed s c f)) ht hc hl hlook).trans
    (judgeLevel_third (s := s.setChannel c (renewed s c f)) hsettled hn)

/-! ### The statement -/

/-- Settles O48: a status notice by what it finds, and the third settled status frame. -/
theorem pathCheckPassesAndAbandons : Obligations.PathCheckPassesAndAbandons := by
  constructor
  · intro s c l ht hc hl r setting settled t passedResults goesTo next
    have hset : setting = s.work.settings.level := by funext k; cases k <;> rfl
    have hgo : ∀ {d k}, GoesTo s t d k → goesTo d k := by
      intro d k h
      unfold GoesTo at h
      rw [← hset] at h
      exact h
    have hsettled : settled ↔ s.settled c l = true := by
      rw [settled_iff, ← hset]
    refine ⟨fun d hd => pathStatus_of_ne ht hc hl hd, fun hh hlift => ?_, fun h => ?_, fun h => ?_,
      State.calm_pathStatus s c⟩
    · have hj : t = s.judgeLevel c l := pathStatus_goesOn ht hc hl (look_accepted hh hlift)
      refine ⟨fun h => ?_, fun h hn => ?_, fun h hn => ?_⟩
      · rw [hj, judgeLevel_outside (Bool.eq_false_iff.2 fun hs => h (hsettled.2 hs))]
      · exact hj.trans (judgeLevel_early (hsettled.1 h) hn)
      · have hp : t = (counted s).passLevel c l := hj.trans (judgeLevel_third (hsettled.1 h) hn)
        refine ⟨by rw [hp, results_passLevel]; rfl, fun k hk => ?_, fun hhigh => ?_⟩
        · have hs := passLevel_starts hk (counted s) c
          rw [← hp] at hs
          exact ⟨hgo (goesTo_of_starts ((beside_counted s).trans (beside_passed _ c l)) hs ht), hs.sup, hs.channels⟩
        · have hlast : t = _ := hp.trans (passLevel_last (by rw [hhigh]; rfl) (counted s) c)
          have hbes := beside_finished s c l
          refine ⟨?_, fun d hd => ?_, fun hd hs hb ha => ?_⟩
          · rw [hlast, (chooseChannel_keeps _ _).2, check_writeCheck]
          · obtain ⟨hg, hsup⟩ := chooseChannel_goesTo hbes ht hd
            rw [← hlast] at hg hsup
            exact ⟨hgo hg, hsup⟩
          · obtain ⟨he, htest, hrun⟩ := chooseChannel_ends hbes hd
            rw [← hlast] at he htest hrun
            rw [he] at htest hrun ⊢
            exact ⟨htest, hrun, checkReport_of_finished hs ⟨ha, .inl hb⟩⟩
    · have ha : t = s.stopLevel.chooseChannel (some c) := pathStatus_abandoned ht hc hl (look_abandoned h)
      obtain ⟨hresults, hcheck⟩ := chooseChannel_keeps s.stopLevel (some c)
      rw [← ha] at hresults hcheck
      refine ⟨hresults, hcheck c, fun d hd => ?_, fun hd => ?_⟩
      · obtain ⟨hg, hsup⟩ := chooseChannel_goesTo (beside_stopLevel s) ht hd
        rw [← ha] at hg hsup
        exact ⟨hgo hg, hsup⟩
      · obtain ⟨-, htest, hrun⟩ := chooseChannel_ends (beside_stopLevel s) hd
        rw [← ha] at htest hrun
        exact ⟨htest, hrun⟩
    · have hf : t = s.failLevel c l := pathStatus_fails ht hc hl (look_fails h)
      obtain ⟨hresult, -, hcheck⟩ := failLevel_writes s c l
      rw [← hf] at hresult hcheck
      refine ⟨?_, hcheck, fun k hk => ?_⟩
      · rw [hresult, if_neg (not_mem_above l), if_pos rfl]
      · rw [hresult, if_pos hk]
  · intro s p f c l k hto hs hk hd hc hn hf ht hchan hl hnext hsettle hh hage hlift hder hm hhigh hlow
    refine ⟨_, exec_status hto hs hk hd hc hn, ?_⟩
    rw [statusTaken_third (l := l) (by rw [channels_afterTaking, deriveChannels_afterTaking, hder]) (by simpa using hh)
      (by simpa using hage) hf (by cases p <;> exact hlift) (by simpa using hm) (by simpa using ht) (by simpa using hchan)
      (by simpa using hl) (by simpa using hsettle) (by simpa using hhigh) (by simpa using hlow)]
    generalize hu : (s.afterTaking p).setChannel c (renewed (s.afterTaking p) c f) = u
    have hp : u.path = s.path := by rw [← hu, State.path_setChannel, path_afterTaking]
    have hw : u.work = s.work := by rw [← hu, State.work_setChannel, work_afterTaking]
    have hnow : u.now = s.now := by rw [← hu, State.now_setChannel, now_afterTaking]
    have hst := passLevel_starts hnext (counted u) c
    refine ⟨by rw [hst.path], by rw [hst.path], ?_, ?_, ?_, ?_⟩
    · rw [results_passLevel]
      show u.path.results.set c ((u.path.results.get c).set l ⟨.pass, (u.channels.records.get c).pressure, true⟩) = _
      rw [hp, ← hu, State.channels_setChannel, PerChan.get_set_self]
      rfl
    · rw [hst.path, ← hw, ← hnow]
      rfl
    · rw [hst.sup, ← sup_afterTaking s p, ← State.sup_setChannel (s.afterTaking p), hu]
      rfl
    · rw [hst.park, ← park_afterTaking s p, ← State.park_setChannel (s.afterTaking p), hu]
      rfl

end Sys2Proof.Machine.AxleChannels

namespace Sys2Proof.Machine.AxleChannels

open SignalRecords

/-! The ends of build confirmation's stages (R127, R128): the channels below the level leave as SHORT (R51), and what the
changed usable set leads to in HOLDING and in SECURING (R54, R56, R88, R91). -/

/-! ### The level, and a channel that has built -/

/-- R126: the level in force is worked from the hold mode, the record and the reinforcement flag. -/
theorem levelInForce_congr {s t : State} (hm : t.merger.mode = s.merger.mode)
    (hr : t.calculator.record = s.calculator.record) (hx : t.reinforced = s.reinforced) :
    t.levelInForce = s.levelInForce := by
  unfold State.levelInForce State.holdPressure
  rw [hm, hr, hx]
  cases s.merger.mode <;> rfl

/-- R127: a channel has built when it has reached the level less the tolerance. -/
theorem channelBuilt_iff {s : State} {level : Nat} {c : Chan} : s.channelBuilt level c = true ↔
    level ≤ (s.channels.records.get c).pressure + s.work.settings.buildTolerance := by
  simp [State.channelBuilt]

/-- R127: the build of a usable set that is not empty is confirmed when every channel of it has built. -/
theorem built_iff {s : State} {level : Nat} (h : s.usableList ≠ []) : s.built level = true ↔
    ∀ c ∈ s.usableList, level ≤ (s.channels.records.get c).pressure + s.work.settings.buildTolerance := by
  simp [State.built, h, channelBuilt_iff]

/-- R128: the usable channels below a level. -/
def laggards (s : State) (level : Nat) : List Chan := s.usableList.filter fun c => !s.channelBuilt level c

theorem mem_laggards {s : State} {level : Nat} {c : Chan} : c ∈ laggards s level ↔ c ∈ s.usableList ∧
    (s.channels.records.get c).pressure + s.work.settings.buildTolerance < level := by
  rw [laggards, List.mem_filter, Bool.not_eq_true', Bool.eq_false_iff, Ne, channelBuilt_iff, Nat.not_le]

theorem mem_usableList {s : State} {c : Chan} : c ∈ s.usableList ↔ s.channels.derived.usable.get c = true := by
  have hall : c ∈ Chan.all := by cases c <;> decide
  simp [State.usableList, hall]

theorem nodup_laggards (s : State) (level : Nat) : (laggards s level).Nodup :=
  ((show Chan.all.Nodup by decide).filter _).filter _

/-! ### The stages' ends -/

theorem exec_buildStage1Expiry {s : State} {x : Running} (ha : s.awake = true) (hx : s.merger.stage = some x)
    (hc : s.merger.conf = .stage1) : exec .buildStage1Expiry s = .next (s.reach x).endStage1 := by
  show execBuildStage1Expiry s = _
  simp only [execBuildStage1Expiry, expiring_of_awake ha, hx, hc]

theorem exec_buildStage2Expiry {s : State} {x : Running} (ha : s.awake = true) (hx : s.merger.stage = some x)
    (hc : s.merger.conf = .stage2) : exec .buildStage2Expiry s = .next (s.reach x).endStage2 := by
  show execBuildStage2Expiry s = _
  simp only [execBuildStage2Expiry, expiring_of_awake ha, hx, hc]

/-- R128: the state with the confirmation ended. -/
def confirmationEnded (s : State) : State := { s with merger := { s.merger with conf := .idle, stage := none } }

section Ends

variable {s : State} {level : Nat}

/-- R128: with no usable channel that is reported. -/
theorem endStage2_of_empty (h : s.usableList = []) : s.endStage2 = (confirmationEnded s).securingNotice .confirm := by
  unfold State.endStage2
  simp only [h]
  rfl

/-- R128: with every usable channel built nothing more happens. -/
theorem endStage2_of_built (hl : s.levelInForce = some level) (h : s.usableList ≠ []) (hb : laggards s level = []) :
    s.endStage2 = confirmationEnded s := by
  have he : s.usableList.isEmpty = false := by simpa using h
  have hb' : (s.usableList.filter fun c => !s.channelBuilt level c) = [] := hb
  unfold State.endStage2
  simp only [hl, Option.getD_some, he, hb']
  rfl

/-- R128: the channels below the level leave. -/
theorem endStage2_of_laggards (hl : s.levelInForce = some level) (hb : laggards s level ≠ []) :
    s.endStage2 = (confirmationEnded s).leaveLagging (laggards s level) := by
  have he : s.usableList.isEmpty = false := by
    rw [List.isEmpty_eq_false_iff]
    rintro h
    exact hb (by rw [laggards, h]; rfl)
  have hb' : (s.usableList.filter fun c => !s.channelBuilt level c).isEmpty = false :=
    List.isEmpty_eq_false_iff.2 hb
  unfold State.endStage2
  simp only [hl, Option.getD_some, he, hb']
  rfl

end Ends

/-! ### Channels that become SHORT -/

/-- R51: the records with the channels of a list SHORT. -/
def shortRecords (p : PerChan ChannelRecord) (l : List Chan) : PerChan ChannelRecord :=
  PerChan.build fun c => if c ∈ l then { p.get c with handshake := .short } else p.get c

/-- R51, R128: the state with the channels of a list SHORT and each counted. -/
def leaving (s : State) (l : List Chan) : State := { s with
  channels := { s.channels with records := shortRecords s.channels.records l }
  counters := s.counters.set .shortChannels (l.foldl (fun n _ => n.bump) s.counters.shortChannels) }

/-- R51: ACCEPTED channels become SHORT, each counted once. -/
theorem makeShort_eq {l : List Chan} (hn : l.Nodup) {s : State}
    (ha : ∀ c ∈ l, (s.channels.records.get c).handshake = .accepted) : s.makeShort l = leaving s l := by
  induction l generalizing s with
  | nil => rfl
  | cons c l ih =>
    obtain ⟨hc, hl⟩ := List.nodup_cons.1 hn
    have hstep : s.makeShort (c :: l) = (leaving s [c]).makeShort l := by
      have h1 : s.makeShort [c] = leaving s [c] := by
        have hr : shortRecords s.channels.records [c] =
            s.channels.records.set c { s.channels.records.get c with handshake := .short } := by cases c <;> rfl
        show (if (s.channels.records.get c).handshake = .accepted then _ else _) = _
        rw [if_pos (ha c List.mem_cons_self), leaving, hr]
        rfl
      rw [← h1]
      rfl
    have hother (d : Chan) (hd : d ≠ c) : (leaving s [c]).channels.records.get d = s.channels.records.get d := by
      show (shortRecords s.channels.records [c]).get d = _
      rw [shortRecords, PerChan.get_build, if_neg (by simpa using hd)]
    rw [hstep, ih hl fun d hd => by rw [hother d fun e => hc (e ▸ hd)]; exact ha d (List.mem_cons_of_mem c hd)]
    have hrec : shortRecords (leaving s [c]).channels.records l = shortRecords s.channels.records (c :: l) := by
      unfold shortRecords
      congr 1
      funext d
      by_cases hd : d = c
      · subst hd
        rw [if_neg hc, if_pos List.mem_cons_self]
        show (shortRecords s.channels.records [d]).get d = _
        rw [shortRecords, PerChan.get_build, if_pos List.mem_cons_self]
      · rw [hother d hd]
        simp [hd]
    show leaving (leaving s [c]) l = _
    unfold leaving at hrec ⊢
    dsimp only at hrec ⊢
    rw [hrec]
    rfl

/-- R54: a channel that has become SHORT is not usable, the others are as they were. -/
theorem channelUsable_leaving (s : State) (l : List Chan) (c : Chan) :
    (leaving s l).channelUsable c = (s.channelUsable c && !decide (c ∈ l)) := by
  have hr : (leaving s l).channels.records.get c =
      if c ∈ l then { s.channels.records.get c with handshake := .short } else s.channels.records.get c :=
    PerChan.get_build _ c
  by_cases h : c ∈ l
  · rw [if_pos h] at hr
    rw [channelUsable_of_not_accepted (by simp [hr])]
    simp [h]
  · rw [if_neg h] at hr
    unfold State.channelUsable State.lifted State.liftable
    rw [hr]
    simp only [h, decide_false, Bool.not_false, Bool.and_true]
    rfl

theorem pressure_leaving (s : State) (l : List Chan) (c : Chan) :
    ((leaving s l).channels.records.get c).pressure = (s.channels.records.get c).pressure := by
  show ((shortRecords s.channels.records l).get c).pressure = _
  rw [shortRecords, PerChan.get_build]
  split <;> rfl

/-- R54: the usable set once the channels of a list have left. -/
theorem usable_leaving {s : State} (hd : s.channels.derived = s.deriveChannels) (l : List Chan) (c : Chan) :
    (leaving s l).rework.channels.derived.usable.get c = (s.channels.derived.usable.get c && !decide (c ∈ l)) := by
  show (leaving s l).deriveChannels.usable.get c = _
  rw [usable_deriveChannels, channelUsable_leaving, hd, usable_deriveChannels]

/-! ### A changed set is told in a hold -/

/-- R61: what the merger does by itself does not change what the record is worked from. -/
theorem evaluation_of_mergerOnly {s t : State} (h : MergerOnly s t) : t.evaluation = s.evaluation :=
  evaluation_congr (State.signals_of_calm h.calm) (State.work_of_calm h.calm) (by rw [h.channels]) h.calculator
    (by rw [h.sup])

theorem mergerOnly_evaluateCore {s t : State} (h : MergerOnly s t) : MergerOnly s.evaluateCore t.evaluateCore where
  sup := h.sup
  park := h.park
  path := h.path
  counters := h.counters
  calculator := by
    rw [State.calculator_evaluateCore, State.calculator_evaluateCore, h.calculator, evaluation_of_mergerOnly h]
  channels := h.channels
  mode := h.mode
  calm := by rw [State.calm_evaluateCore, State.calm_evaluateCore, h.calm]

/-- R56: in HOLDING with B above 0 and a sufficient record, and in SECURING, a changed set reaches the merger and the
calculator alone, no check running. -/
theorem tellSet_of_heedless {s : State} (hp : s.path.testing = false)
    (h : s.sup.state = .holding ∧ s.channels.derived.b ≠ 0 ∧ s.evaluation.insufficient = false ∨
      s.sup.state = .securing) :
    s.tellSet = s.mergerSet.evaluateCore.mergerRecord ∧ MergerOnly s.evaluateCore s.tellSet := by
  have hns : ¬(s.sup.state = .secured ∧ s.sup.handover = true) :=
    no_handover_of_ne_secured (by rcases h with ⟨h, -⟩ | h <;> simp [h])
  have hm := mergerOnly_mergerSet hns
  have he : MergerOnly s.evaluateCore s.mergerSet.evaluateCore := mergerOnly_evaluateCore hm
  generalize hw : s.mergerSet.evaluateCore = w at he
  have hsup : w.sup = s.sup := he.sup
  have hhold : w.sup.state.isHold = true := by rw [hsup]; rcases h with ⟨h, -⟩ | h <;> rw [h] <;> rfl
  have hrecord : w.recordInHold = w := by
    rcases h with ⟨-, -, h⟩ | h
    · exact recordInHold_of_sufficient (by rw [he.calculator]; exact h)
    · unfold State.recordInHold
      rw [securingNotice_of_securing (by rw [hsup, h]), ite_self]
  have hmr : MergerOnly w w.mergerRecord := mergerOnly_mergerRecord (by rw [hsup]; exact hns)
  have hset : w.mergerRecord.supSet = w.mergerRecord := by
    unfold State.supSet
    rw [hmr.sup, hsup]
    rcases h with ⟨h, hb, -⟩ | h
    · rw [h]
      exact if_neg (by rw [hmr.channels, he.channels]; exact hb)
    · rw [h]
  have ht : s.tellSet = w.mergerRecord := by
    rw [State.tellSet, hw, noticeConditions_of_isHold hhold, State.noticeRecord, hrecord, testEntry_of_isHold hhold, hset,
      pathSet_of_idle (by rw [hmr.path, he.path]; exact hp)]
  exact ⟨ht, by rw [ht]; exact he.trans hmr⟩

/-- R56, R94: in SECURING the notice of a set, changed or not, leaves all but merger and record. -/
theorem noticeSet_of_securing {s : State} (hp : s.path.testing = false) (h : s.sup.state = .securing) (before : Derived) :
    (s.noticeSet before).sup = s.sup ∧ (s.noticeSet before).park = s.park ∧
      (s.noticeSet before).channels = s.channels ∧ (s.noticeSet before).counters = s.counters := by
  unfold State.noticeSet
  split
  · exact ⟨rfl, rfl, rfl, rfl⟩
  · have hm := (tellSet_of_heedless hp (.inr h)).2
    exact ⟨hm.sup, hm.park, hm.channels, hm.counters⟩

/-! ### The build is confirmed afresh -/

section Confirm

variable {s : State} {level : Nat}

/-- R126: confirmation armed on the level in force is judged at once. -/
theorem merger_arm (hl : s.levelInForce = some level) (hns : ¬(s.sup.state = .secured ∧ s.sup.handover = true)) :
    (s.arm level).merger.conf = (if s.built level then .idle else .stage1) ∧
      (s.arm level).merger.confirmLevel = level := by
  unfold State.arm
  generalize hu : ({ s with merger := { s.merger with
    conf := .stage1, stage := s.timer s.work.settings.buildStage1, confirmLevel := level } } : State) = u
  have hlu : u.levelInForce = some level := by
    rw [← hl, ← hu]
    exact levelInForce_congr rfl rfl rfl
  have hconf : u.merger.conf = .stage1 := by rw [← hu]
  have hlevel : u.merger.confirmLevel = level := by rw [← hu]
  have hbuilt : u.built level = s.built level := by rw [← hu]; rfl
  have hsup : u.sup = s.sup := by rw [← hu]
  unfold State.judge
  rw [hconf, hlu]
  dsimp only
  rw [hbuilt]
  split
  · rw [State.buildConfirmed_of_no_handover]
    · exact ⟨rfl, hlevel⟩
    · rw [show ({ u with merger := { u.merger with conf := .idle, stage := none } } : State).sup = s.sup from hsup]
      exact hns
  · exact ⟨hconf, hlevel⟩

/-- R126: a notice that arms. -/
theorem noticeConfirm_true (hl : s.levelInForce = some level) : s.noticeConfirm true = s.arm level := by
  unfold State.noticeConfirm
  rw [hl]
  rfl

/-- R126, R127: a record worked afresh after a build confirmed at a level: a higher level in force is judged, a lower one has
been reached with it. -/
theorem conf_noticeConfirm_false {target : Nat} (hl : s.levelInForce = some target) (hc : s.merger.conf = .idle)
    (hb : s.built s.merger.confirmLevel = true) (hns : ¬(s.sup.state = .secured ∧ s.sup.handover = true)) :
    (s.noticeConfirm false).merger.conf = if s.built target then .idle else .stage1 := by
  unfold State.noticeConfirm
  rw [hl]
  dsimp only
  split
  · exact (merger_arm hl hns).1
  next h =>
    have hle : target ≤ s.merger.confirmLevel := by simpa using h
    have hne : s.usableList ≠ [] := by
      rintro he
      simp [State.built, he] at hb
    rw [if_pos ((built_iff hne).2 fun c hu => hle.trans ((built_iff hne).1 hb c hu))]
    exact hc

theorem levelInForce_noticeComponent (s : State) : s.noticeComponent.levelInForce = s.levelInForce :=
  levelInForce_congr (by simp) (by simp) (by simp [State.reinforced])

theorem built_congr {t : State} (hc : t.channels = s.channels) (hw : t.work = s.work) (level : Nat) :
    t.built level = s.built level := by
  unfold State.built State.usableList State.channelBuilt
  rw [hc, hw]

theorem confirmLevel_setSlot (m : Merger) (n : SlotName) (x : Slot) : (m.setSlot n x).confirmLevel = m.confirmLevel := by
  cases n <;> rfl

theorem confirmLevel_place (m : Merger) (f : Frame) (t : Timer) : (m.place f t).confirmLevel = m.confirmLevel := by
  unfold Merger.place Merger.load
  dsimp only
  split
  · split <;> simp [confirmLevel_setSlot]
  · split <;> simp [confirmLevel_setSlot]

theorem confirmLevel_restartRefresh (s : State) : s.restartRefresh.merger.confirmLevel = s.merger.confirmLevel := by
  unfold State.restartRefresh; split <;> rfl

theorem confirmLevel_makeDemand (s : State) : s.makeDemand.merger.confirmLevel = s.merger.confirmLevel := by
  unfold State.makeDemand
  split
  · exact confirmLevel_restartRefresh s
  · rw [confirmLevel_restartRefresh]
    exact confirmLevel_place _ _ _

theorem confirmLevel_noticeComponent (s : State) : s.noticeComponent.merger.confirmLevel = s.merger.confirmLevel := by
  unfold State.noticeComponent State.makeForComponent
  split
  · rfl
  · split
    · rfl
    · rfl
    all_goals exact confirmLevel_makeDemand s

/-- R126, R127: after a changed set that has built at the level in force, the confirmation stands as the level in force after
the record has been worked afresh has it. -/
theorem conf_mergerSet_mergerRecord {target : Nat} (hns : ¬(s.sup.state = .secured ∧ s.sup.handover = true))
    (hl : s.levelInForce = some level) (hb : s.built level = true)
    (ht : s.mergerSet.evaluateCore.mergerRecord.levelInForce = some target) :
    s.mergerSet.evaluateCore.mergerRecord.merger.conf = if s.built target then .idle else .stage1 := by
  have hm := mergerOnly_mergerSet hns
  have hcomp : MergerOnly s s.noticeComponent := mergerOnly_noticeComponent s
  have hset : s.mergerSet.merger.conf = .idle ∧ s.mergerSet.merger.confirmLevel = level := by
    have hlc : s.noticeComponent.levelInForce = some level := by rw [levelInForce_noticeComponent, hl]
    obtain ⟨hconf, hlevel⟩ := merger_arm hlc (by rw [hcomp.sup]; exact hns)
    rw [built_congr hcomp.channels (State.work_of_calm hcomp.calm), hb] at hconf
    rw [State.mergerSet, noticeConfirm_true hlc]
    exact ⟨hconf, hlevel⟩
  obtain ⟨hconf, hlevel⟩ := hset
  have hnw : ¬(s.mergerSet.evaluateCore.sup.state = .secured ∧ s.mergerSet.evaluateCore.sup.handover = true) := by
    rw [State.sup_evaluateCore, hm.sup]; exact hns
  have hmr := mergerOnly_mergerRecord hnw
  have hwchan : s.mergerSet.evaluateCore.channels = s.channels := hm.channels
  have hwork : s.mergerSet.evaluateCore.work = s.work := State.work_of_calm hm.calm
  have hwconf : s.mergerSet.evaluateCore.merger.conf = .idle := hconf
  have hwlevel : s.mergerSet.evaluateCore.merger.confirmLevel = level := hlevel
  generalize s.mergerSet.evaluateCore = w at *
  have hwc := mergerOnly_noticeComponent w
  have hbuilt (n : Nat) : w.noticeComponent.built n = s.built n :=
    (built_congr hwc.channels (State.work_of_calm hwc.calm) n).trans (built_congr hwchan hwork n)
  have hlt : w.noticeComponent.levelInForce = some target := by
    rw [levelInForce_noticeComponent, ← ht]
    exact (levelInForce_congr hmr.mode (by rw [hmr.calculator]) (by simp only [State.reinforced, hmr.sup])).symm
  rw [State.mergerRecord, conf_noticeConfirm_false hlt (by rw [conf_noticeComponent, hwconf])
    (by rw [confirmLevel_noticeComponent, hwlevel, hbuilt, hb]) (by rw [hwc.sup]; exact hnw), hbuilt]

end Confirm

/-! ### The channels below the level leave -/

theorem derived_ne_of_left {s : State} {l : List Chan} (hd : s.channels.derived = s.deriveChannels) {c : Chan}
    (hc : c ∈ l) (hu : c ∈ s.usableList) : (leaving s l).rework.channels.derived ≠ s.channels.derived := by
  intro he
  have hg := usable_leaving hd l c
  rw [he, mem_usableList.1 hu] at hg
  simp [hc] at hg

theorem accepted_of_usable {s : State} (hd : s.channels.derived = s.deriveChannels) {c : Chan} (hu : c ∈ s.usableList) :
    (s.channels.records.get c).handshake = .accepted := by
  rw [mem_usableList, hd, usable_deriveChannels, channelUsable_iff] at hu
  exact hu.2.1

/-- R128: the channels leave and the confirmation has ended: the state in which the changed set is told. -/
theorem rework_makeShort {s : State} {l : List Chan} (hn : l.Nodup)
    (ha : ∀ c ∈ l, (s.channels.records.get c).handshake = .accepted) :
    ((confirmationEnded s).makeShort l).rework = confirmationEnded (leaving s l).rework := by
  rw [makeShort_eq (s := confirmationEnded s) hn ha]
  rfl

/-- R128, R56: some of the usable channels leave. -/
theorem leaveLagging_some {s : State} {l : List Chan} (hn : l.Nodup)
    (ha : ∀ c ∈ l, (s.channels.records.get c).handshake = .accepted) (hl : l.length ≠ s.usableList.length) :
    (confirmationEnded s).leaveLagging l = (confirmationEnded (leaving s l).rework).noticeSet s.channels.derived := by
  unfold State.leaveLagging
  dsimp only
  rw [rework_makeShort hn ha]
  exact if_neg hl

end Sys2Proof.Machine.AxleChannels

namespace Sys2Proof.Machine.AxleChannels

open SignalRecords

/-! The statement on build confirmation: the second stage's end in HOLDING with some and with all of the usable channels below
the level (R88, R128), and in SECURING. -/

/-! ### A changed set, told -/

theorem noticeSet_of_ne {s : State} {before : Derived} (h : s.channels.derived ≠ before) :
    s.noticeSet before = s.tellSet := if_neg h

theorem mergerOnly_confirmationEnded (s : State) : MergerOnly s (confirmationEnded s) :=
  ⟨rfl, rfl, rfl, rfl, rfl, rfl, rfl, rfl⟩

/-- R56, R126: in HOLDING with B above 0 and a sufficient record, a set that has built at the level in force holds on, its build
confirmed afresh. -/
theorem tellSet_confirmationEnded {s : State} {level : Nat} (h : s.sup.state = .holding) (hp : s.path.testing = false)
    (hb : 0 < s.channels.derived.b) (hr : s.evaluation.insufficient = false) (hlevel : s.levelInForce = some level)
    (hbuilt : s.built level = true) : MergerOnly s.evaluateCore (confirmationEnded s).tellSet ∧
      ∀ target, (confirmationEnded s).tellSet.levelInForce = some target →
        (confirmationEnded s).tellSet.merger.conf = if s.built target then .idle else .stage1 := by
  have hended := mergerOnly_confirmationEnded s
  obtain ⟨ht, hm⟩ := tellSet_of_heedless (s := confirmationEnded s) hp
    (.inl ⟨h, hb.ne', by rw [evaluation_of_mergerOnly hended]; exact hr⟩)
  refine ⟨(mergerOnly_evaluateCore hended).trans hm, fun target htarget => ?_⟩
  · have hlw : (confirmationEnded s).levelInForce = some level := by
      rw [← hlevel]
      exact levelInForce_congr rfl rfl rfl
    have hns : ¬((confirmationEnded s).sup.state = .secured ∧ (confirmationEnded s).sup.handover = true) :=
      no_handover_of_ne_secured (by rw [hended.sup, h]; simp)
    rw [ht] at htarget ⊢
    exact conf_mergerSet_mergerRecord hns hlw hbuilt htarget

/-- R88: in HOLDING with B at 0, the merger's report taken first secures with reason CONFIRM, and the changed set that is told
after it is not heeded. -/
theorem report_then_set {s : State} {before : Derived} (h : s.sup.state = .holding) (hp : s.path.testing = false)
    (hne : s.channels.derived ≠ before) : s.EntersSecuring ((s.securingNotice .confirm).noticeSet before) .confirm ∧
      ((s.securingNotice .confirm).noticeSet before).channels = s.channels := by
  have he := securingNotice_enters (.inl h) .confirm
  have hpath : (s.securingNotice .confirm).path = s.path := by
    rw [securingNotice_of_hold (.inl h), path_enterSecuring]
  have hchan : (s.securingNotice .confirm).channels = s.channels := by
    rw [securingNotice_of_hold (.inl h), channels_enterSecuring]
  generalize s.securingNotice .confirm = e at he hpath hchan
  have hm := (tellSet_of_heedless (by rw [hpath, hp]) (.inr he.state)).2
  have he' : s.EntersSecuring e.evaluateCore .confirm :=
    ⟨he.state, he.reason, he.context, he.handover, he.park, he.mode, he.counted⟩
  rw [noticeSet_of_ne (by rw [hchan]; exact hne)]
  exact ⟨entersSecuring_mergerOnly he' hm, hm.channels.trans hchan⟩

/-- R88: B at 0 told first secures with reason NO-CHANNEL, and the merger's report is not heeded. -/
theorem set_then_report {s : State} {before : Derived} (h : s.sup.state = .holding) (hp : s.path.testing = false)
    (hb : s.channels.derived.b = 0) (hne : s.channels.derived ≠ before) :
    s.EntersSecuring ((s.noticeSet before).securingNotice .confirm) .noChannel ∧
      ((s.noticeSet before).securingNotice .confirm).channels = s.channels := by
  obtain ⟨he, hchan⟩ := tellSet_of_b_zero (.inl h) hb hp
  rw [noticeSet_of_ne hne, securingNotice_of_securing he.state]
  exact ⟨he, hchan⟩

/-! ### The second stage's end in HOLDING -/

section Holding

variable {s : State} {level : Nat}

/-- R128: the state with the channels below the level gone from the usable set. -/
def rest (s : State) (level : Nat) : State := (leaving s (laggards s level)).rework

theorem accepted_laggards (hd : s.channels.derived = s.deriveChannels) (c : Chan) (hc : c ∈ laggards s level) :
    (s.channels.records.get c).handshake = .accepted := accepted_of_usable hd (mem_laggards.1 hc).1

theorem mem_usableList_rest (hd : s.channels.derived = s.deriveChannels) {c : Chan} :
    c ∈ (rest s level).usableList ↔ c ∈ s.usableList ∧ c ∉ laggards s level := by
  rw [mem_usableList, mem_usableList, rest, usable_leaving hd]
  simp

theorem derived_rest_ne (hd : s.channels.derived = s.deriveChannels) (hl : laggards s level ≠ []) :
    (rest s level).channels.derived ≠ s.channels.derived := by
  obtain ⟨c, hc⟩ := List.exists_mem_of_ne_nil _ hl
  exact derived_ne_of_left hd hc (mem_laggards.1 hc).1

/-- R128: all that is left of the usable set has built. -/
theorem built_rest (hd : s.channels.derived = s.deriveChannels) (hne : laggards s level ≠ s.usableList) :
    (rest s level).usableList ≠ [] ∧ (rest s level).built level = true := by
  have hsome : (rest s level).usableList ≠ [] := by
    rintro he
    refine hne (List.filter_eq_self.2 fun c hc => ?_)
    by_contra hb
    have hmem : c ∈ (rest s level).usableList :=
      (mem_usableList_rest hd).2 ⟨hc, fun h => hb (List.mem_filter.1 h).2⟩
    rw [he] at hmem
    simp at hmem
  refine ⟨hsome, (built_iff hsome).2 fun c hc => ?_⟩
  obtain ⟨hu, hlag⟩ := (mem_usableList_rest hd).1 hc
  have hge := Nat.not_lt.1 fun h => hlag (mem_laggards.2 ⟨hu, h⟩)
  exact (pressure_leaving s (laggards s level) c).symm ▸ hge

/-- R128: in HOLDING the rest of the usable set holds on, its build confirmed afresh. -/
theorem endStage2_some_left (h : s.sup.state = .holding) (hp : s.path.testing = false)
    (hd : s.channels.derived = s.deriveChannels) (hlevel : s.levelInForce = some level) (hl : laggards s level ≠ [])
    (hne : laggards s level ≠ s.usableList) (hb : 0 < (rest s level).channels.derived.b)
    (hr : (rest s level).evaluation.insufficient = false) :
    MergerOnly (rest s level).evaluateCore s.endStage2 ∧ ∀ target, s.endStage2.levelInForce = some target →
      s.endStage2.merger.conf = if (rest s level).built target then .idle else .stage1 := by
  have hlen : (laggards s level).length ≠ s.usableList.length := fun he => hne (List.filter_sublist.eq_of_length he)
  have hended := mergerOnly_confirmationEnded (rest s level)
  have hend : s.endStage2 = (confirmationEnded (rest s level)).tellSet := by
    rw [endStage2_of_laggards hlevel hl,
      leaveLagging_some (nodup_laggards s level) (accepted_laggards hd) hlen, ← rest,
      noticeSet_of_ne (by rw [hended.channels]; exact derived_rest_ne hd hl)]
  rw [hend]
  exact tellSet_confirmationEnded h hp hb hr
    ((levelInForce_congr (s := s) (t := rest s level) rfl rfl rfl).trans hlevel) (built_rest hd hne).2

/-- R54, R55: with every usable channel gone B is 0. -/
theorem b_rest (hd : s.channels.derived = s.deriveChannels) (hall : laggards s level = s.usableList) :
    (rest s level).channels.derived.b = 0 := by
  refine b_deriveChannels_of_unusable fun c => ?_
  rw [channelUsable_leaving, Bool.eq_false_iff]
  intro hc
  obtain ⟨hu, hlag⟩ := Bool.and_eq_true_iff.1 hc
  have hmem : c ∈ laggards s level := by
    rw [hall, mem_usableList, hd, usable_deriveChannels]
    exact hu
  simp [hmem] at hlag

/-- The state once every usable channel has left, its free choice taken (R88). -/
def emptied (s : State) (level : Nat) : State :=
  { confirmationEnded (rest s level) with choices := s.choices + 1 }

/-- R88, R128: in HOLDING with every usable channel below the level, the merger's report and B falling to 0 secure, the one that
is taken first with its reason. -/
theorem endStage2_none_left (h : s.sup.state = .holding) (hp : s.path.testing = false)
    (hd : s.channels.derived = s.deriveChannels) (hlevel : s.levelInForce = some level) (hl : laggards s level ≠ [])
    (hall : laggards s level = s.usableList) : ∃ r, (r = .noChannel ∨ r = .confirm) ∧
      (emptied s level).EntersSecuring s.endStage2 r ∧ s.endStage2.channels = (rest s level).channels ∧
      s.endStage2.calm = (emptied s level).calm := by
  have hend : s.endStage2 = if Config.mergerReportFirst s.choices
      then ((emptied s level).securingNotice .confirm).noticeSet s.channels.derived
      else ((emptied s level).noticeSet s.channels.derived).securingNotice .confirm := by
    rw [endStage2_of_laggards hlevel hl]
    unfold State.leaveLagging
    dsimp only
    rw [rework_makeShort (nodup_laggards s level) (accepted_laggards hd)]
    exact if_pos (congrArg List.length hall)
  have hne : (emptied s level).channels.derived ≠ s.channels.derived := derived_rest_ne hd hl
  have hb : (emptied s level).channels.derived.b = 0 := b_rest hd hall
  have hold : (emptied s level).sup.state = .holding := h
  have hpath : (emptied s level).path.testing = false := hp
  have hchan : (emptied s level).channels = (rest s level).channels := rfl
  rw [hend, ← hchan]
  generalize emptied s level = e at *
  split
  · obtain ⟨he, hc⟩ := report_then_set hold hpath hne
    exact ⟨.confirm, .inr rfl, he, hc, by rw [State.calm_noticeSet, State.calm_securingNotice]⟩
  · obtain ⟨he, hc⟩ := set_then_report hold hpath hb hne
    exact ⟨.noChannel, .inl rfl, he, hc, by rw [State.calm_securingNotice, State.calm_noticeSet]⟩

end Holding

section Securing

variable {s : State} {level : Nat} {c : Chan}

/-- R128: a single channel below the level. -/
theorem laggards_singleton (hc : c ∈ s.usableList) (h : ∀ d ∈ s.usableList,
    level ≤ (s.channels.records.get d).pressure + s.work.settings.buildTolerance ↔ d ≠ c) : laggards s level = [c] := by
  refine List.perm_singleton.1 ((List.perm_ext_iff_of_nodup (nodup_laggards s level) (List.nodup_singleton c)).2 fun d => ?_)
  rw [mem_laggards, List.mem_singleton]
  constructor
  · rintro ⟨hd, hlt⟩
    by_contra hne
    exact Nat.not_lt.2 ((h d hd).2 hne) hlt
  · rintro rfl
    exact ⟨hc, Nat.not_le.1 fun hle => (h d hc).1 hle rfl⟩

theorem shortRecords_singleton (p : PerChan ChannelRecord) (c : Chan) :
    shortRecords p [c] = p.set c { p.get c with handshake := .short } := by cases c <;> rfl

/-- R128, R94: in SECURING one channel below the level leaves, and SECURING goes on. -/
theorem endStage2_securing (h : s.sup.state = .securing) (hp : s.path.testing = false)
    (hlevel : s.levelInForce = some level) (hn : 2 ≤ s.usableList.length) (hl : laggards s level = [c])
    (ha : (s.channels.records.get c).handshake = .accepted) :
    s.endStage2.channels.records = s.channels.records.set c { s.channels.records.get c with handshake := .short } ∧
    s.endStage2.counters = s.counters.set .shortChannels s.counters.shortChannels.bump ∧
    s.endStage2.sup = s.sup ∧ s.endStage2.park = s.park ∧ s.endStage2.store = s.store ∧
    s.endStage2.signals = s.signals := by
  have hend : s.endStage2 = (confirmationEnded (leaving s [c]).rework).noticeSet s.channels.derived := by
    rw [endStage2_of_laggards hlevel (by simp [hl]), hl]
    exact leaveLagging_some (List.nodup_singleton c) (by simpa using ha) (by rw [List.length_singleton]; omega)
  have hcalm := State.calm_noticeSet (confirmationEnded (leaving s [c]).rework) s.channels.derived
  have hended := mergerOnly_confirmationEnded (leaving s [c]).rework
  obtain ⟨hsup, hpark, hchan, hcount⟩ := noticeSet_of_securing (s := confirmationEnded (leaving s [c]).rework)
    (by rw [hended.path]; exact hp) (by rw [hended.sup]; exact h) s.channels.derived
  have hrest := hended.calm
  rw [hend, hsup, hpark, hchan, hcount, hended.sup, hended.park, hended.channels, hended.counters,
    State.store_of_calm (hcalm.trans hrest), State.signals_of_calm (hcalm.trans hrest)]
  exact ⟨shortRecords_singleton _ c, rfl, rfl, rfl, rfl, rfl⟩

end Securing

/-- Settles O46: the two stages' ends, with every channel built, with one, some and all below the level, and with none usable. -/
theorem buildStagesEndWithTheirTimer : Obligations.BuildStagesEndWithTheirTimer := by
  intro s x level ha hx hlevel
  have hlevel' : (s.reach x).levelInForce = some level := by
    rw [← hlevel]
    exact levelInForce_congr rfl rfl rfl
  refine ⟨fun hc => exec_buildStage1Expiry ha hx hc, fun hc hu hb => ?_, fun c hc hs hp hn hu hb hh => ?_,
    fun hc hs hu => ?_, fun hc hs hp hd => ?_⟩
  · have hlag : laggards (s.reach x) level = [] :=
      List.eq_nil_iff_forall_not_mem.2 fun c hc =>
        Nat.not_lt.2 (hb c (mem_laggards.1 hc).1) (mem_laggards.1 hc).2
    rw [exec_buildStage2Expiry ha hx hc, endStage2_of_built hlevel' hu hlag]
    rfl
  · have hl : laggards (s.reach x) level = [c] := laggards_singleton (s := s.reach x) hu hb
    obtain ⟨hrec, hcount, hsup, hpark, hstore, hsignals⟩ := endStage2_securing (s := s.reach x) hs hp hlevel' hn hl hh
    exact ⟨_, exec_buildStage2Expiry ha hx hc, hrec, hcount, by rw [hsup]; exact hs, hpark, hstore, hsignals⟩
  · have he := securingNotice_enters (s := confirmationEnded (s.reach x)) (.inl hs) .confirm
    rw [← endStage2_of_empty (s := s.reach x) hu] at he
    exact ⟨_, exec_buildStage2Expiry ha hx hc, he.state, he.reason, by rw [he.park], he.mode⟩
  · intro lags lagging records shortened u
    have hlags : ∀ c, lags c = true ↔ c ∈ laggards s level := fun c => by
      rw [mem_laggards]
      exact decide_eq_true_iff
    have hlagging : lagging = laggards s level := by
      refine List.filter_congr fun c hc => ?_
      rw [Bool.eq_iff_iff, hlags, laggards, List.mem_filter]
      simp [hc]
    have hu : u = rest (s.reach x) level := by
      have hrecords : records = shortRecords s.channels.records (laggards s level) := by
        unfold shortRecords
        refine congrArg PerChan.build (funext fun c => if_congr (hlags c) rfl rfl)
      show State.rework { s.reach x with channels := { s.channels with records := records }, counters := shortened } = _
      rw [hrecords, show shortened = s.counters.set .shortChannels _ from rfl, hlagging]
      rfl
    have hd' : (s.reach x).channels.derived = (s.reach x).deriveChannels := hd
    rw [hlagging]
    have hcounters : shortened = u.counters := rfl
    rw [hcounters, hu]
    refine ⟨fun c => ?_, fun hl hne hb hr => ?_, fun hl hall => ?_⟩
    · rw [rest, usable_leaving hd']
      congr 2
      rw [Bool.eq_iff_iff, hlags, decide_eq_true_iff]
      rfl
    · obtain ⟨hm, hconf⟩ := endStage2_some_left (s := s.reach x) hs hp hd' hlevel' hl hne hb hr
      refine ⟨_, exec_buildStage2Expiry ha hx hc, hm.channels, hm.counters, hm.sup, hm.park,
        congrArg Calc.record hm.calculator, hm.mode, hm.calm, fun target ht => ?_⟩
      rw [hconf target ht]
      have hsome := (built_rest hd' hne).1
      have hlist : (s.reach x).endStage2.usableList = (rest (s.reach x) level).usableList := by
        unfold State.usableList
        rw [hm.channels]
        rfl
      refine if_congr ?_ rfl rfl
      rw [built_iff hsome, hlist]
      refine forall₂_congr fun c _ => ?_
      rw [show ((rest (s.reach x) level).channels.records.get c).pressure = (s.channels.records.get c).pressure from
        pressure_leaving (s.reach x) _ c]
      rfl
    · obtain ⟨r, hr, he, hchan, hcalm⟩ := endStage2_none_left (s := s.reach x) hs hp hd' hlevel' hl hall
      exact ⟨_, r, exec_buildStage2Expiry ha hx hc, hr,
        ⟨he.state, he.reason, he.context, he.handover, he.park, he.mode, he.counted⟩, hchan,
        by rw [hchan]; exact b_rest hd' hall, hcalm⟩

end Sys2Proof.Machine.AxleChannels

namespace Sys2Proof.Machine.HoldCalculator

/-! Quotients rounded up (spec 00 section 6.3), and a curve read at a point (R62, R63, R66). -/

/-! ### Rounded up -/

/-- "Rounded up" is the least natural number not below the quotient. -/
theorem ceilDiv_spec (a : Nat) {b : Nat} (h : 0 < b) : a ≤ b * ceilDiv a b ∧ b * ceilDiv a b < a + b := by
  have hdiv := Nat.div_add_mod (a + (b - 1)) b
  have hmod := Nat.mod_lt (a + (b - 1)) h
  unfold ceilDiv
  omega

/-- "Rounded up" is the least integer not below the quotient, of a signed numerator too. -/
theorem ceilDivInt_spec (a : Int) {b : Nat} (h : 0 < b) : a ≤ ceilDivInt a b * b ∧ ceilDivInt a b * b < a + b := by
  have hb : (0 : Int) < b := Int.natCast_pos.2 h
  have hle := Int.ediv_mul_le (-a) hb.ne'
  have hlt := Int.lt_ediv_add_one_mul_self (-a) hb
  unfold ceilDivInt
  rw [add_mul, one_mul] at hlt
  rw [neg_mul]
  omega

/-! ### The shape of a valid curve -/

/-- R62: the abscissas of a curve that rises strictly are in order. -/
theorem risesStrictly_iff (l : List Breakpoint) : risesStrictly l = true ↔ (l.map (·.x)).Pairwise (· < ·) := by
  rw [← List.isChain_iff_pairwise]
  induction l with
  | nil => simp [risesStrictly]
  | cons p l ih =>
    cases l with
    | nil => simp [risesStrictly]
    | cons q rest => simpa [risesStrictly] using fun _ => ih

/-- R62: the ordinates of a curve that does not fall are in order. -/
theorem doesNotFall_iff (l : List Breakpoint) : doesNotFall l = true ↔ (l.map (·.y)).Pairwise (· ≤ ·) := by
  rw [← List.isChain_iff_pairwise]
  induction l with
  | nil => simp [doesNotFall]
  | cons p l ih =>
    cases l with
    | nil => simp [doesNotFall]
    | cons q rest => simpa [doesNotFall] using fun _ => ih

theorem x_le_of_risesStrictly {l : List Breakpoint} (hl : risesStrictly l = true) {i j : Nat} (hij : i ≤ j)
    (hj : j < l.length) : l[i].x ≤ l[j].x := by
  rcases hij.eq_or_lt with rfl | hlt
  · exact le_rfl
  · exact (List.pairwise_iff_getElem.1 (List.pairwise_map.1 ((risesStrictly_iff l).1 hl)) i j _ hj hlt).le

theorem y_le_of_doesNotFall {l : List Breakpoint} (hl : doesNotFall l = true) {i j : Nat} (hij : i < j)
    (hj : j < l.length) : l[i].y ≤ l[j].y :=
  List.pairwise_iff_getElem.1 (List.pairwise_map.1 ((doesNotFall_iff l).1 hl)) i j _ hj hij

/-- The tail of a curve that rises strictly rises strictly. -/
theorem risesStrictly_tail {p q : Breakpoint} {rest : List Breakpoint} (h : risesStrictly (p :: q :: rest) = true) :
    risesStrictly (q :: rest) = true := by
  simp only [risesStrictly, Bool.and_eq_true] at h
  exact h.2

/-! ### Reading a curve -/

/-- R63, R66: between its first two breakpoints a curve is read off the line through them. -/
theorem curveAt_of_lt {p q : Breakpoint} (rest : List Breakpoint) {x : Nat} (h : x < q.x) : curveAt (p :: q :: rest) x =
    ((p.y : Int) + ceilDivInt (((q.y : Int) - p.y) * ((x : Int) - p.x)) (q.x - p.x)).toNat := if_pos h

/-- R63, R66: from its second breakpoint on a curve is read off its tail. -/
theorem curveAt_of_le (p : Breakpoint) {q : Breakpoint} (rest : List Breakpoint) {x : Nat} (h : q.x ≤ x) :
    curveAt (p :: q :: rest) x = curveAt (q :: rest) x := if_neg (Nat.not_lt.2 h)

/-- R63, R66: at or beyond its last breakpoint a curve gives the last ordinate. -/
theorem curveAt_beyond {l : List Breakpoint} (hl : risesStrictly l = true) {n x : Nat} (hn : n + 1 = l.length)
    (hx : l[n].x ≤ x) : curveAt l x = l[n].y := by
  induction l generalizing n with
  | nil => simp at hn
  | cons p l ih =>
    cases l with
    | nil =>
      obtain rfl : n = 0 := by simpa using hn
      rfl
    | cons q rest =>
      obtain ⟨m, rfl⟩ : ∃ m, n = m + 1 := ⟨rest.length, by simpa using hn⟩
      have hq : q.x ≤ x := (x_le_of_risesStrictly hl (Nat.le_add_left 1 m) (by omega)).trans hx
      rw [curveAt_of_le p rest hq]
      exact ih (risesStrictly_tail hl) (by simpa using hn) hx

/-- R63, R66: `y` is the least integer not below the ordinate that the line from `p` to `q` has at `x`. -/
structure OnLine (p q : Breakpoint) (x y : Nat) : Prop where
  above : ((q.y : Int) - p.y) * (x - p.x) ≤ (y - p.y) * (q.x - p.x)
  least : ((y : Int) - p.y) * (q.x - p.x) < (q.y - p.y) * (x - p.x) + (q.x - p.x)

/-- The interpolated ordinate does not fall below 0, whichever way the line goes. -/
theorem interpolated_onLine {p q : Breakpoint} {x : Nat} (hp : p.x ≤ x) (hq : x < q.x) :
    OnLine p q x ((p.y : Int) + ceilDivInt (((q.y : Int) - p.y) * ((x : Int) - p.x)) (q.x - p.x)).toNat := by
  obtain ⟨hlow, hhigh⟩ := ceilDivInt_spec (((q.y : Int) - p.y) * ((x : Int) - p.x)) (Nat.sub_pos_of_lt (hp.trans_lt hq))
  rw [Nat.cast_sub (hp.trans hq.le)] at hlow hhigh
  generalize ceilDivInt (((q.y : Int) - p.y) * ((x : Int) - p.x)) (q.x - p.x) = c at hlow hhigh
  have hpos : -(p.y : Int) ≤ c := by
    by_contra hc
    have hrun : (0 : Int) ≤ x - p.x := by omega
    have hrest : (0 : Int) < q.x - x := by omega
    nlinarith [mul_nonneg (Int.natCast_nonneg q.y) hrun, mul_nonneg (Int.natCast_nonneg p.y) hrest.le]
  have hy : (((p.y : Int) + c).toNat : Int) - p.y = c := by omega
  exact ⟨by rw [hy]; exact hlow, by rw [hy]; exact hhigh⟩

/-- R63, R66: between two neighbouring breakpoints a curve is interpolated and rounded up. -/
theorem curveAt_onLine {l : List Breakpoint} (hl : risesStrictly l = true) {i x : Nat} (hi : i + 1 < l.length)
    (hlow : l[i].x ≤ x) (hhigh : x < l[i + 1].x) : OnLine l[i] l[i + 1] x (curveAt l x) := by
  induction l generalizing i with
  | nil => simp at hi
  | cons p l ih =>
    cases l with
    | nil => simp at hi
    | cons q rest =>
      cases i with
      | zero =>
        rw [curveAt_of_lt (q := q) rest hhigh]
        exact interpolated_onLine hlow hhigh
      | succ i =>
        have hq : q.x ≤ x := (x_le_of_risesStrictly hl (Nat.le_add_left 1 i) (by omega)).trans hlow
        rw [curveAt_of_le p rest hq]
        exact ih (risesStrictly_tail hl) (by simpa using hi) hlow hhigh

/-! ### The two curves of the part -/

section
variable {n x : Nat} {curve : Vector Breakpoint n} {i j : Fin n}

theorem getElem_toList (curve : Vector Breakpoint n) (i : Fin n) :
    curve.toList[i.val]'(by simp) = curve.get i := by
  rw [Vector.getElem_toList, Vector.get_eq_getElem]

/-- R63, R66: a curve of the part at or beyond its last breakpoint. -/
theorem curveAt_get_beyond (hc : risesStrictly curve.toList = true) (hi : i.val + 1 = n) (hx : (curve.get i).x ≤ x) :
    curveAt curve.toList x = (curve.get i).y := by
  rw [← getElem_toList curve i] at hx ⊢
  exact curveAt_beyond hc (by simpa using hi) hx

/-- R63, R66: a curve of the part between two neighbouring breakpoints. -/
theorem curveAt_get_onLine (hc : risesStrictly curve.toList = true) (hij : j.val = i.val + 1)
    (hlow : (curve.get i).x ≤ x) (hhigh : x < (curve.get j).x) :
    OnLine (curve.get i) (curve.get j) x (curveAt curve.toList x) := by
  obtain ⟨j, hj⟩ := j
  obtain rfl : j = i.val + 1 := hij
  simp only [← getElem_toList] at hlow hhigh ⊢
  exact curveAt_onLine hc (by simpa using hj) hlow hhigh

end

theorem curvesValid_iff (grade : Vector Breakpoint 8) (drum : Vector Breakpoint 5) : curvesValid grade drum = true ↔
    risesStrictly grade.toList = true ∧ (grade.get 0).x = 0 ∧ doesNotFall grade.toList = true ∧
      risesStrictly drum.toList = true ∧ (drum.get 0).x = 0 := by
  simp [curvesValid, and_assoc]

/-! ### S -/

/-- R63: on a line that does not fall, S in natural numbers. -/
theorem OnLine.nat_of_le {p q : Breakpoint} {x y : Nat} (h : OnLine p q x y) (hp : p.x ≤ x) (hq : x < q.x) (hy : p.y ≤ q.y) :
    p.y ≤ y ∧ y ≤ q.y ∧ (q.y - p.y) * (x - p.x) ≤ (y - p.y) * (q.x - p.x) ∧
      (y - p.y) * (q.x - p.x) < (q.y - p.y) * (x - p.x) + (q.x - p.x) := by
  obtain ⟨habove, hleast⟩ := h
  have hlow : p.y ≤ y := by
    by_contra hlt
    have hrise : (0 : Int) ≤ (q.y - p.y) * (x - p.x) := mul_nonneg (by omega) (by omega)
    have hfall : ((y : Int) - p.y) * (q.x - p.x) < 0 := mul_neg_of_neg_of_pos (by omega) (by omega)
    omega
  refine ⟨hlow, ?_⟩
  zify [hy, hp, hlow, hp.trans hq.le]
  refine ⟨?_, habove, hleast⟩
  have hrise : ((q.y : Int) - p.y) * (x - p.x) ≤ (q.y - p.y) * (q.x - p.x) :=
    mul_le_mul_of_nonneg_left (by omega) (by omega)
  have hstep : ((y : Int) - p.y) * (q.x - p.x) < (q.y - p.y + 1) * (q.x - p.x) := by
    rw [add_mul, one_mul]; omega
  have hlt := lt_of_mul_lt_mul_right hstep (by omega)
  omega

/-- R63: at the breakpoint's own abscissa the ordinate is exact. -/
theorem OnLine.exact {p q : Breakpoint} {y : Nat} (h : OnLine p q p.x y) (hq : p.x < q.x) : y = p.y := by
  obtain ⟨habove, hleast⟩ := h
  rw [sub_self, mul_zero] at habove
  rw [sub_self, mul_zero, zero_add] at hleast
  have hrun : (0 : Int) < q.x - p.x := by omega
  have hlow := nonneg_of_mul_nonneg_left habove hrun
  have hhigh : (y : Int) - p.y < 1 := lt_of_mul_lt_mul_right (by rwa [one_mul]) hrun.le
  omega

/-- R63: the sign of g_f plays no part in S. -/
theorem slopeForce_neg (curve : Vector Breakpoint 8) (g : Int) : slopeForce curve (-g) = slopeForce curve g := by
  rw [slopeForce, slopeForce, Int.natAbs_neg]

/-- Settles O35: S beyond the last grade, and on the line between two. -/
theorem slopeForceIsInterpolatedUpwards : Obligations.SlopeForceIsInterpolatedUpwards := by
  intro curve drum g hvalid a
  obtain ⟨hrise, -, hfall, -, -⟩ := (curvesValid_iff curve drum).1 hvalid
  refine ⟨(slopeForce_neg curve g).symm, curveAt_get_beyond hrise rfl, fun i j hij hlow hhigh => ?_⟩
  have hline : OnLine (curve.get i) (curve.get j) a (slopeForce curve g) := curveAt_get_onLine hrise hij hlow hhigh
  have hy : (curve.get i).y ≤ (curve.get j).y := by
    rw [← getElem_toList, ← getElem_toList]
    exact y_le_of_doesNotFall hfall (by omega) _
  refine ⟨fun ha => ?_, hline.nat_of_le hlow hhigh hy⟩
  rw [ha] at hline hhigh
  exact hline.exact hhigh

end Sys2Proof.Machine.HoldCalculator

namespace Sys2Proof.Machine.HoldCalculator

/-! The stages of the hold result record (R61 to R71). -/

/-! ### Stage 5: the drum allowance -/

/-- R66: the speed the drum curve is read at; 0 for an unbound drum speed. -/
def drumMagnitude : Effective → Nat
  | .value v _ => v.natAbs
  | .unbound | .lost => 0

/-- R66: with a drum speed that is not LOST the curve's allowance and the reversal allowance add up to the cap. -/
theorem drumAllowance_of_present (curve : Vector Breakpoint 5) {speed : Effective} (h : speed ≠ .lost) (window : Bool)
    (extra : Nat) : drumAllowance curve speed window extra =
      min (curveAt curve.toList (drumMagnitude speed) + if window then extra else 0) 400 := by
  cases speed with
  | lost => exact absurd rfl h
  | unbound => rfl
  | value v fresh => rfl

theorem drumAllowance_le (curve : Vector Breakpoint 5) (speed : Effective) (window : Bool) (extra : Nat) :
    drumAllowance curve speed window extra ≤ 400 := by
  by_cases h : speed = .lost
  · rw [h]; exact le_rfl
  · rw [drumAllowance_of_present curve h]; exact min_le_right _ _

/-! ### What the record is -/

/-- R61: without tables IN FORCE or without a filtered grade only payload used, M and B are worked. -/
theorem evaluation_unworked {s : State} (h : s.calculator.state = .suspended ∨ s.gf = none) :
    s.evaluation = HoldResult.unworked s.work.settings s.calculator.payloadUsed s.channels.derived.b := by
  unfold State.evaluation
  rcases h with h | h <;> rw [h]
  cases s.calculator.state <;> rfl

/-- Stages 1 to 7 of a record, each by the fields before it. -/
structure LoadWorked (set : Settings) (slopeS payload allowance step b : Nat) (r : HoldResult) : Prop where
  slopeS : r.slopeS = slopeS
  payload : r.payload = payload
  mass : r.mass = min (set.chassisMass + r.payload) set.maxGross
  slopeLoad : r.slopeLoad = ceilDiv (r.slopeS * r.mass) 1000
  drumAllowance : r.drumAllowance = allowance
  drumLoad : r.drumLoad = ceilDiv (r.slopeS * r.payload * r.drumAllowance) 1000000
  load : r.load = r.slopeLoad + r.drumLoad
  margin : r.margin = set.baseMargin + step * set.stepMargin
  force : r.force = min (r.load + ceilDiv (r.load * r.margin) 1000) 65535
  b : r.b = b

theorem loadWorked_loadStages (set : Settings) (slopeS payload allowance step b : Nat) :
    LoadWorked set slopeS payload allowance step b (loadStages set slopeS payload allowance step b).1 :=
  ⟨rfl, rfl, rfl, rfl, rfl, rfl, rfl, rfl, rfl, rfl⟩

/-- R68: F_hold was cut short where the force with its margin passes the cap. -/
theorem saturated_loadStages (set : Settings) (slopeS payload allowance step b : Nat) :
    (loadStages set slopeS payload allowance step b).2 = true ↔
      65535 < (loadStages set slopeS payload allowance step b).1.load +
        ceilDiv ((loadStages set slopeS payload allowance step b).1.load *
          (loadStages set slopeS payload allowance step b).1.margin) 1000 := by
  unfold loadStages
  exact decide_eq_true_iff

/-- Stages 8 to 10 on what stages 1 to 7 have given (R69, R70, R71). -/
def pressureStages (set : Settings) (b : Nat) (lowestMax : Option Nat) (reservoir : Nat) (load : HoldResult × Bool) :
    HoldResult :=
  let pRaw := ceilDiv (load.1.force * 10) b
  let pLimit := pressureLimit set lowestMax reservoir
  let hold := holdPressure set load.2 pRaw pLimit
  { load.1 with pRaw := pRaw, pLimit := pLimit, pHold := hold.1, insufficient := hold.2, valid := true }

/-- Stages 8 to 10 leave what stages 1 to 7 have given. -/
theorem LoadWorked.pressureStages {set : Settings} {slopeS payload allowance step b : Nat} {load : HoldResult × Bool}
    (h : LoadWorked set slopeS payload allowance step b load.1) (lowestMax : Option Nat) (reservoir : Nat) :
    LoadWorked set slopeS payload allowance step b (pressureStages set b lowestMax reservoir load) :=
  ⟨h.slopeS, h.payload, h.mass, h.slopeLoad, h.drumAllowance, h.drumLoad, h.load, h.margin, h.force, h.b⟩

/-- Stages 1 to 7 as the state gives their inputs (R63 to R68). -/
def loadOf (s : State) (g : Int) : HoldResult × Bool :=
  loadStages s.work.settings (slopeForce s.work.gradeCurve g) s.calculator.payloadUsed
    (drumAllowance s.work.drumCurve (s.effective .drumSpeed) s.signals.reversal.isSome s.work.settings.reversalAllowance)
    s.escalation s.channels.derived.b

section
variable {s : State} {g : Int}

/-- R61, R69: with B = 0 the record is worked up to F_hold. -/
theorem evaluation_of_no_brakes (hf : s.calculator.state = .inForce) (hg : s.gf = some g)
    (hb : s.channels.derived.b = 0) : s.evaluation = (loadOf s g).1 := by
  unfold State.evaluation
  rw [hf, hg]
  exact if_pos hb

/-- R61: with B above 0 every stage is worked. What stages 1 to 7 give is generalised before the later stages are compared:
the kernel would count up to the cap of F_hold otherwise. -/
theorem evaluation_of_brakes (hf : s.calculator.state = .inForce) (hg : s.gf = some g) (hb : 0 < s.channels.derived.b) :
    s.evaluation = pressureStages s.work.settings s.channels.derived.b s.channels.derived.lowestMax s.reservoirValue
      (loadOf s g) := by
  unfold State.evaluation loadOf
  split
  next g' _ hg' =>
    obtain rfl : g' = g := by simpa [hg] using hg'.symm
    extract_lets
    generalize loadStages _ _ _ _ _ _ = load
    obtain ⟨r, saturated⟩ := load
    unfold pressureStages
    dsimp only
    rw [if_neg hb.ne']
  next h => exact absurd hg (h g hf)

theorem loadWorked_evaluation (hf : s.calculator.state = .inForce) (hg : s.gf = some g) :
    LoadWorked s.work.settings (slopeForce s.work.gradeCurve g) s.calculator.payloadUsed
      (drumAllowance s.work.drumCurve (s.effective .drumSpeed) s.signals.reversal.isSome
        s.work.settings.reversalAllowance) s.escalation s.channels.derived.b s.evaluation := by
  have hload := loadWorked_loadStages s.work.settings (slopeForce s.work.gradeCurve g) s.calculator.payloadUsed
    (drumAllowance s.work.drumCurve (s.effective .drumSpeed) s.signals.reversal.isSome s.work.settings.reversalAllowance)
    s.escalation s.channels.derived.b
  rcases Nat.eq_zero_or_pos s.channels.derived.b with hb | hb
  · rw [evaluation_of_no_brakes hf hg hb]
    exact hload
  · rw [evaluation_of_brakes hf hg hb]
    exact hload.pressureStages _ _

end

/-! ### Stage 10 -/

/-- R71: the record is insufficient where F_hold was cut short or the limit lies below what is needed, and P_hold is then
the limit. -/
theorem holdPressure_spec (set : Settings) (saturated : Bool) (pRaw pLimit : Nat) :
    ((holdPressure set saturated pRaw pLimit).2 = true ↔ saturated = true ∨ pLimit < max pRaw set.holdFloor) ∧
    (holdPressure set saturated pRaw pLimit).1 =
      if (holdPressure set saturated pRaw pLimit).2 then pLimit else max pRaw set.holdFloor := by
  unfold holdPressure
  dsimp only
  generalize max pRaw set.holdFloor = needed
  cases saturated with
  | true => simp
  | false =>
    by_cases h : needed ≤ pLimit
    · simp [h]
    · simp [h, Nat.lt_of_not_le h]

/-- Stages 8 to 10 of a record, each by the fields before it. -/
structure PressureWorked (set : Settings) (lowestMax : Option Nat) (reservoir : Nat) (r : HoldResult) : Prop where
  valid : r.valid = true
  pRaw : r.pRaw = ceilDiv (r.force * 10) r.b
  pLimit : r.pLimit = pressureLimit set lowestMax reservoir
  insufficient : r.insufficient = true ↔
    65535 < r.load + ceilDiv (r.load * r.margin) 1000 ∨ r.pLimit < max r.pRaw set.holdFloor
  pHold : r.pHold = if r.insufficient then r.pLimit else max r.pRaw set.holdFloor

theorem pressureWorked_pressureStages {set : Settings} {b : Nat} {load : HoldResult × Bool} (hb : load.1.b = b)
    (hs : load.2 = true ↔ 65535 < load.1.load + ceilDiv (load.1.load * load.1.margin) 1000) (lowestMax : Option Nat)
    (reservoir : Nat) : PressureWorked set lowestMax reservoir (pressureStages set b lowestMax reservoir load) := by
  obtain ⟨hinsufficient, hhold⟩ :=
    holdPressure_spec set load.2 (ceilDiv (load.1.force * 10) b) (pressureLimit set lowestMax reservoir)
  rw [hs] at hinsufficient
  subst hb
  exact ⟨rfl, rfl, rfl, hinsufficient, hhold⟩

theorem pressureWorked_evaluation {s : State} {g : Int} (hf : s.calculator.state = .inForce) (hg : s.gf = some g)
    (hb : 0 < s.channels.derived.b) :
    PressureWorked s.work.settings s.channels.derived.lowestMax s.reservoirValue s.evaluation := by
  rw [evaluation_of_brakes hf hg hb]
  unfold loadOf
  exact pressureWorked_pressureStages rfl (saturated_loadStages _ _ _ _ _ _) _ _

/-! ### The statement -/

/-- R66: the allowance the drum curve gives, on its own part and between two breakpoints. -/
theorem drumCurve_read {grade : Vector Breakpoint 8} {drum : Vector Breakpoint 5} (hv : curvesValid grade drum = true)
    (x : Nat) : ((drum.get 4).x ≤ x → curveAt drum.toList x = (drum.get 4).y) ∧
      ∀ i j : Fin 5, j.val = i.val + 1 → (drum.get i).x ≤ x → x < (drum.get j).x →
        OnLine (drum.get i) (drum.get j) x (curveAt drum.toList x) := by
  obtain ⟨-, -, -, hrise, -⟩ := (curvesValid_iff grade drum).1 hv
  exact ⟨curveAt_get_beyond hrise rfl, fun i j => curveAt_get_onLine hrise⟩

/-- Settles O34: the record not worked, and the stages of one that is. -/
theorem recordIsWorkedStageByStage : Obligations.RecordIsWorkedStageByStage := by
  refine ⟨fun s => evaluation_unworked, ?_⟩
  intro s g hf hg r set full drum speed extra
  have hl := loadWorked_evaluation hf hg
  obtain ⟨hslopeLow, hslopeHigh⟩ := ceilDiv_spec (r.slopeS * r.mass) (b := 1000) (by omega)
  obtain ⟨hdrumLow, hdrumHigh⟩ := ceilDiv_spec (r.slopeS * r.payload * r.drumAllowance) (b := 1000000) (by omega)
  rw [← hl.slopeLoad] at hslopeLow hslopeHigh
  rw [← hl.drumLoad] at hdrumLow hdrumHigh
  refine ⟨hl.slopeS, fun hlost => ?_, fun hpresent => ?_, hl.payload, hl.b, hl.mass, hslopeLow, hslopeHigh, hdrumLow,
    hdrumHigh, hl.load, hl.margin, hl.force, hl.drumAllowance ▸ drumAllowance_le _ _ _ _, fun hb => ?_, fun hb => ?_⟩
  · rw [hl.drumAllowance, hlost]
    rfl
  · refine ⟨curveAt drum.toList speed, hl.drumAllowance.trans (drumAllowance_of_present _ hpresent _ _),
      fun hv => (drumCurve_read hv speed).1, fun hv i j hij hlow hhigh => ?_⟩
    obtain ⟨habove, hleast⟩ := (drumCurve_read hv speed).2 i j hij hlow hhigh
    exact ⟨habove, hleast⟩
  · have hr : r = (loadOf s g).1 := evaluation_of_no_brakes hf hg hb
    rw [hr]
    exact ⟨rfl, rfl, rfl, rfl, rfl⟩
  · have hp := pressureWorked_evaluation hf hg hb
    obtain ⟨hrawLow, hrawHigh⟩ := ceilDiv_spec (r.force * 10) (b := r.b) (by rw [hl.b]; exact hb)
    rw [← hp.pRaw] at hrawLow hrawHigh
    refine ⟨hp.valid, hrawLow, hrawHigh, fun hm => ?_, fun m hm => ?_, hp.insufficient, hp.pHold⟩
    · rw [hp.pLimit, hm]; rfl
    · rw [hp.pLimit, hm]; rfl

end Sys2Proof.Machine.HoldCalculator

namespace Sys2Proof.Machine.HoldCalculator

/-! The hold component by the hold mode, and the demand frame made of it (R118, R119, R121, R173). -/

/-! ### Rounded up to 4 kPa -/

theorem roundUp4_bounds (p : Nat) : p ≤ roundUp4 p ∧ roundUp4 p < p + 4 := by
  have h := ceilDiv_spec p (b := 4) (by omega)
  unfold roundUp4
  omega

/-- A demand up to the highest one a byte can carry reads back from its byte in 4 kPa units. -/
theorem four_mul_byteOf_roundUp4 {p : Nat} (h : roundUp4 p ≤ 1020) : 4 * (byteOf (roundUp4 p / 4)).toNat = roundUp4 p := by
  unfold roundUp4 at h ⊢
  rw [Nat.mul_div_cancel _ (by omega), byteOf, BitVec.toNat_ofNat]
  omega

/-! ### The hold component -/

section
variable {s : State} {c : Chan}

/-- R118: under NONE there is no hold component. -/
theorem component_of_none (h : s.merger.mode = .none) : s.component c = 0 := by
  unfold State.component; rw [h]

/-- R118, R145: under CHECK the channel under test carries the check level. -/
theorem component_of_check (h : s.merger.mode = .check) : s.component c = s.checkComponent c := by
  unfold State.component; rw [h]

/-- R118: under HOLD, SECURE and RAMP a usable channel carries the hold pressure, the others nothing. -/
theorem component_of_hold (h : s.merger.mode = .hold ∨ s.merger.mode = .secure ∨ s.merger.mode = .ramp) :
    s.component c = if s.channels.derived.usable.get c then s.holdPressure else 0 := by
  unfold State.component
  rcases h with h | h | h <;> rw [h]

/-- R79: the hold pressure under HOLD. -/
theorem holdPressure_of_hold (h : s.merger.mode = .hold) :
    s.holdPressure = if s.calculator.record.valid then s.calculator.record.target else 0 := by
  unfold State.holdPressure; rw [h]

/-- R79: the hold pressure under SECURE, by the reinforcement flag. -/
theorem holdPressure_of_secure (h : s.merger.mode = .secure) :
    s.holdPressure = if s.calculator.record.valid then
      if s.reinforced then s.calculator.record.pLimit else s.calculator.record.target else 0 := by
  unfold State.holdPressure; rw [h]

/-- R79, R89: the hold pressure under RAMP. -/
theorem holdPressure_of_ramp {ctx : Context} {rel : Release} (h : s.merger.mode = .ramp) (hc : s.sup.ctx = some ctx)
    (hr : ctx.release = some rel) : s.holdPressure = rel.value s.now := by
  unfold State.holdPressure; rw [h, hc, Option.bind_some, hr]

theorem reinforced_of_flag {ctx : Context} (hc : s.sup.ctx = some ctx) (h : ctx.reinforced = true) :
    s.reinforced = true := by
  unfold State.reinforced; rw [hc]; exact h

theorem not_reinforced (h : ∀ ctx, s.sup.ctx = some ctx → ctx.reinforced = false) : s.reinforced = false := by
  unfold State.reinforced
  cases hc : s.sup.ctx with
  | none => rfl
  | some ctx => exact h ctx hc

end

/-- R89: the ramp value is P_start's share of the time left, rounded up. -/
theorem rampValue_spec (rel : Release) (now : Nat) (h : 0 < rel.ramp.dur) :
    rel.pStart * (rel.ramp.dur - min (now - rel.ramp.start) rel.ramp.dur) ≤ rel.ramp.dur * rel.value now ∧
    rel.ramp.dur * rel.value now <
      rel.pStart * (rel.ramp.dur - min (now - rel.ramp.start) rel.ramp.dur) + rel.ramp.dur :=
  ceilDiv_spec _ h

/-! ### The frame -/

/-- R121: the bytes of the last driver demand frame, none before the first. -/
def lastBytes (s : State) : List Byte :=
  match s.merger.driver.last with
  | some f => f.bytes
  | none => []

/-- R173: the bytes of a demand frame. -/
theorem data_demandFrame (s : State) (id : CanId) : (s.demandFrame id).data =
    [byteOf (s.demand .c1 / 4), byteOf (s.demand .c2 / 4), byteOf (s.demand .c3 / 4), byteOf (s.demand .c4 / 4),
      s.merger.mode.origin, (byteAt (lastBytes s) 5).extractLsb' 4 4 ++ s.merger.rolling, byteAt (lastBytes s) 6,
      byteAt (lastBytes s) 7] := rfl

theorem frameDemand_demandFrame {s : State} (id : CanId) {c : Chan} (h : s.demand c ≤ 1020) :
    frameDemand (s.demandFrame id) c = s.demand c := by
  have hb : byteAt (s.demandFrame id).data (c.number - 1) = byteOf (s.demand c / 4) := by
    rw [data_demandFrame]; cases c <;> rfl
  rw [frameDemand, hb]
  exact four_mul_byteOf_roundUp4 h

/-- R119: a demand lies no lower than driver and hold, and less than 4 kPa above the greater of them. -/
theorem demand_bounds (s : State) (c : Chan) : s.driverDemand c ≤ s.demand c ∧ s.component c ≤ s.demand c ∧
    s.demand c < max (s.driverDemand c) (s.component c) + 4 := by
  obtain ⟨hlow, hhigh⟩ := roundUp4_bounds (max (s.driverDemand c) (s.component c))
  exact ⟨(le_max_left _ _).trans hlow, (le_max_right _ _).trans hlow, hhigh⟩

/-- R121, R173: byte 5 holds the rolling count below what is copied from the last driver frame. -/
theorem rolling_demandFrame (s : State) (id : CanId) :
    (byteAt (s.demandFrame id).data 5).extractLsb' 0 4 = s.merger.rolling ∧
    (byteAt (s.demandFrame id).data 5).extractLsb' 4 4 = (byteAt (lastBytes s) 5).extractLsb' 4 4 :=
  ⟨BitVec.extractLsb'_append_eq_right, BitVec.extractLsb'_append_eq_left⟩

/-- Settles O42: the frame, then the component mode by mode. -/
theorem demandFrameIsNeverBelowTheDriver : Obligations.DemandFrameIsNeverBelowTheDriver := by
  constructor
  · intro s id
    obtain ⟨hrolling, hcopied⟩ := rolling_demandFrame s id
    refine ⟨fun c => ?_, rfl, rfl, rfl, rfl, hrolling, fun last hl => ?_, fun hl => ?_⟩
    · obtain ⟨hdriver, hhold, hhigh⟩ := demand_bounds s c
      exact ⟨hdriver, hhold, hhigh, component_of_none, frameDemand_demandFrame id⟩
    · have hb : lastBytes s = last.bytes := by unfold lastBytes; rw [hl]
      rw [hcopied, data_demandFrame, hb]
      exact ⟨rfl, rfl, rfl⟩
    · have hb : lastBytes s = [] := by unfold lastBytes; rw [hl]
      rw [hcopied, data_demandFrame, hb]
      exact ⟨rfl, rfl, rfl⟩
  · intro s c r target usable
    have hheld (h : s.merger.mode = .hold ∨ s.merger.mode = .secure ∨ s.merger.mode = .ramp) (hu : usable) :
        s.component c = s.holdPressure := (component_of_hold h).trans (if_pos hu)
    refine ⟨fun h hu => (component_of_hold h).trans (if_neg hu), fun h hu => ?_, fun h hu => ⟨?_, fun hf => ?_⟩, ?_, ?_, ?_⟩
    · exact (hheld (.inl h) hu).trans (holdPressure_of_hold h)
    · rintro ⟨ctx, hc, hf⟩
      rw [hheld (.inr (.inl h)) hu, holdPressure_of_secure h, reinforced_of_flag hc hf]
      rfl
    · rw [hheld (.inr (.inl h)) hu, holdPressure_of_secure h, not_reinforced hf]
      rfl
    · intro ctx rel h hu hc hr hd
      rw [hheld (.inr (.inr h)) hu, holdPressure_of_ramp h hc hr]
      exact rampValue_spec rel s.now hd
    · intro h d l hd hl
      rw [component_of_check h, State.checkComponent, hd, hl]
      cases l <;> rfl
    · intro h hd
      rw [component_of_check h, State.checkComponent, hd]

end Sys2Proof.Machine.HoldCalculator

namespace Sys2Proof.Machine.HoldCalculator

open SignalRecords AxleChannels

/-! A creep report in each supervisor state (R87, R90, R93, R95, R98). -/

/-! ### What the record and the counters are worked from -/

/-- R61: of the hold context the record takes the escalation step alone. -/
theorem evaluation_of_step {s t : State} (hs : t.signals = s.signals) (hw : t.work = s.work)
    (hd : t.channels.derived = s.channels.derived) (hc : t.calculator = s.calculator)
    (hx : t.escalation = s.escalation) : t.evaluation = s.evaluation := by
  have hg : t.gf = s.gf := by rw [State.gf, State.gf, hs]
  have hr : t.reservoirValue = s.reservoirValue := by
    simp only [State.reservoirValue, State.roleRecord, State.signalOf, hs]
  unfold State.evaluation
  rw [hg, hc, hw, hd, hx, hr, hs, effective_congr hs]

/-- The state at the new step, its escalation counted. -/
def raised (s : State) (c : Context) : State := { s with
  sup := { s.sup with ctx := some { c with step := c.step + 1 } }
  counters := s.counters.set .escalations s.counters.escalations.bump }

section
variable {s : State} {c : Context}

theorem escalation_of_context (h : s.sup.ctx = some c) : s.escalation = c.step := by
  unfold State.escalation; rw [h]

/-- R81, R87: below step 3 the step rises by one. -/
theorem raiseStep_of_lt (h : s.sup.ctx = some c) (hlt : c.step < 3) : s.raiseStep = raised s c := by
  unfold State.raiseStep State.mapContext
  rw [h, Option.map_some, min_eq_left (by omega : c.step + 1 ≤ 3)]
  rfl

/-- R59, R94: in SECURING a record worked afresh only reaches the merger. -/
theorem evaluateHold_of_securing (h : s.sup.state = .securing) : MergerOnly s.evaluateCore s.evaluateHold := by
  have hr : s.evaluateCore.recordInHold = s.evaluateCore := by
    unfold State.recordInHold
    rw [securingNotice_of_securing (s := s.evaluateCore) h, ite_self]
  rw [State.evaluateHold, hr]
  exact mergerOnly_mergerRecord (no_handover_of_ne_secured (by simp [h]))

/-- R59: in HOLDING a sufficient record worked afresh only reaches the merger. -/
theorem evaluateHold_of_sufficient (h : s.sup.state = .holding) (hr : s.evaluation.insufficient = false) :
    MergerOnly s.evaluateCore s.evaluateHold := by
  rw [State.evaluateHold, recordInHold_of_sufficient (s := s.evaluateCore) hr]
  exact mergerOnly_mergerRecord (no_handover_of_ne_secured (by simp [h]))

theorem calculator_enterSecuring (s : State) (r : Reason) : (s.enterSecuring r).calculator = s.calculator := by
  unfold State.enterSecuring
  rw [State.calculator_handMode _ _ _ (no_handover_of_ne_secured (by simp))]
  simp [State.assertPark]

/-- R59, R88: in HOLDING an insufficient record worked afresh secures, and stands. -/
theorem evaluateHold_of_insufficient (h : s.sup.state = .holding) (hr : s.evaluation.insufficient = true) :
    s.EntersSecuring s.evaluateHold .insufficient ∧ s.evaluateHold.calculator.record = s.evaluation := by
  have hin : s.evaluateCore.recordInHold = s.evaluateCore.enterSecuring .insufficient := by
    rw [recordInHold_of_insufficient (s := s.evaluateCore) hr, securingNotice_of_hold (s := s.evaluateCore) (.inl h)]
  have he := s.evaluateCore.enterSecuring_enters .insufficient
  have hm := mergerOnly_mergerRecord (s := s.evaluateCore.enterSecuring .insufficient)
    (no_handover_of_ne_secured (by simp [he.state]))
  rw [State.evaluateHold, hin]
  refine ⟨entersSecuring_mergerOnly (entersSecuring_of_calm he (State.calm_evaluateCore s) rfl rfl) hm, ?_⟩
  rw [hm.calculator, calculator_enterSecuring]
  rfl

end

/-! ### The report, state by state -/

/-- R89, R90: an UPHILL release. -/
def UphillRelease (s : State) (c : Context) : Prop :=
  s.sup.state = .releasing ∧ ∃ rel, c.release = some rel ∧ rel.dir = .uphill

section
variable {s : State} {c : Context} (hc : s.sup.ctx = some c)
include hc

theorem releasingUphill_iff : s.releasingUphill = true ↔ ∃ rel, c.release = some rel ∧ rel.dir = .uphill := by
  unfold State.releasingUphill
  rw [hc, Option.bind_some]
  cases c.release <;> simp

/-- R87, R93: HOLDING and SECURING below step 3. -/
theorem creepReport_raises (h : s.sup.state = .holding ∨ s.sup.state = .securing) (hlt : c.step < 3) :
    s.creepReport = (raised s c).evaluateHold := by
  unfold State.creepReport
  rw [escalation_of_context hc, raiseStep_of_lt hc hlt]
  rcases h with h | h <;> rw [h] <;> exact if_pos hlt

/-- R90: an UPHILL release below step 3. -/
theorem creepReport_uphill (h : UphillRelease s c) (hlt : c.step < 3) :
    s.creepReport = (raised s c).returnToHolding.evaluateHold := by
  obtain ⟨hs, hup⟩ := h
  unfold State.creepReport
  rw [hs, (releasingUphill_iff hc).2 hup, escalation_of_context hc, raiseStep_of_lt hc hlt]
  exact (if_pos rfl).trans (if_pos hlt)

/-- R87, R90: HOLDING and an UPHILL release at step 3. -/
theorem creepReport_rollaway (h : s.sup.state = .holding ∨ UphillRelease s c) (h3 : c.step = 3) :
    s.creepReport = (s.count .rollaways).enterSecuring .rollaway := by
  have hn : ¬c.step < 3 := by omega
  unfold State.creepReport
  rcases h with h | ⟨hs, hup⟩
  · rw [h, escalation_of_context hc]
    exact if_neg hn
  · rw [hs, (releasingUphill_iff hc).2 hup, escalation_of_context hc]
    exact (if_pos rfl).trans (if_neg hn)

/-- R93: SECURING at step 3. -/
theorem creepReport_securing_rollaway (h : s.sup.state = .securing) (h3 : c.step = 3) :
    s.creepReport = (s.count .rollaways).changeReason .rollaway := by
  unfold State.creepReport
  rw [h, escalation_of_context hc]
  exact if_neg (by omega)

/-- R90: a DOWNHILL release does not heed creep. -/
theorem creepReport_downhill (h : s.sup.state = .releasing) (hd : ∀ rel, c.release = some rel → rel.dir = .downhill) :
    s.creepReport = s := by
  have hn : ¬s.releasingUphill = true := by
    rw [releasingUphill_iff hc]
    rintro ⟨rel, hr, hup⟩
    rw [hd rel hr] at hup
    cases hup
  unfold State.creepReport
  rw [h]
  exact if_neg hn

end

/-- R95, R98: SECURED. -/
theorem creepReport_secured {s : State} (h : s.sup.state = .secured) : s.creepReport =
    (State.mapContext { s with sup := { s.sup with handover := false } } fun c => { c with reinforced := true }).handMode
      .secure false := by
  unfold State.creepReport
  rw [h]

theorem creepReport_elsewhere {s : State}
    (h : s.sup.state = .unavailable ∨ s.sup.state = .standby ∨ s.sup.state = .checking) : s.creepReport = s := by
  unfold State.creepReport
  rcases h with h | h | h <;> rw [h]

/-! ### What each report leaves -/

/-- R91: SECURING entered with what is left of a context, its step as it then stands. -/
def SecuredFrom (c : Context) (t : State) : Prop :=
  t.sup.state = .securing ∧ t.park.prq = true ∧ t.park.conf = .waiting ∧ t.merger.mode = .secure ∧
    t.sup.ctx = some { c with step := t.escalation, release := none, reinforced := false, holdLimit := none }

theorem securedFrom_of_enters {u t : State} {r : Reason} {c : Context} {n : Nat} {rel : Option Release}
    (h : u.EntersSecuring t r) (hc : u.sup.ctx = some { c with step := n, release := rel }) :
    SecuredFrom c t ∧ t.escalation = n := by
  have hx : t.sup.ctx = some { c with step := n, release := none, reinforced := false, holdLimit := none } := by
    rw [h.context, hc]
    rfl
  have hn : t.escalation = n := escalation_of_context hx
  refine ⟨⟨h.state, ?_, ?_, h.mode, ?_⟩, hn⟩
  · rw [h.park]
  · rw [h.park]
  · rw [hx, hn]

/-- R87, R90: what working the record at the new step leaves in HOLDING: `u` is HOLDING at the new step. -/
structure Escalates (u t : State) (c : Context) : Prop where
  record : t.calculator.record = u.evaluation
  step : t.escalation = c.step + 1
  stays : u.evaluation.insufficient = false → t.sup = u.sup ∧ t.park = u.park ∧ t.counters = u.counters ∧
    t.merger.mode = u.merger.mode
  secures : u.evaluation.insufficient = true → SecuredFrom c t ∧ t.sup.reason = .insufficient ∧
    t.counters = u.counters.set .secures u.counters.secures.bump

theorem evaluateHold_escalates {u : State} {c : Context} {rel : Option Release} (h : u.sup.state = .holding)
    (hc : u.sup.ctx = some { c with step := c.step + 1, release := rel }) : Escalates u u.evaluateHold c := by
  cases hr : u.evaluation.insufficient with
  | false =>
    have hm := evaluateHold_of_sufficient h hr
    refine ⟨?_, ?_, fun _ => ⟨hm.sup, hm.park, hm.counters, hm.mode⟩, fun ht => ?_⟩
    · rw [hm.calculator]
      rfl
    · exact escalation_of_context ((congrArg Sup.ctx hm.sup).trans hc)
    · rw [hr] at ht
      cases ht
  | true =>
    obtain ⟨he, hrec⟩ := evaluateHold_of_insufficient h hr
    obtain ⟨hfrom, hstep⟩ := securedFrom_of_enters he hc
    refine ⟨hrec, hstep, fun hf => ?_, fun _ => ⟨hfrom, he.reason, he.counted⟩⟩
    rw [hr] at hf
    cases hf

/-- R59: the record at the new step. -/
def recordRaised (s : State) (c : Context) : HoldResult :=
  State.evaluation { s with sup := { s.sup with ctx := some { c with step := c.step + 1 } } }

theorem evaluation_raised (s : State) (c : Context) : (raised s c).evaluation = recordRaised s c :=
  evaluation_of_step rfl rfl rfl rfl rfl

theorem channels_returnToHolding (s : State) : s.returnToHolding.channels = s.channels := by
  unfold State.returnToHolding
  rw [State.channels_handMode _ _ _ (no_handover_of_ne_secured (by simp))]
  simp

/-- R61, R90: the release part plays no part in the record. -/
theorem evaluation_returned (s : State) (c : Context) : (raised s c).returnToHolding.evaluation = recordRaised s c := by
  have hcalm := State.calm_returnToHolding (raised s c)
  have hstep : (raised s c).returnToHolding.escalation = (raised s c).escalation := by
    unfold State.escalation
    rw [sup_returnToHolding]
    rfl
  rw [← evaluation_raised s c]
  exact evaluation_of_step (State.signals_of_calm hcalm) (State.work_of_calm hcalm)
    (by rw [channels_returnToHolding]) (calculator_returnToHolding _) hstep

/-- R87, R90: the escalation as seen from the state of the report: `u` is `s` in HOLDING at the new step. -/
theorem Escalates.of_report {s u t : State} {c stay : Context} {reason : Reason} (h : Escalates u t c)
    (hsup : u.sup = { s.sup with state := .holding, reason := reason, ctx := some stay })
    (hprq : u.park.prq = s.park.prq) (hcount : u.counters = s.counters.set .escalations s.counters.escalations.bump)
    (hrec : u.evaluation = recordRaised s c) :
    t.calculator.record = recordRaised s c ∧ t.escalation = c.step + 1 ∧
    ((recordRaised s c).insufficient = false →
      t.sup = { s.sup with state := .holding, reason := t.sup.reason, ctx := some stay } ∧ t.park.prq = s.park.prq ∧
        t.counters = s.counters.set .escalations s.counters.escalations.bump) ∧
    ((recordRaised s c).insufficient = true → SecuredFrom c t ∧ t.sup.reason = .insufficient ∧
      t.counters = (s.counters.set .escalations s.counters.escalations.bump).set .secures s.counters.secures.bump) := by
  rw [← hrec]
  refine ⟨h.record, h.step, fun hf => ?_, fun ht => ?_⟩
  · obtain ⟨hs, hp, hn, -⟩ := h.stays hf
    rw [hs, hp, hn, hsup]
    exact ⟨rfl, hprq, hcount⟩
  · obtain ⟨hfrom, hreason, hn⟩ := h.secures ht
    refine ⟨hfrom, hreason, ?_⟩
    rw [hn, hcount]
    rfl

/-- What a change of reason leaves (R78). -/
theorem changeReason_keeps (s : State) (r : Reason) :
    (s.changeReason r).calculator = s.calculator ∧ (s.changeReason r).counters = s.counters := by
  unfold State.changeReason
  split <;> simp

section
variable {s : State} {c : Context} (hc : s.sup.ctx = some c)
include hc

/-- R93: SECURING takes the record at the new step and stays. -/
theorem creepReport_securing_keeps (h : s.sup.state = .securing) (hlt : c.step < 3) :
    s.creepReport.calculator.record = recordRaised s c ∧
      s.creepReport.sup = { s.sup with ctx := some { c with step := c.step + 1 } } ∧ s.creepReport.park = s.park ∧
      s.creepReport.counters = s.counters.set .escalations s.counters.escalations.bump := by
  have hm := evaluateHold_of_securing (s := raised s c) h
  rw [creepReport_raises hc (.inr h) hlt, hm.calculator, hm.sup, hm.park, hm.counters]
  exact ⟨evaluation_raised s c, rfl, rfl, rfl⟩

/-- R93: SECURING takes the reason ROLLAWAY. -/
theorem creepReport_securing_reason (h : s.sup.state = .securing) (h3 : c.step = 3) :
    s.creepReport.sup = { s.sup with reason := .rollaway } ∧ s.creepReport.calculator = s.calculator ∧
      s.creepReport.park = s.park ∧ s.creepReport.counters = s.counters.set .rollaways s.counters.rollaways.bump := by
  obtain ⟨hcalc, hcount⟩ := changeReason_keeps (s.count .rollaways) .rollaway
  rw [creepReport_securing_rollaway hc h h3, sup_changeReason, park_changeReason, hcalc, hcount]
  exact ⟨rfl, rfl, rfl, rfl⟩

/-- R87: HOLDING works the record at the new step. -/
theorem creepReport_holding_escalates (h : s.sup.state = .holding) (hlt : c.step < 3) :
    Escalates (raised s c) s.creepReport c := by
  rw [creepReport_raises hc (.inl h) hlt]
  exact evaluateHold_escalates h rfl

/-- R90: an UPHILL release goes back to HOLDING and works the record there. -/
theorem creepReport_uphill_escalates (h : UphillRelease s c) (hlt : c.step < 3) :
    Escalates (raised s c).returnToHolding s.creepReport c := by
  rw [creepReport_uphill hc h hlt]
  exact evaluateHold_escalates (by rw [sup_returnToHolding]) (by rw [sup_returnToHolding]; rfl)

/-- R87, R90: a rollaway secures. -/
theorem creepReport_rollaway_secures (h : s.sup.state = .holding ∨ UphillRelease s c) (h3 : c.step = 3) :
    SecuredFrom c s.creepReport ∧ s.creepReport.escalation = 3 ∧ s.creepReport.sup.reason = .rollaway ∧
      s.creepReport.counters =
        (s.counters.set .rollaways s.counters.rollaways.bump).set .secures s.counters.secures.bump := by
  have he := (s.count .rollaways).enterSecuring_enters .rollaway
  obtain ⟨hfrom, hstep⟩ := securedFrom_of_enters (n := c.step) (rel := c.release) he hc
  rw [creepReport_rollaway hc h h3]
  exact ⟨hfrom, hstep.trans h3, he.reason, he.counted⟩

/-- R95, R98: SECURED takes the reinforcement flag and drops a handover. -/
theorem creepReport_secured_reinforces (h : s.sup.state = .secured) :
    s.creepReport.sup = { s.sup with ctx := some { c with reinforced := true }, handover := false } ∧
      s.creepReport.merger.mode = .secure ∧ s.creepReport.park = s.park ∧ s.creepReport.counters = s.counters ∧
      s.creepReport.calculator = s.calculator := by
  rw [creepReport_secured h]
  generalize hu : (State.mapContext { s with sup := { s.sup with handover := false } } fun c =>
    { c with reinforced := true }) = u
  have hsup : u.sup = { s.sup with ctx := some { c with reinforced := true }, handover := false } := by
    rw [← hu, State.sup_mapContext, hc]
    rfl
  have hn : ¬(u.sup.state = .secured ∧ u.sup.handover = true) := by simp [hsup]
  rw [State.sup_handMode _ _ _ hn, State.merger_mode_handMode _ _ _ hn, State.park_handMode _ _ _ hn,
    State.counters_handMode _ _ _ hn, State.calculator_handMode _ _ _ hn]
  refine ⟨hsup, rfl, ?_, ?_, ?_⟩ <;> rw [← hu] <;> rfl

end

/-- Settles O33: the report in each supervisor state, by the escalation step. -/
theorem creepEscalatesOrRollsAway : Obligations.CreepEscalatesOrRollsAway := by
  refine ⟨fun s => creepReport_elsewhere, ?_⟩
  intro s c hc
  refine ⟨creepReport_securing_keeps hc, creepReport_securing_reason hc, fun h hlt => ?_, fun h hlt => ?_,
    creepReport_rollaway_secures hc, creepReport_secured_reinforces hc, creepReport_downhill hc,
    State.calm_creepReport s⟩
  · have he := creepReport_holding_escalates hc h hlt
    have hsup : (raised s c).sup =
        { s.sup with state := .holding, ctx := some { c with step := c.step + 1 } } := by
      rw [← h]
      rfl
    refine ⟨he.of_report hsup rfl rfl (evaluation_raised s c), fun hr => ?_⟩
    obtain ⟨hs, -⟩ := he.stays (by rw [evaluation_raised]; exact hr)
    rw [hs]
    rfl
  · have he := creepReport_uphill_escalates hc h hlt
    refine ⟨he.of_report (sup_returnToHolding _) (by rw [park_returnToHolding]; rfl) (counters_returnToHolding _)
      (evaluation_returned s c), fun hr => ?_⟩
    obtain ⟨hs, -, -, hmode⟩ := he.stays (by rw [evaluation_returned]; exact hr)
    rw [hs, hmode, sup_returnToHolding, mode_returnToHolding]
    exact ⟨rfl, rfl⟩

end Sys2Proof.Machine.HoldCalculator

namespace Sys2Proof.Machine.HoldSupervisor

open SignalRecords AxleChannels HoldCalculator

/-! The laws that tie the supervisor to park control, the hold context, the safe-start marker, the path check and sleep: the
part of the state they speak of, the law of it while the part is awake, and what a change of the supervisor's state must
find (R80, R81, R83, R131, R132, R133, R137, R143, R171). -/

/-! ### What the laws speak of -/

/-- The part of the state that the laws speak of. -/
structure Ruling where
  state : SupState
  ctx : Option Context
  handover : Bool
  prq : Bool
  holdInForce : Bool
  conf : ParkConf
  testing : Bool
  marker : Bool
  op : Operation
  start : Option StartKind
  asleep : Bool
  sleepTimer : Timer

def ruling (s : State) : Ruling :=
  ⟨s.sup.state, s.sup.ctx, s.sup.handover, s.park.prq, s.park.holdInForce, s.park.conf, s.path.testing, s.store.marker,
    s.store.op, s.start, s.asleep, s.sleepTimer⟩

/-- What must hold for the supervisor to take a state, no start under way (R80, R81, R83, R97, R131, R133, R137, R143). -/
structure Poised (s : State) (st : SupState) : Prop where
  start : s.start = none
  awake : s.asleep = false
  prq : s.park.prq = st.prq
  conf : s.park.conf.fits st = true
  context : s.sup.ctx.isSome = st.isHold
  fits : ∀ c, s.sup.ctx = some c → c.Fits st
  handover : s.sup.handover = true → st = .secured
  marker : s.store.marker = true → st.markerFree = false
  checking : s.path.testing = true ↔ st = .checking

/-- The law of an awake part's ruling, one for both of `State.Starting` and `State.Settled`: PRQ and the hold-in-force marker
alone may stand otherwise during a start, which is made in UNAVAILABLE with the store loading. -/
structure Law (r : Ruling) : Prop where
  awake : r.asleep = false
  prq : r.start = none → r.prq = r.state.prq
  holdInForce : r.start = none → r.holdInForce = r.state.isHold
  conf : r.conf.fits r.state = true
  context : r.ctx.isSome = r.state.isHold
  fits : ∀ c, r.ctx = some c → c.Fits r.state
  handover : r.handover = true → r.state = .secured
  marker : r.marker = true → r.state.markerFree = false
  checking : r.testing = true ↔ r.state = .checking
  sleepTimer : r.sleepTimer.isSome → r.state.mayRest = true
  starting : r.start.isSome → r.state = .unavailable ∧ r.op = .loading ∧ r.sleepTimer = none

def Ruled (s : State) : Prop := Law (ruling s)

theorem Ruled.congr {s t : State} (h : Ruled s) (he : ruling t = ruling s) : Ruled t := by
  unfold Ruled; rw [he]; exact h

/-- A state poised for a supervisor state keeps the law once that is taken. -/
theorem Poised.law {s : State} {st : SupState} (h : Poised s st) {t : Timer} (ht : t.isSome → st.mayRest = true) :
    Law { ruling s with state := st, holdInForce := st.isHold, sleepTimer := t } where
  awake := h.awake
  prq _ := h.prq
  holdInForce _ := rfl
  conf := h.conf
  context := h.context
  fits := h.fits
  handover := h.handover
  marker := h.marker
  checking := h.checking
  sleepTimer := ht
  starting hs := by
    have hs' : s.start.isSome := hs
    simp [h.start] at hs'

/-! ### The states of an awake part -/

theorem fits_of_idle {conf : ParkConf} {st : SupState} (h : conf = .idle) (hs : st.prq = false) : conf.fits st = true := by
  subst h
  cases st <;> first | rfl | cases hs

theorem conf_idle_of_fits {conf : ParkConf} {st : SupState} (h : conf.fits st = true) (hs : st.prq = false) : conf = .idle := by
  cases st with
  | securing | secured => cases hs
  | unavailable | standby | checking | holding | releasing => cases conf <;> first | rfl | cases h

section
variable {s : State}

/-- A start is made in UNAVAILABLE (R131). -/
theorem Ruled.start_of_ne (h : Ruled s) (hs : s.sup.state ≠ .unavailable) : s.start = none := by
  by_contra hn
  exact hs (h.starting (Option.isSome_iff_ne_none.2 hn)).1

/-- No start is under way where the store does not stand against STANDBY (R82). -/
theorem Ruled.start_of_reasons (h : Ruled s) (hr : s.unavailableReasons.head? ≠ some .store) : s.start = none := by
  by_contra hn
  obtain ⟨-, hload, -⟩ := h.starting (Option.isSome_iff_ne_none.2 hn)
  exact hr ((head_unavailableReasons s).1.2 (.inr hload))

/-- With no unavailable condition the marker is clear (R82). -/
theorem marker_of_no_reason (hr : s.unavailableReasons = []) : s.store.marker = false := by
  obtain ⟨-, -, -, -, hnil⟩ := head_unavailableReasons s
  exact (hnil.1 hr).2.2.1

theorem marker_of_noChannel (hr : s.unavailableReasons = [.noChannel]) : s.store.marker = false := by
  obtain ⟨-, -, -, hno, -⟩ := head_unavailableReasons s
  exact (hno.1 (by rw [hr]; rfl)).2.2.1

theorem Ruled.marker_free (h : Ruled s) (hs : s.sup.state.markerFree = true) : s.store.marker = false := by
  by_contra hm
  have := h.marker (by simpa [ruling] using hm)
  rw [show (ruling s).state = s.sup.state from rfl, hs] at this
  cases this

theorem Ruled.testing_of_ne (h : Ruled s) (hs : s.sup.state ≠ .checking) : s.path.testing = false := by
  by_contra ht
  exact hs (h.checking.1 (by simpa [ruling] using ht))

/-- The spring brake is released, the part awake, no start and no check under way: what UNAVAILABLE and STANDBY are entered
from (R131, R137). -/
structure Released (s : State) : Prop where
  start : s.start = none
  awake : s.asleep = false
  prq : s.park.prq = false
  conf : s.park.conf = .idle
  testing : s.path.testing = false

theorem Ruled.released (h : Ruled s) (hs : s.start = none) (hp : s.sup.state.prq = false) (hc : s.sup.state ≠ .checking) :
    Released s :=
  ⟨hs, h.awake, (h.prq hs).trans hp, conf_idle_of_fits h.conf hp, h.testing_of_ne hc⟩

end

/-! ### Operations that leave the ruling alone -/

@[simp] theorem ruling_count (s : State) (n : CounterName) : ruling (s.count n) = ruling s := rfl

@[simp] theorem ruling_restartRefresh (s : State) : ruling s.restartRefresh = ruling s := by
  unfold State.restartRefresh; split <;> rfl

@[simp] theorem ruling_enterRefresh (s : State) : ruling s.enterRefresh = ruling s := by
  unfold State.enterRefresh; split
  · exact ruling_restartRefresh s
  · rfl

@[simp] theorem ruling_makeCab (s : State) : ruling s.makeCab = ruling s := by
  unfold State.makeCab; dsimp only; split <;> rfl

@[simp] theorem ruling_makeDemand (s : State) : ruling s.makeDemand = ruling s := by
  unfold State.makeDemand; split
  · rw [ruling_restartRefresh]
  · rw [ruling_restartRefresh]; rfl

@[simp] theorem ruling_makeForComponent (s : State) : ruling s.makeForComponent = ruling s := by
  unfold State.makeForComponent; split <;> simp

@[simp] theorem ruling_noticeComponent (s : State) : ruling s.noticeComponent = ruling s := by
  unfold State.noticeComponent; split <;> simp

@[simp] theorem ruling_setMode (s : State) (m : HoldMode) : ruling (s.setMode m) = ruling s := by cases m <;> rfl

@[simp] theorem ruling_evaluateCore (s : State) : ruling s.evaluateCore = ruling s := rfl

@[simp] theorem ruling_rework (s : State) : ruling s.rework = ruling s := rfl

@[simp] theorem ruling_channelsStandby (s : State) : ruling s.channelsStandby = ruling s := rfl

@[simp] theorem ruling_workDriveTest (s : State) (u : Option Heading) : ruling (s.workDriveTest u) = ruling s := rfl

@[simp] theorem ruling_changeReason (s : State) (r : Reason) : ruling (s.changeReason r) = ruling s := by
  unfold State.changeReason; split
  · rfl
  · rw [ruling_makeCab]; rfl

@[simp] theorem ruling_setPort (s : State) (p : Port) (c : PortCtl) : ruling (s.setPort p c) = ruling s := by
  cases p <;> rfl

/-- Outside a release handover a confirmed build moves nothing (R98). -/
theorem ruling_judge {s : State} (h : ¬(s.sup.state = .secured ∧ s.sup.handover = true)) : ruling s.judge = ruling s := by
  have hb : ∀ m, ruling (State.buildConfirmed { s with merger := m }) = ruling s := fun m => by
    rw [State.buildConfirmed_of_no_handover { s with merger := m } h]
    rfl
  unfold State.judge
  split
  · split
    · exact hb _
    · rfl
  · split
    · exact hb _
    · rfl
  · rfl

theorem ruling_noticeConfirm {s : State} (a : Bool) (h : ¬(s.sup.state = .secured ∧ s.sup.handover = true)) :
    ruling (s.noticeConfirm a) = ruling s := by
  unfold State.noticeConfirm
  split
  · rfl
  · split
    · exact ruling_judge h
    · rfl

theorem ruling_handMode {s : State} (m : HoldMode) (a : Bool) (h : ¬(s.sup.state = .secured ∧ s.sup.handover = true)) :
    ruling (s.handMode m a) = ruling s := by
  rw [State.handMode, ruling_noticeConfirm _ (by simpa using h), ruling_noticeComponent, ruling_setMode]

/-! ### The sleep delay timer, a move, a context changed -/

theorem sleepTimer_tendSleep {s : State} (h : s.tendSleep.sleepTimer.isSome) :
    s.start = none ∧ s.sup.state.mayRest = true := by
  unfold State.tendSleep at h
  split at h
  next hr =>
    cases hs : s.sup.state <;> simp_all [State.sleepReady, State.running, SupState.mayRest]
  next => cases h

theorem ruling_tendSleep (s : State) : ruling s.tendSleep = { ruling s with sleepTimer := s.tendSleep.sleepTimer } := by
  unfold State.tendSleep; split <;> rfl

theorem Ruled.tendSleep {s : State} (h : Ruled s) : Ruled s.tendSleep := by
  unfold Ruled
  rw [ruling_tendSleep]
  refine { h with sleepTimer := fun ht => (sleepTimer_tendSleep ht).2, starting := fun hs => ?_ }
  obtain ⟨hu, hl, -⟩ := h.starting hs
  refine ⟨hu, hl, ?_⟩
  by_contra ht
  have hn := (sleepTimer_tendSleep (Option.isSome_iff_ne_none.2 ht)).1
  have hs' : s.start.isSome := hs
  simp [hn] at hs'

/-- R78, R132, R171: what a move makes of the ruling. -/
theorem ruling_move (s : State) (st : SupState) (r : Reason) : ∃ t : Timer, (t.isSome → st.mayRest = true) ∧
    ruling (s.move st r) = { ruling s with state := st, holdInForce := st.isHold, sleepTimer := t } := by
  unfold State.move
  dsimp only
  rw [ruling_makeCab, ruling_tendSleep, ruling_enterRefresh]
  refine ⟨_, fun ht => ?_, rfl⟩
  have := (sleepTimer_tendSleep ht).2
  simpa using this

/-- A move to a state that the ruling is poised for. -/
theorem ruled_move {s : State} {st : SupState} (h : Poised s st) (r : Reason) : Ruled (s.move st r) := by
  obtain ⟨t, ht, he⟩ := ruling_move s st r
  unfold Ruled
  rw [he]
  exact h.law ht

/-- The hold context changed to one that fits the state too. -/
theorem Ruled.mapContext {s : State} (h : Ruled s) {f : Context → Context}
    (hf : ∀ c, s.sup.ctx = some c → c.Fits s.sup.state → (f c).Fits s.sup.state) : Ruled (s.mapContext f) where
  awake := h.awake
  prq := h.prq
  holdInForce := h.holdInForce
  conf := h.conf
  context := (Option.isSome_map ..).trans h.context
  fits c hc := by
    obtain ⟨c', hc', rfl⟩ := Option.map_eq_some_iff.1 hc
    exact hf c' hc' (h.fits c' hc')
  handover := h.handover
  marker := h.marker
  checking := h.checking
  sleepTimer := h.sleepTimer
  starting := h.starting

/-! ### Entries to the states -/

section
variable {s : State}

theorem Released.poised (h : Released s) {st : SupState} (hp : st.prq = false) (hh : st.isHold = false)
    (hc : st ≠ .checking) (hm : s.store.marker = true → st.markerFree = false) :
    Poised { s with sup := { s.sup with ctx := none, handover := false } } st where
  start := h.start
  awake := h.awake
  prq := h.prq.trans hp.symm
  conf := fits_of_idle h.conf hp
  context := hh.symm
  fits := by simp
  handover := by simp
  marker := hm
  checking := by simp [h.testing, hc]

theorem ruled_enterUnavailable (h : Released s) (r : Reason) : Ruled (s.enterUnavailable r) := by
  have hm := ruled_move (h.poised (st := .unavailable) rfl rfl (by simp) (fun _ => rfl)) r
  unfold State.enterUnavailable
  dsimp only
  split <;> exact hm.congr (by simp)

theorem ruled_enterStandbyCore (h : Released s) (hm : s.store.marker = false) (r : Reason) :
    Ruled (s.enterStandbyCore r) := by
  have hi : Ruled (inStandby s r) :=
    Ruled.congr (ruled_move (h.poised (st := .standby) rfl rfl (by simp) (by simp [hm])) r)
      (by rw [inStandby, ruling_channelsStandby, ruling_setMode])
  rcases enterStandbyCore_eq_or s r with e | e <;> rw [e]
  · exact hi.congr (by simp)
  · exact hi

/-- R91: SECURING is entered with a context, whose step alone is carried over. -/
theorem ruled_enterSecuring {c : Context} (hs : s.start = none) (ha : s.asleep = false) (ht : s.path.testing = false)
    (hc : s.sup.ctx = some c) (h3 : c.step ≤ 3) (r : Reason) : Ruled (s.enterSecuring r) := by
  unfold State.enterSecuring
  dsimp only
  refine Ruled.congr (ruled_move (st := .securing) ?_ r) (ruling_handMode _ _ (by simp))
  constructor
  case start => exact hs
  case awake => exact ha
  case prq => rfl
  case conf => rfl
  case context => simp [State.assertPark, hc, SupState.isHold]
  case fits =>
    intro d hd
    have hd' : { c with release := none, reinforced := false, holdLimit := none } = d := by
      simpa [State.assertPark, hc] using hd
    rw [← hd']
    exact ⟨h3, by simp, by simp, by simp⟩
  case handover => simp [State.assertPark]
  case marker => exact fun _ => rfl
  case checking => simp [State.assertPark, ht]

theorem Ruled.enterSecuring (h : Ruled s) (hh : s.sup.state.isHold = true) (r : Reason) : Ruled (s.enterSecuring r) := by
  obtain ⟨c, hc⟩ := Option.isSome_iff_exists.1 (h.context.trans hh)
  refine ruled_enterSecuring (h.start_of_ne ?_) h.awake (h.testing_of_ne ?_) hc (h.fits c hc).step r <;>
    · intro e; rw [e] at hh; cases hh

theorem Ruled.deassertPark_released (h : Ruled s) (hs : s.sup.state = .secured) : Released s.deassertPark :=
  ⟨h.start_of_ne (by simp [hs]), h.awake, rfl, rfl, h.testing_of_ne (by simp [hs])⟩

/-- R98, R127: the build confirmed during a handover. -/
theorem Ruled.buildConfirmed (h : Ruled s) : Ruled s.buildConfirmed := by
  unfold State.buildConfirmed
  split
  next hsh =>
    obtain ⟨hs, -⟩ := hsh
    have hr := h.deassertPark_released hs
    split
    · exact ruled_enterUnavailable hr _
    next hm =>
      refine ruled_move (st := .holding) ?_ _
      constructor
      case start => exact hr.start
      case awake => exact hr.awake
      case prq => rfl
      case conf => rfl
      case context => exact (Option.isSome_map ..).trans (h.context.trans (by simp [ruling, hs, SupState.isHold]))
      case fits =>
        intro d hd
        obtain ⟨c, hc, rfl⟩ := Option.map_eq_some_iff.1 hd
        have hf : c.Fits .secured := by rw [← hs]; exact h.fits c hc
        exact ⟨hf.step, by simpa using hf.release, by simp, by simp⟩
      case handover => simp
      case marker => exact fun hmk => absurd hmk hm
      case checking => simp [State.deassertPark, h.testing_of_ne (by simp [hs])]
  next => exact h

theorem Ruled.judge (h : Ruled s) : Ruled s.judge := by
  by_cases hh : s.sup.state = .secured ∧ s.sup.handover = true
  · unfold State.judge
    split
    · split
      · exact Ruled.buildConfirmed (h.congr rfl)
      · exact h
    · split
      · exact Ruled.buildConfirmed (h.congr rfl)
      · exact h
    · exact h
  · exact h.congr (ruling_judge hh)

theorem Ruled.noticeConfirm (h : Ruled s) (a : Bool) : Ruled (s.noticeConfirm a) := by
  unfold State.noticeConfirm
  split
  · exact h
  · split
    · exact Ruled.judge (h.congr rfl)
    · exact h.congr rfl

theorem Ruled.handMode (h : Ruled s) (m : HoldMode) (a : Bool) : Ruled (s.handMode m a) :=
  Ruled.noticeConfirm (h.congr (by simp)) a

theorem Ruled.mergerRecord (h : Ruled s) : Ruled s.mergerRecord := Ruled.noticeConfirm (h.congr (by simp)) _

theorem Ruled.mergerSet (h : Ruled s) : Ruled s.mergerSet := Ruled.noticeConfirm (h.congr (by simp)) _

/-- A handover that is no longer pending. -/
theorem Ruled.withoutHandover (h : Ruled s) : Ruled { s with sup := { s.sup with handover := false } } :=
  { h with handover := nofun }

theorem Ruled.dropHandover (h : Ruled s) : Ruled s.dropHandover := by
  unfold State.dropHandover
  split
  · exact h.withoutHandover.handMode _ _
  · exact h

theorem Ruled.securingNotice (h : Ruled s) (r : Reason) : Ruled (s.securingNotice r) := by
  unfold State.securingNotice
  split
  next hs => exact h.enterSecuring (by simp [hs, SupState.isHold]) r
  next hs => exact h.enterSecuring (by simp [hs, SupState.isHold]) r
  · exact h.dropHandover
  all_goals exact h

theorem Ruled.recordInHold (h : Ruled s) : Ruled s.recordInHold := by
  unfold State.recordInHold
  split
  · exact h.securingNotice _
  · exact h

theorem Ruled.evaluateHold (h : Ruled s) : Ruled s.evaluateHold :=
  Ruled.mergerRecord (Ruled.recordInHold (h.congr rfl))

theorem fits_newContext (s : State) (u : Option Heading) (n : Nat) {st : SupState} {t : Timer} (hr : st ≠ .releasing)
    (ht : t.isSome → st = .holding) : (s.newContext u t n).Fits st :=
  ⟨Nat.zero_le 3, by simp [State.newContext, hr], nofun, fun h => .inl (ht h)⟩

/-- R85: HOLDING is entered from STANDBY. -/
theorem Ruled.enterHolding (h : Ruled s) (hs : s.sup.state = .standby) : Ruled s.enterHolding := by
  have hr := h.released (h.start_of_ne (by simp [hs])) (by simp [hs, SupState.prq]) (by simp [hs])
  unfold State.enterHolding
  dsimp only
  refine Ruled.recordInHold (Ruled.handMode (ruled_move (st := .holding) ?_ _) _ _)
  constructor
  case start => exact hr.start
  case awake => exact hr.awake
  case prq => exact hr.prq
  case conf => exact fits_of_idle hr.conf rfl
  case context => rfl
  case fits =>
    intro c hc
    obtain rfl : _ = c := Option.some.inj hc
    exact fits_newContext _ _ _ (by simp) (fun _ => rfl)
  case handover =>
    intro hh
    have hsec : s.sup.state = .secured := h.handover hh
    simp [hs] at hsec
  case marker => simp [h.marker_free (by simp [hs, SupState.markerFree])]
  case checking => simp [hr.testing]

/-- A move between HOLDING and RELEASING, the release part of the context made or removed (R89, R90). -/
theorem Ruled.movesHold (h : Ruled s) (hs : s.sup.state = .holding ∨ s.sup.state = .releasing) {st : SupState}
    (hst : st = .holding ∨ st = .releasing) (f : Context → Context)
    (hf : ∀ c, c.Fits s.sup.state → (f c).Fits st) (r : Reason) : Ruled ((s.mapContext f).move st r) := by
  have hn : s.sup.state ≠ .unavailable ∧ s.sup.state.prq = false ∧ s.sup.state ≠ .checking ∧
      s.sup.state.markerFree = true ∧ s.sup.state ≠ .secured ∧ s.sup.state.isHold = true := by
    rcases hs with e | e <;> simp [e, SupState.prq, SupState.markerFree, SupState.isHold]
  obtain ⟨hu, hp, hc, hm, hsec, hh⟩ := hn
  have hr := h.released (h.start_of_ne hu) hp hc
  have hst' : st.prq = false ∧ st.isHold = true ∧ st ≠ .checking := by
    rcases hst with e | e <;> simp [e, SupState.prq, SupState.isHold]
  obtain ⟨hp', hh', hc'⟩ := hst'
  refine ruled_move ?_ r
  constructor
  case start => exact hr.start
  case awake => exact hr.awake
  case prq => exact hr.prq.trans hp'.symm
  case conf => exact fits_of_idle hr.conf hp'
  case context => exact (Option.isSome_map ..).trans (h.context.trans (hh.trans hh'.symm))
  case fits =>
    intro d hd
    obtain ⟨c, hc, rfl⟩ := Option.map_eq_some_iff.1 hd
    exact hf c (h.fits c hc)
  case handover => exact fun hho => absurd (h.handover hho) hsec
  case marker => simp [h.marker_free hm]
  case checking => simp [hr.testing, hc']

theorem Ruled.enterReleasing (h : Ruled s) (hs : s.sup.state = .holding ∨ s.sup.state = .releasing) (d : ReleaseDir) :
    Ruled (s.enterReleasing d) := by
  refine Ruled.handMode (h.movesHold hs (.inr rfl) _ ?_ _) _ _
  exact fun c hc => ⟨hc.step, by simp, fun hr => absurd (hc.reinforced hr) (ne_secured_of_hold hs), fun _ => .inr rfl⟩

theorem Ruled.returnToHolding (h : Ruled s) (hs : s.sup.state = .holding ∨ s.sup.state = .releasing) :
    Ruled s.returnToHolding := by
  refine Ruled.handMode (h.movesHold hs (.inl rfl) _ ?_ _) _ _
  exact fun c hc => ⟨hc.step, by simp, fun hr => absurd (hc.reinforced hr) (ne_secured_of_hold hs), fun _ => .inl rfl⟩

/-- R81: the step stays at 3 and below. -/
theorem Ruled.raiseStep (h : Ruled s) : Ruled s.raiseStep := by
  unfold State.raiseStep
  refine Ruled.congr (h.mapContext ?_) (ruling_count _ _)
  exact fun c _ hc => ⟨min_le_right (c.step + 1) 3, hc.release, hc.reinforced, hc.holdLimit⟩

theorem Ruled.driveOutcome (h : Ruled s) (o : DriveOutcome) : Ruled (s.driveOutcome o) := by
  unfold State.driveOutcome
  split
  next hs => exact h.enterReleasing (.inl hs) _
  next hs => exact h.enterReleasing (.inl hs) _
  next hs => exact h.returnToHolding (.inr hs)
  · refine h.mapContext fun c _ hc => ⟨hc.step, ?_, hc.reinforced, hc.holdLimit⟩
    simpa using hc.release
  · refine h.mapContext fun c _ hc => ⟨hc.step, ?_, hc.reinforced, hc.holdLimit⟩
    simpa using hc.release
  · exact h

theorem Ruled.creepReport (h : Ruled s) : Ruled s.creepReport := by
  have hsec : ∀ hh : s.sup.state.isHold = true, Ruled ((s.count .rollaways).enterSecuring .rollaway) :=
    fun hh => Ruled.enterSecuring (s := s.count .rollaways) (h.congr rfl) hh _
  unfold State.creepReport
  split
  next hs =>
    split
    · exact h.raiseStep.evaluateHold
    · exact hsec (by simp [hs, SupState.isHold])
  next hs =>
    split
    · split
      · exact (h.raiseStep.returnToHolding (.inr hs)).evaluateHold
      · exact hsec (by simp [hs, SupState.isHold])
    · exact h
  · split
    · exact h.raiseStep.evaluateHold
    · exact h.congr (by simp)
  next hs =>
    refine Ruled.handMode (h.withoutHandover.mapContext ?_) _ _
    exact fun c _ hc => ⟨hc.step, hc.release, fun _ => hs, hc.holdLimit⟩
  all_goals exact h

theorem Ruled.holdLimitReached (h : Ruled s) : Ruled s.holdLimitReached := by
  refine Ruled.securingNotice (h.mapContext ?_) _
  exact fun c _ hc => ⟨hc.step, hc.release, hc.reinforced, by simp⟩

theorem Ruled.testHold (h : Ruled s) : Ruled s.testHold := by
  unfold State.testHold
  dsimp only
  split
  next hs =>
    split
    · exact Ruled.enterHolding (s := s.workDriveTest (headingOf s.gf)) (h.congr rfl) hs
    · exact h.congr rfl
  · exact h

end

end Sys2Proof.Machine.HoldSupervisor

namespace Sys2Proof.Machine.HoldSupervisor

open SignalRecords AxleChannels HoldCalculator

/-! The laws through the path check, the tests of STANDBY and UNAVAILABLE and the notices of conditions, record and set. -/

/-! ### The path check -/

@[simp] theorem ruling_startLevel (s : State) (c : Chan) (l : Level) : ruling (s.startLevel c l) = ruling s := by
  rw [State.startLevel, ruling_makeForComponent]; rfl

@[simp] theorem ruling_writeResult (s : State) (c : Chan) (l : Level) (o : ResultOutcome) (p : Nat) :
    ruling (s.writeResult c l o p) = ruling s := rfl

@[simp] theorem ruling_stopLevel (s : State) : ruling s.stopLevel = ruling s := rfl

@[simp] theorem ruling_writeCheck (s : State) (c : Chan) (x : CheckState) : ruling (s.writeCheck c x) = ruling s := by
  rcases writeCheck_eq_or s c x with e | e <;> rw [e] <;> rfl

section
variable {s : State}

/-- The laws hold, and the supervisor is in CHECKING: what the path check's steps are made from (R143). -/
def Checks (s : State) : Prop := Ruled s ∧ s.sup.state = .checking

theorem Checks.congr {t : State} (h : Checks s) (he : ruling t = ruling s) : Checks t :=
  ⟨h.1.congr he, (congrArg Ruling.state he).trans h.2⟩

theorem Ruled.checks (h : Ruled s) (ht : s.path.testing = true) : Checks s := ⟨h, h.checking.1 ht⟩

/-- R100, R143: the run ends and CHECKING with it. -/
theorem Checks.endRun (h : Checks s) (r : LastRun) : Ruled (s.stopRun r).checkReport := by
  obtain ⟨h, hs⟩ := h
  have hn : s.start = none := h.start_of_ne (by simp [hs])
  have hp : s.sup.state.prq = false := by simp [hs, SupState.prq]
  have hrel : Released (s.stopRun r) := ⟨hn, h.awake, (h.prq hn).trans hp, conf_idle_of_fits h.conf hp, rfl⟩
  unfold State.checkReport
  rw [if_pos (show (s.stopRun r).sup.state = .checking from hs)]
  split
  · exact (ruled_enterStandbyCore hrel (h.marker_free (by simp [hs, SupState.markerFree])) _).testHold
  · exact ruled_enterUnavailable hrel _

theorem Checks.chooseChannel (h : Checks s) (a : Option Chan) : Ruled (s.chooseChannel a) := by
  unfold State.chooseChannel
  split
  · exact h.1.congr (by simp)
  · exact h.endRun _

theorem Checks.failLevel (h : Checks s) (c : Chan) (l : Level) : Ruled (s.failLevel c l) := by
  unfold State.failLevel State.finishFailed
  refine Checks.chooseChannel (h.congr ?_) _
  cases l <;> simp [Level.above]

theorem Checks.passLevel (h : Checks s) (c : Chan) (l : Level) : Ruled (s.passLevel c l) := by
  unfold State.passLevel State.finishPassed
  dsimp only
  split
  · exact h.1.congr (by simp)
  · refine Checks.chooseChannel (h.congr ?_) _
    simp

theorem Checks.abandon (h : Checks s) (c : Chan) : Ruled (s.abandon c) := by
  unfold State.abandon
  refine Checks.chooseChannel (h.congr ?_) _
  simp

theorem Checks.judgeLevel (h : Checks s) (c : Chan) (l : Level) : Ruled (s.judgeLevel c l) := by
  unfold State.judgeLevel
  dsimp only
  split
  · split
    · refine Checks.passLevel (h.congr ?_) c l
      rfl
    · exact h.1.congr rfl
  · exact h.1.congr rfl

theorem Ruled.pathStatus (h : Ruled s) (c : Chan) : Ruled (s.pathStatus c) := by
  unfold State.pathStatus
  split
  next ht _ _ =>
    split
    · split
      · exact (h.checks ht).judgeLevel _ _
      · exact (h.checks ht).failLevel _ _
      · exact (h.checks ht).abandon _
    · exact h
  · exact h

theorem Ruled.pathSet (h : Ruled s) : Ruled s.pathSet := by
  unfold State.pathSet
  split
  next ht _ _ =>
    split
    · exact h
    · exact (h.checks ht).failLevel _ _
    · exact (h.checks ht).abandon _
  · exact h

theorem Ruled.pathTimeout (h : Ruled s) : Ruled s.pathTimeout := by
  unfold State.pathTimeout
  split
  next ht _ _ =>
    split
    · exact (h.checks ht).failLevel _ _
    · exact (h.checks ht).failLevel _ _
    · exact (h.checks ht).abandon _
  · exact h

theorem Ruled.abortCheck (h : Ruled s) (c : AbortCause) : Ruled (s.abortCheck c) := by
  unfold State.abortCheck
  split
  next ht => exact (h.checks ht).endRun _
  next => exact h

theorem Ruled.pathDemand (h : Ruled s) : Ruled s.pathDemand := by
  unfold State.pathDemand
  split
  · exact h.abortCheck _
  · exact h

/-! ### CHECKING, and the tests of STANDBY and UNAVAILABLE -/

/-- The state in CHECKING before its first channel is chosen: the run has begun (R99, R143). -/
def begun (s : State) : State :=
  let u := (State.move { s with sup := { s.sup with autoPending := false } } .checking .none).handMode .check false
  { u with path := { u.path with testing := true, chan := none, level := none, settle := 0 } }

theorem enterChecking_eq (s : State) : s.enterChecking = (begun s).chooseChannel none := rfl

theorem state_begun (s : State) : (begun s).sup.state = .checking := by
  show (State.handMode _ .check false).sup.state = _
  rw [State.sup_handMode _ _ _ (by simp), State.sup_move]

theorem ruled_begun (h : Released s) (hc : s.sup.ctx = none) (hh : s.sup.handover = false) (hm : s.store.marker = false) :
    Ruled (begun s) := by
  obtain ⟨t, ht, he⟩ := ruling_move { s with sup := { s.sup with autoPending := false } } .checking .none
  have hu := (ruling_handMode (s := State.move { s with sup := { s.sup with autoPending := false } } .checking .none)
    .check false (by simp)).trans he
  have hp : Poised { s with path := { s.path with testing := true } } .checking := by
    constructor
    case start => exact h.start
    case awake => exact h.awake
    case prq => exact h.prq
    case conf => exact fits_of_idle h.conf rfl
    case context => simp [hc, SupState.isHold]
    case fits => simp [hc]
    case handover => simp [hh]
    case marker => simp [hm]
    case checking => simp
  have hb : ruling (begun s) = { ruling s with
      state := .checking, holdInForce := false, sleepTimer := t, testing := true } :=
    congrArg (fun r : Ruling => { r with testing := true }) hu
  unfold Ruled
  rw [hb]
  exact hp.law ht

theorem Ruled.enterChecking (h : Ruled s) (hp : s.checkPreconditions = true) : Ruled s.enterChecking := by
  have hcase : (s.sup.state = .standby ∨ s.sup.state = .unavailable) ∧ s.start = none ∧ s.store.marker = false := by
    cases hs : s.sup.state with
    | standby => exact ⟨.inl rfl, h.start_of_ne (by simp [hs]), h.marker_free (by simp [hs, SupState.markerFree])⟩
    | unavailable =>
      have hr : s.unavailableReasons = [.noChannel] := by
        simp only [State.checkPreconditions, hs, Bool.and_eq_true, decide_eq_true_eq] at hp
        tauto
      exact ⟨.inr rfl, h.start_of_reasons (by simp [hr]), marker_of_noChannel hr⟩
    | checking | holding | releasing | securing | secured => simp [State.checkPreconditions, hs] at hp
  obtain ⟨hs, hn, hm⟩ := hcase
  have hst : s.sup.state.prq = false ∧ s.sup.state ≠ .checking ∧ s.sup.state.isHold = false ∧ s.sup.state ≠ .secured := by
    rcases hs with e | e <;> simp [e, SupState.prq, SupState.isHold]
  obtain ⟨hq, hc, hh, hsec⟩ := hst
  rw [enterChecking_eq]
  refine Checks.chooseChannel ⟨ruled_begun (h.released hn hq hc) ?_ ?_ hm, state_begun s⟩ _
  · exact Option.not_isSome_iff_eq_none.1 (by rw [show s.sup.ctx.isSome = s.sup.state.isHold from h.context, hh]; simp)
  · by_contra hho
    exact hsec (h.handover (by simpa [ruling] using hho))

theorem Ruled.testCheck (h : Ruled s) : Ruled s.testCheck := by
  unfold State.testCheck
  split
  next hc =>
    simp only [Bool.and_eq_true] at hc
    exact h.enterChecking hc.2
  next => exact h

theorem Ruled.testEntry (h : Ruled s) : Ruled s.testEntry := by
  unfold State.testEntry
  split
  · exact h.testHold.testCheck
  · exact h.testCheck
  all_goals exact h

theorem ruled_enterStandby (h : Released s) (hm : s.store.marker = false) (r : Reason) : Ruled (s.enterStandby r) :=
  (ruled_enterStandbyCore h hm r).testEntry

/-! ### Notices of the conditions, of the record and of the set -/

/-- R82, R83: UNAVAILABLE is left only with no condition standing, and so never during a start. -/
theorem Ruled.noticeConditions (h : Ruled s) : Ruled s.noticeConditions := by
  unfold State.noticeConditions
  split
  next hs =>
    split
    next hr =>
      exact ruled_enterStandby (h.released (h.start_of_reasons (by simp [hr])) (by simp [hs, SupState.prq]) (by simp [hs]))
        (marker_of_no_reason hr) _
    next =>
      split
      · exact h
      · exact Ruled.testCheck (h.congr (by simp))
  next hs =>
    split
    · exact h
    · exact (ruled_enterUnavailable (h.released (h.start_of_ne (by simp [hs])) (by simp [hs, SupState.prq])
        (by simp [hs])) _).testCheck
  all_goals exact h

theorem Ruled.noticeSuspended (h : Ruled s) : Ruled s.noticeSuspended := by
  unfold State.noticeSuspended
  split
  · exact h.noticeConditions
  · exact h

theorem Ruled.noticeRecord (h : Ruled s) : Ruled s.noticeRecord := h.recordInHold.testEntry.mergerRecord

theorem Ruled.evaluate (h : Ruled s) : Ruled s.evaluate := Ruled.noticeRecord (s := s.evaluateCore) h

theorem Ruled.supSet (h : Ruled s) : Ruled s.supSet := by
  have hn : Ruled (if s.channels.derived.b = 0 then s.securingNotice .noChannel else s) := by
    split
    · exact h.securingNotice _
    · exact h
  unfold State.supSet
  split
  · exact hn
  · exact hn
  · exact hn
  all_goals exact h

theorem Ruled.tellSet (h : Ruled s) : Ruled s.tellSet :=
  (Ruled.noticeConditions (s := s.mergerSet.evaluateCore) h.mergerSet).noticeRecord.supSet.pathSet

theorem Ruled.noticeSet (h : Ruled s) (d : Derived) : Ruled (s.noticeSet d) := by
  unfold State.noticeSet
  split
  · exact h
  · exact h.tellSet

theorem Ruled.reworkNotice (h : Ruled s) : Ruled s.reworkNotice := Ruled.noticeSet (s := s.rework) h _

end

end Sys2Proof.Machine.HoldSupervisor

namespace Sys2Proof.Machine.HoldSupervisor

open SignalRecords AxleChannels HoldCalculator

/-! The laws through the blocks whose notices reach the supervisor: channels, creep monitor, park control, signals. -/

section
variable {s : State}

/-! ### The channel block -/

@[simp] theorem ruling_offerControl (s : State) (f : Frame) : ruling (s.offerControl f) = ruling s := by
  unfold State.offerControl; split <;> rfl

@[simp] theorem ruling_setChannel (s : State) (c : Chan) (r : ChannelRecord) : ruling (s.setChannel c r) = ruling s := rfl

@[simp] theorem ruling_restartChannel (s : State) (c : Chan) : ruling (s.restartChannel c) = ruling s := rfl

@[simp] theorem ruling_restartChannels (s : State) : ruling s.restartChannels = ruling s := rfl

@[simp] theorem ruling_checkChannels (s : State) : ruling s.checkChannels = ruling s := by
  unfold State.checkChannels; dsimp only; (repeat' split) <;> rfl

theorem Ruled.advertTaken (h : Ruled s) (c : Chan) (a : Advert) : Ruled (s.advertTaken c a) := by
  unfold State.advertTaken
  refine Ruled.reworkNotice (h.congr ?_)
  rw [ruling_setChannel]
  split <;> simp

theorem Ruled.statusTaken (h : Ruled s) (c : Chan) (f : Frame) : Ruled (s.statusTaken c f) := by
  have hm : ∀ t : State, Ruled t → Ruled (t.mergerStatus c) := by
    intro t ht
    unfold State.mergerStatus
    split
    · exact ht.judge
    · exact ht
  unfold State.statusTaken
  dsimp only
  have hp := (hm _ (h.congr (by simp) : Ruled (State.rework (s.setChannel c ((s.channels.records.get c).takeStatus
    (4 * (byteAt f.data 1).toNat) ((byteAt f.data 2).getLsbD 0) (s.timer s.work.settings.statusStale)
    (s.timer s.work.settings.statusLoss)))))).pathStatus c
  split
  · exact hp
  · exact hp.tellSet

theorem Ruled.channelFrame (h : Ruled s) (f : Frame) : Ruled (s.channelFrame f) := by
  have ha : Ruled (s.sortAdvert f) := by
    unfold State.sortAdvert
    dsimp only
    split
    · exact h
    · split
      · exact h.advertTaken _ _
      · exact h
  have hs : Ruled (s.sortStatus f) := by
    unfold State.sortStatus
    split
    · exact h
    · split
      · exact h.statusTaken _ _
      · exact h
  unfold State.channelFrame
  split
  · exact h
  · split
    · split
      · exact h
      · exact ha
    · split
      · split
        · exact h
        · exact hs
      · exact h

/-! ### The creep monitor -/

/-- A context whose wheel entries alone change fits as before. -/
theorem Ruled.mapWheels (h : Ruled s) {f : Context → Context} (hf : ∀ c, ∃ w, f c = { c with wheels := w }) :
    Ruled (s.mapContext f) := by
  refine h.mapContext fun c _ hc => ?_
  obtain ⟨w, hw⟩ := hf c
  rw [hw]
  exact ⟨hc.step, hc.release, hc.reinforced, hc.holdLimit⟩

@[simp] theorem ruling_setTrack (s : State) (w : Wheel) (t : Track) : ruling (s.setTrack w t) = ruling s := rfl

theorem Ruled.recheckRest (h : Ruled s) : Ruled s.recheckRest := by
  unfold State.recheckRest
  dsimp only
  split
  · exact Ruled.testEntry (h.congr rfl)
  · exact h

theorem Ruled.trackWheels (h : Ruled s) : Ruled s.trackWheels := by
  unfold State.trackWheels
  refine Ruled.mapWheels (h.congr ?_) fun c => ⟨_, rfl⟩
  rfl

theorem Ruled.tellWheels (h : Ruled s) (b : Creep) : Ruled (s.tellWheels b) := by
  have hn : Ruled (if s.creep.watchedCount ≠ b.watchedCount ∧ s.creep.watchedCount < 2 then s.securingNotice .wheelLost
      else s) := by
    split
    · exact h.securingNotice _
    · exact h
  unfold State.tellWheels
  dsimp only
  split
  · exact hn.testEntry
  · exact hn

theorem Ruled.watchWheels (h : Ruled s) : Ruled s.watchWheels := h.trackWheels.tellWheels _

theorem Ruled.accumulate (h : Ruled s) (w : Wheel) (inc : Nat) (code : DirCode) : Ruled (s.accumulate w inc code) := by
  unfold State.accumulate
  split
  · exact h
  · split
    · exact h.mapWheels fun c => ⟨_, rfl⟩
    · dsimp only
      split
      · exact (h.mapWheels fun c => ⟨_, rfl⟩).creepReport
      · exact h.mapWheels fun c => ⟨_, rfl⟩
    · exact h

theorem Ruled.movement (h : Ruled s) (w : Wheel) (count inc : Nat) (code : DirCode) :
    Ruled (s.movement w count inc code) :=
  ((Ruled.recheckRest (s := s.setTrack w _) h).testEntry.abortCheck _).accumulate _ _ _

theorem Ruled.wheelSample (h : Ruled s) (w : Wheel) (count : Nat) (code : DirCode) : Ruled (s.wheelSample w count code) := by
  unfold State.wheelSample
  split
  · unfold State.firstSample
    refine Ruled.recheckRest (Ruled.mapWheels (h.congr ?_) fun c => ⟨_, rfl⟩)
    rfl
  · dsimp only
    split
    · exact h
    · split
      · exact h.movement _ _ _ _
      · unfold State.glitch
        refine Ruled.mapWheels (h.congr ?_) fun c => ⟨_, rfl⟩
        rfl

/-! ### Park control and the safe-start marker -/

theorem securing_of_fits {conf : ParkConf} {st : SupState} (h : conf.fits st = true) (hc : conf = .waiting ∨ conf = .overdue) :
    st = .securing := by
  rcases hc with e | e <;> subst e <;> cases st <;> first | rfl | cases h

/-- R134, R92: the spring brake confirmed, which a waiting part takes in SECURING alone. -/
theorem Ruled.springApplied (h : Ruled s) : Ruled s.springApplied := by
  have hw : ∀ hc : s.park.conf = .waiting ∨ s.park.conf = .overdue,
      Ruled (State.springConfirmed { s with park := { s.park with conf := .confirmed, timer := none } }) := by
    intro hc
    have hs : s.sup.state = .securing := securing_of_fits h.conf hc
    have hn := h.start_of_ne (by simp [hs])
    unfold State.springConfirmed
    rw [if_pos hs]
    refine Ruled.handMode (ruled_move (st := .secured) ?_ _) _ _
    constructor
    case start => exact hn
    case awake => exact h.awake
    case prq => exact (h.prq hn).trans (by simp [ruling, hs, SupState.prq])
    case conf => rfl
    case context => exact h.context.trans (by simp [ruling, hs, SupState.isHold])
    case fits =>
      intro c hc
      have hf : c.Fits .securing := by rw [← hs]; exact h.fits c hc
      exact ⟨hf.step, by simpa using hf.release, fun _ => rfl, by simpa using hf.holdLimit⟩
    case handover => exact fun _ => rfl
    case marker => exact fun _ => rfl
    case checking => simp [h.testing_of_ne (by simp [hs])]
  unfold State.springApplied
  split
  next hc => exact hw (.inl hc)
  next hc => exact hw (.inr hc)
  all_goals exact h

/-- R169, R83: the marker cleared, or set where the supervisor's state allows it. -/
theorem Ruled.requestMarker (h : Ruled s) (op : CellOp) (hm : op = .write → s.sup.state.markerFree = false) :
    Ruled (s.requestMarker op) := by
  have hop : (s.store.request op).op = s.store.op ∧ ((s.store.request op).marker = true → s.sup.state.markerFree = false) := by
    unfold Store.request
    dsimp only
    constructor
    · split <;> rename_i e <;> simp [e]
    · split <;> cases op <;> first | exact h.marker | exact fun _ => hm rfl | exact nofun
  have hs : Ruled { s with store := s.store.request op } :=
    { h with
      marker := hop.2
      starting := fun hst => by
        obtain ⟨hu, hl, ht⟩ := h.starting hst
        exact ⟨hu, hop.1.trans hl, ht⟩ }
  unfold State.requestMarker
  dsimp only
  split
  · exact hs
  · exact hs.noticeConditions

theorem Ruled.parkOverdue (h : Ruled s) : Ruled s.parkOverdue := by
  unfold State.parkOverdue
  split
  next hc =>
    have hs : s.sup.state = .securing := securing_of_fits h.conf (.inl hc)
    have ho : Ruled { s with park := { s.park with conf := .overdue } } :=
      { h with conf := by simp [ruling, hs, ParkConf.fits] }
    refine Ruled.requestMarker (ho.congr (ruling_count _ _)) _ fun _ => ?_
    simp [hs, SupState.markerFree]
  all_goals exact h

theorem Ruled.beginHandover (h : Ruled s) (hs : s.sup.state = .secured) : Ruled s.beginHandover := by
  have hb : Ruled { s with sup := { s.sup with
      ctx := some (s.newContext (headingOf s.gf) none s.calculator.record.pHold), handover := true } } := by
    refine { h with context := ?_, fits := ?_, handover := fun _ => hs }
    · simp [ruling, hs, SupState.isHold]
    · intro c hc
      obtain rfl : _ = c := Option.some.inj hc
      exact fits_newContext _ _ _ (by simp [ruling, hs]) (by simp)
  unfold State.beginHandover
  refine Ruled.recordInHold (Ruled.handMode (hb.congr ?_) _ _)
  rfl

theorem Ruled.releaseRequest (h : Ruled s) : Ruled s.releaseRequest := by
  unfold State.releaseRequest
  split
  next ht =>
    have hs : s.sup.state = .secured := by
      simp only [State.releaseTaken, Bool.and_eq_true, decide_eq_true_eq] at ht
      tauto
    have hr := h.deassertPark_released hs
    split
    · exact ruled_enterUnavailable hr _
    next hm =>
      split
      · unfold State.releaseShallow
        split
        · exact ruled_enterStandby hr (Bool.not_eq_true _ ▸ hm) _
        · exact ruled_enterUnavailable hr _
      · split
        · exact h.beginHandover hs
        · exact h
  next => exact h

/-! ### The signal block -/

@[simp] theorem ruling_setRecord (s : State) (k : Fin 20) (r : SampleRecord) : ruling (s.setRecord k r) = ruling s := rfl

@[simp] theorem ruling_setPayload (s : State) (p : Nat) : ruling (s.setPayload p) = ruling s := rfl

theorem Ruled.gradeSample (h : Ruled s) (x : Int) : Ruled (s.gradeSample x) := by
  unfold State.gradeSample State.windowNotice State.setUphill
  refine Ruled.testEntry (Ruled.evaluate (Ruled.mapContext (h.congr ?_) ?_))
  · rfl
  · exact fun c _ hc => ⟨hc.step, hc.release, hc.reinforced, hc.holdLimit⟩

theorem Ruled.drumSample (h : Ruled s) (x : Int) : Ruled (s.drumSample x) := by
  have hr : ∀ t : State, Ruled t → Ruled t.reversal := by
    intro t ht
    unfold State.reversal
    dsimp only
    split
    · exact ht
    · split
      · exact ht.congr rfl
      · exact Ruled.evaluate (ht.congr rfl)
  unfold State.drumSample
  split
  · exact h
  · exact h.congr rfl
  · split
    · exact h
    · exact hr _ (h.congr rfl)

theorem Ruled.driveNotice (h : Ruled s) : Ruled s.driveNotice := by
  have hd : ∀ u o, Ruled ((s.workDriveTest u).driveOutcome o) := fun u o => Ruled.driveOutcome (s := s.workDriveTest u) h o
  unfold State.driveNotice
  split
  · exact hd _ _
  · exact hd _ _
  all_goals exact h

theorem Ruled.parkRenewal (h : Ruled s) (x : Int) : Ruled (s.parkRenewal x) := by
  have hh : Ruled (s.parkRenewalHold x) := by
    have hst : ∀ hs : s.sup.state = .holding ∨ s.sup.state = .releasing, Ruled (s.enterStandby .parkedByDriver) := by
      intro hs
      have hn : s.sup.state ≠ .unavailable ∧ s.sup.state.prq = false ∧ s.sup.state ≠ .checking ∧
          s.sup.state.markerFree = true := by
        rcases hs with e | e <;> simp [e, SupState.prq, SupState.markerFree]
      obtain ⟨hu, hp, hc, hm⟩ := hn
      exact ruled_enterStandby (h.released (h.start_of_ne hu) hp hc) (h.marker_free hm) _
    unfold State.parkRenewalHold
    split
    next hs =>
      split
      · exact hst (.inl hs)
      · exact h
    next hs =>
      split
      · exact hst (.inr hs)
      · exact h
    next hs =>
      split
      · exact h.enterSecuring (by simp [hs, SupState.isHold]) _
      · exact h
    all_goals exact h
  unfold State.parkRenewal
  dsimp only
  split
  · exact hh.testEntry.springApplied
  · exact hh.testEntry.abortCheck _

theorem Ruled.parkAgeing (h : Ruled s) (a : Age) : Ruled (s.parkAgeing a) := by
  unfold State.parkAgeing
  split
  · exact h.testEntry.abortCheck _
  all_goals exact h.testEntry

theorem Ruled.notify (h : Ruled s) (role : Role) (kind : NoticeKind) (before after : SampleRecord) :
    Ruled (s.notify role kind before after) := by
  have hpay : ∀ p, Ruled (s.setPayload p).evaluate := fun p => Ruled.evaluate (s := s.setPayload p) h
  have hsec : ∀ (p : Prop) [Decidable p] (t : State) (r : Reason), Ruled t → Ruled (if p then t.securingNotice r else t) := by
    intro p _ t r ht
    split
    · exact ht.securingNotice r
    · exact ht
  unfold State.notify
  dsimp only
  cases role with
  | none => exact h
  | grade =>
    cases kind with
    | renewal => exact (h.gradeSample _).evaluate.testEntry
    | ageing => exact h.evaluate.testEntry
  | payload =>
    cases kind with
    | renewal => exact hpay _
    | ageing =>
      dsimp only
      split
      · exact hpay _
      · exact h.evaluate
  | drumSpeed =>
    cases kind with
    | renewal => exact (h.drumSample _).evaluate
    | ageing => exact h.evaluate
  | engineTorque | gearRatio => exact h.driveNotice
  | reservoir => exact hsec _ _ _ h.evaluate.testEntry
  | parkStatus =>
    cases kind with
    | renewal => exact h.parkRenewal _
    | ageing => exact h.parkAgeing _
  | parkReleaseReq =>
    dsimp only
    split
    · exact h.releaseRequest
    · exact h
  | driverPresent | pendantActive => exact hsec _ _ _ h.testEntry
  | holdInhibit => exact h.testEntry
  | liftAxle => exact h.reworkNotice
  | wheel w =>
    cases kind with
    | renewal => exact h.watchWheels.wheelSample _ _ _
    | ageing => exact h.watchWheels

theorem Ruled.extract (h : Ruled s) (f : Frame) (k : Fin 20) : Ruled (s.extract f k) := by
  unfold State.extract
  dsimp only
  split
  · exact h
  · split
    · exact h
    · split
      · exact h
      · refine Ruled.congr (Ruled.notify (h.congr ?_) _ _ _ _) (ruling_setRecord _ _ _)
        rfl

theorem Ruled.extractAll (h : Ruled s) (f : Frame) (l : List (Fin 20)) : Ruled (s.extractAll f l) := by
  have hl : ∀ (ks : List (Fin 20)) (t : State), Ruled t → Ruled (ks.foldl (fun t k => t.extract f k) t) := by
    intro ks
    induction ks with
    | nil => exact fun _ ht => ht
    | cons k ks ih => exact fun t ht => ih _ (ht.extract f k)
  unfold State.extractAll
  split
  · exact h
  · exact hl _ _ h

@[simp] theorem ruling_checkSignals (s : State) : ruling s.checkSignals = ruling s := by
  unfold State.checkSignals; dsimp only; split <;> rfl

end

end Sys2Proof.Machine.HoldSupervisor

namespace Sys2Proof.Machine.HoldSupervisor

open SignalRecords AxleChannels HoldCalculator

/-! The laws through the store and the starts, the demand merger, the management responder and the frame path. -/

/-! ### Starts and loads -/

@[simp] theorem ruling_checkRoutes (s : State) : ruling s.checkRoutes = ruling s := by
  unfold State.checkRoutes; split <;> rfl

@[simp] theorem ruling_checkCurves (s : State) : ruling s.checkCurves = ruling s := by
  simp only [ruling, State.checkCurves]

@[simp] theorem ruling_startSignals (s : State) : ruling s.startSignals = ruling s := by
  simp only [ruling, State.startSignals]

@[simp] theorem ruling_startChannels (s : State) : ruling s.startChannels = ruling s := by
  rw [State.startChannels, ruling_rework, ruling_restartChannels]

@[simp] theorem ruling_startCalculator (s : State) : ruling s.startCalculator = ruling s := by
  simp only [ruling, State.startCalculator]

@[simp] theorem ruling_startMeasures (s : State) : ruling s.startMeasures = ruling s := by
  rw [State.startMeasures, ruling_startCalculator, ruling_startChannels, ruling_startSignals]

theorem law_start (k : StartKind) (prq hold marker : Bool) :
    Law ⟨.unavailable, none, false, prq, hold, .idle, false, marker, .loading, some k, false, none⟩ where
  awake := rfl
  prq := by simp
  holdInForce := by simp
  conf := rfl
  context := rfl
  fits := by simp
  handover := by simp
  marker _ := rfl
  checking := by simp
  sleepTimer := by simp
  starting _ := ⟨rfl, rfl, rfl⟩

/-- A warm reset begins a start whatever it interrupts (R131, R170). -/
theorem ruled_warmReset (s : State) : Ruled s.warmReset := by
  unfold Ruled State.warmReset
  rw [ruling_startMeasures]
  exact law_start .warm _ _ _

theorem ruled_powerOn (s : State) : Ruled s.powerOn := law_start .powerOn false false s.store.cell

/-- R101: the starting state, whatever the latch shows. -/
theorem ruled_takeStart {s : State} (hs : s.start = none) (ha : s.asleep = false) (hc : s.park.conf = .idle)
    (ht : s.path.testing = false) (r : Reason) : Ruled (s.takeStart r) := by
  unfold State.takeStart
  dsimp only
  split
  · refine ruled_enterSecuring ?_ ?_ ?_ (by rw [State.sup_evaluateCore]) ?_ _
    · rw [State.start_evaluateCore]; exact hs
    · rw [State.asleep_evaluateCore]; exact ha
    · rw [State.path_evaluateCore]; exact ht
    · simp [State.newContext]
  next hq =>
    have hr : Released { s with sup := { s.sup with handover := false, autoPending := true } } :=
      ⟨hs, ha, Bool.not_eq_true _ ▸ hq, hc, ht⟩
    split
    · exact ruled_enterUnavailable hr _
    next hn => exact ruled_enterStandby hr (marker_of_no_reason hn) _

section
variable {s : State}

/-- Where every record is LOST no wheel is watched (R104). -/
theorem watched_of_lost (h : ∀ k, (s.signals.records.get k).age = .lost) (w : Wheel) : s.wheelWatched w = false := by
  rw [Bool.eq_false_iff]
  intro hw
  obtain ⟨k, -, hk⟩ := (wheelWatched_iff s w).1 hw
  exact hk (h k)

/-- R104: every record LOST, the watching of wheels tells UNAVAILABLE nothing that it heeds. -/
theorem watchWheels_of_lost (h : ∀ k, (s.signals.records.get k).age = .lost) (hs : s.sup.state = .unavailable) :
    s.watchWheels = s.trackWheels := by
  have hcount : s.trackWheels.creep.restHolds = false := by
    show restCondition _ = false
    simp [restCondition, countWatched, Wheel.all, watched_of_lost h, Track.watch, Track.cleared]
  unfold State.watchWheels State.tellWheels
  dsimp only
  rw [show s.trackWheels.securingNotice .wheelLost = s.trackWheels by
    unfold State.securingNotice; rw [State.trackWheels, State.sup_mapContext]; simp only [hs], ite_self, hcount]
  rfl

@[simp] theorem records_checkSignals (s : State) : s.checkSignals.signals.records = s.signals.records := by
  unfold State.checkSignals; dsimp only; split <;> rfl

@[simp] theorem signals_checkChannels (s : State) : s.checkChannels.signals = s.signals := by
  unfold State.checkChannels; dsimp only; (repeat' split) <;> rfl

@[simp] theorem signals_checkCurves (s : State) : s.checkCurves.signals = s.signals := rfl

@[simp] theorem signals_checkRoutes (s : State) : s.checkRoutes.signals = s.signals := by
  unfold State.checkRoutes; split <;> rfl

/-- R38: at a start every record is LOST with value 0. -/
theorem record_startMeasures (s : State) (k : Fin 20) :
    (s.startMeasures.signals.records.get k).age = .lost ∧ (s.startMeasures.signals.records.get k).value = 0 := by
  have hs : s.startMeasures.signals = s.startSignals.signals := rfl
  rw [hs]
  simp [State.startSignals, SampleRecord.start, Vector.get]

/-- The tables checked, but for the watching of wheels (R166). -/
def tablesChecked (s : State) : State := s.checkRoutes.checkSignals.checkChannels.checkCurves

theorem checkTables_eq (s : State) : s.checkTables = (tablesChecked s).watchWheels := rfl

@[simp] theorem ruling_tablesChecked (s : State) : ruling (tablesChecked s) = ruling s := by
  rw [tablesChecked, ruling_checkCurves, ruling_checkChannels, ruling_checkSignals, ruling_checkRoutes]

theorem record_tablesChecked (s : State) : (tablesChecked s).signals.records = s.signals.records := by
  simp [tablesChecked]

theorem Ruled.endStart (h : Ruled s) (hs : s.start.isSome) : Ruled s.endStart := by
  have hst : s.sup.state = .unavailable := (h.starting hs).1
  generalize hu : ({ s.endOperation with start := none } : State).startMeasures = u
  have he : ruling u = { ruling s with op := .idle, start := none } := by
    rw [← hu, ruling_startMeasures]; rfl
  have hv := (ruling_tablesChecked u).trans he
  have hlost : ∀ k, ((tablesChecked u).signals.records.get k).age = .lost := by
    intro k
    rw [record_tablesChecked, ← hu]
    exact (record_startMeasures _ k).1
  unfold State.endStart
  rw [hu, checkTables_eq, watchWheels_of_lost hlost ((congrArg Ruling.state hv).trans hst)]
  have hw : ∃ c, ruling (tablesChecked u).trackWheels.startChannels =
      { ruling s with op := .idle, start := none, ctx := c } := by
    rw [ruling_startChannels]
    exact ⟨(tablesChecked u).trackWheels.sup.ctx,
      congrArg (fun r : Ruling => { r with ctx := (tablesChecked u).trackWheels.sup.ctx }) hv⟩
  obtain ⟨c, hw⟩ := hw
  generalize (tablesChecked u).trackWheels.startChannels = w at hw
  refine ruled_takeStart (congrArg Ruling.start hw) ((congrArg Ruling.asleep hw).trans h.awake)
    ((congrArg Ruling.conf hw).trans (conf_idle_of_fits h.conf ?_))
    ((congrArg Ruling.testing hw).trans (h.testing_of_ne ?_)) _
  · simp [ruling, hst, SupState.prq]
  · simp [hst]

/-- The store changed, its marker as it was, outside a start or with the store loading. -/
theorem Ruled.withStore (h : Ruled s) {st : Store} (hm : st.marker = s.store.marker)
    (ho : s.start = none ∨ st.op = .loading) : Ruled { s with store := st } :=
  { h with
    marker := fun hmk => h.marker (hm.symm.trans hmk)
    starting := fun hs => by
      obtain ⟨hu, -, ht⟩ := h.starting hs
      refine ⟨hu, ho.resolve_left fun hn => ?_, ht⟩
      have hs' : s.start.isSome := hs
      simp [hn] at hs' }

theorem Ruled.checkTables (h : Ruled s) : Ruled s.checkTables :=
  Ruled.watchWheels (h.congr (ruling_tablesChecked s))

/-- R166, R167: the load of a RELOAD has ended. -/
theorem Ruled.endReload (h : Ruled s) (hs : s.start = none) : Ruled s.endReload := by
  have ho : Ruled s.endOperation := (h.withStore (st := { s.store with imageGood := s.store.image.good, op := .idle }) rfl
    (.inl hs)).congr rfl
  have hc : Ruled (s.endOperation.checkTables.startChannels.payloadMax) := ho.checkTables.congr (by
    rw [State.payloadMax, ruling_setPayload, ruling_startChannels])
  exact (hc.evaluate.noticeSet _).noticeConditions.tendSleep

theorem Ruled.beginReload (h : Ruled s) : Ruled s.beginReload := by
  have ho := h.withStore (st := { s.store with op := .loading }) rfl (.inr rfl)
  unfold State.beginReload
  dsimp only
  refine Ruled.tendSleep (Ruled.noticeConditions (ho.congr ?_))
  rw [ruling_startCalculator, ruling_startSignals]
  rfl

theorem Ruled.beginSave (h : Ruled s) (ho : s.store.op = .idle) : Ruled s.beginSave := by
  refine Ruled.tendSleep (Ruled.congr (h.withStore (st := { s.store with op := .saving, copy := some s.work }) rfl
    (.inl ?_)) rfl)
  by_contra hn
  obtain ⟨-, hl, -⟩ := h.starting (Option.isSome_iff_ne_none.2 hn)
  have hl' : s.store.op = .loading := hl
  simp [ho] at hl'

theorem Ruled.endSave (h : Ruled s) (ho : s.store.op = .saving) : Ruled ({ s with store := s.store.complete } : State).tendSleep := by
  refine Ruled.tendSleep (h.withStore rfl (.inl ?_))
  by_contra hn
  obtain ⟨-, hl, -⟩ := h.starting (Option.isSome_iff_ne_none.2 hn)
  have hl' : s.store.op = .loading := hl
  simp [ho] at hl'

/-! ### The demand merger -/

@[simp] theorem ruling_setDriver (s : State) (d : DriverDemand) : ruling (s.setDriver d) = ruling s := rfl

theorem Ruled.noticeDemand (h : Ruled s) : Ruled s.noticeDemand := h.testEntry.pathDemand

theorem Ruled.demandTaken (h : Ruled s) (f : Frame) : Ruled (s.demandTaken f) := by
  unfold State.demandTaken
  split
  · exact Ruled.noticeDemand (h.congr (by simp))
  · exact h

theorem ruling_makeShort (l : List Chan) (s : State) : ruling (s.makeShort l) = ruling s := by
  unfold State.makeShort
  induction l generalizing s with
  | nil => rfl
  | cons c l ih =>
    rw [List.foldl_cons, ih]
    dsimp only
    split <;> rfl

theorem Ruled.leaveLagging (h : Ruled s) (l : List Chan) : Ruled (s.leaveLagging l) := by
  have hm : Ruled (s.makeShort l).rework := h.congr (by rw [ruling_rework, ruling_makeShort])
  have hc : ∀ n, Ruled { (s.makeShort l).rework with choices := n } := fun n => hm.congr rfl
  unfold State.leaveLagging State.noChannelReport
  dsimp only
  split
  · split
    · exact ((hc _).securingNotice _).noticeSet _
    · exact ((hc _).noticeSet _).securingNotice _
  · exact hm.noticeSet _

theorem Ruled.endStage2 (h : Ruled s) : Ruled s.endStage2 := by
  have he : Ruled { s with merger := { s.merger with conf := .idle, stage := none } } := h.congr rfl
  unfold State.endStage2 State.noChannelReport
  dsimp only
  split
  · exact he.securingNotice _
  · split
    · exact he
    · exact he.leaveLagging _

end

end Sys2Proof.Machine.HoldSupervisor

namespace Sys2Proof.Machine.HoldSupervisor

open SignalRecords AxleChannels HoldCalculator

/-! The laws through the management responder, the frame path and every command. -/

section
variable {s : State}

/-! ### The management responder -/

@[simp] theorem ruling_setWork (s : State) (w : Working) : ruling (s.setWork w) = ruling s := rfl

theorem Ruled.wroteRoute (h : Ruled s) : Ruled s.wroteRoute := Ruled.noticeConditions (h.congr (by simp))

theorem Ruled.wroteSignal (h : Ruled s) (k : Fin 20) (old new : Role) : Ruled (s.wroteSignal k old new) := by
  have hif : ∀ (p : Prop) [Decidable p] (t u : State), Ruled t → Ruled u → Ruled (if p then t else u) := by
    intro p _ t u ht hu
    split
    · exact ht
    · exact hu
  have h0 : Ruled (s.resetEntry k (decide (old = .grade ∨ new = .grade)) (decide (old = .drumSpeed ∨ new = .drumSpeed))
      ).checkSignals.rework := h.congr (by rw [ruling_rework, ruling_checkSignals]; rfl)
  have h1 := h0.trackWheels.noticeSuspended.noticeSet s.channels.derived
  have h2 := hif ((s.signals.records.get k).age = .lost) _ _ h1 (h1.notify (s.signals.bindings.get k) .ageing
    (s.signals.records.get k) SampleRecord.reset)
  have h3 := hif (decide (old = .grade ∨ new = .grade) = true) _ _ h2.evaluate.testEntry h2
  have h4 := hif ((decide (old = .drumSpeed ∨ new = .drumSpeed) && s.signals.reversal.isSome) = true) _ _ h3.evaluate h3
  exact (h4.tellWheels s.creep).noticeConditions

theorem Ruled.wroteChannel (h : Ruled s) (c : Chan) (field : Nat) : Ruled (s.wroteChannel c field) := by
  have h1 : Ruled (if field ≤ 2 then s.restartChannel c else s) := by
    split
    · exact h
    · exact h
  have h2 : Ruled (State.rework (State.checkChannels (if field ≤ 2 then s.restartChannel c else s))) :=
    h1.congr (by rw [ruling_rework, ruling_checkChannels])
  exact (h2.noticeSuspended.noticeSet _).noticeConditions

theorem Ruled.wroteCurve (h : Ruled s) : Ruled s.wroteCurve := by
  have hc : Ruled s.checkCurves := h.congr (by simp)
  exact hc.noticeSuspended.evaluate.noticeConditions

theorem Ruled.wroteSetting (h : Ruled s) (field : Nat) : Ruled (s.wroteSetting field) := by
  unfold State.wroteSetting
  split <;> first | exact h | exact h.evaluate | exact h.testHold | exact h.reworkNotice
                  | exact Ruled.evaluate (s := s.payloadMax) h

theorem Ruled.writeField (h : Ruled s) {g : Group} {index field : Nat} {v : Word32} {t : State}
    (ht : s.writeField g index field v = some t) : Ruled t := by
  have hw : ∀ w, Ruled (s.setWork w) := fun w => h
  cases g with
  | settings =>
    obtain ⟨x, -, rfl⟩ := Option.map_eq_some_iff.1 ht
    exact (hw _).wroteSetting _
  | route =>
    obtain ⟨k, -, hk⟩ := Option.bind_eq_some_iff.1 ht
    obtain ⟨x, -, rfl⟩ := Option.map_eq_some_iff.1 hk
    exact (hw _).wroteRoute
  | signal =>
    obtain ⟨k, -, hk⟩ := Option.bind_eq_some_iff.1 ht
    obtain ⟨x, -, rfl⟩ := Option.map_eq_some_iff.1 hk
    exact (hw _).wroteSignal _ _ _
  | gradeCurve | drumCurve =>
    obtain ⟨k, -, hk⟩ := Option.bind_eq_some_iff.1 ht
    obtain ⟨x, -, rfl⟩ := Option.map_eq_some_iff.1 hk
    exact (hw _).wroteCurve
  | channel =>
    obtain ⟨c, -, hk⟩ := Option.bind_eq_some_iff.1 ht
    obtain ⟨x, -, rfl⟩ := Option.map_eq_some_iff.1 hk
    exact (hw _).wroteChannel _ _
  | status | counters | checkResults => cases ht

theorem ruling_afterRead (s : State) (g : Group) (index field : Nat) : ruling (s.afterRead g index field) = ruling s := by
  unfold State.afterRead
  (repeat' split) <;> rfl

theorem ruling_clearField {g : Group} {index field : Nat} {t : State} (ht : s.clearField g index field = some t) :
    ruling t = ruling s := by
  unfold State.clearField at ht
  split at ht
  · obtain ⟨n, -, rfl⟩ := Option.map_eq_some_iff.1 ht
    rfl
  · obtain ⟨c, -, hc⟩ := Option.bind_eq_some_iff.1 ht
    obtain ⟨l, -, rfl⟩ := Option.map_eq_some_iff.1 hc
    rfl
  · split at ht
    · obtain ⟨c, -, rfl⟩ := Option.map_eq_some_iff.1 ht
      rfl
    · cases ht
  all_goals cases ht

theorem Ruled.judgeCommand (h : Ruled s) (c : Command) (v : Word32) : Ruled (s.judgeCommand c v).state := by
  cases c with
  | startCheck =>
    show Ruled (s.judgeStartCheck v).state
    unfold State.judgeStartCheck
    have hc : Ruled (if s.checkPreconditions then s.enterChecking.answer v else s.refuse .denied).state := by
      split
      next hp => exact h.enterChecking hp
      next => exact h
    cases s.sup.state with
    | unavailable | standby => exact hc
    | checking | holding | releasing | securing | secured => exact h
  | abortCheck =>
    show Ruled (s.judgeAbortCheck v).state
    unfold State.judgeAbortCheck
    split
    · exact h.abortCheck _
    · exact h
  | clearSafeStart => exact h.requestMarker .erase nofun
  | save =>
    show Ruled (s.judgeSave v).state
    unfold State.judgeSave
    split
    next ho => exact h.beginSave ho
    next => exact h
  | reload =>
    show Ruled (s.judgeReload v).state
    unfold State.judgeReload
    split
    · exact h
    · split
      · exact h.beginReload
      · exact h
  | restart =>
    show Ruled (s.judgeRestart v).state
    unfold State.judgeRestart
    split
    · exact h
    · exact h.congr rfl

theorem Ruled.judgeRequest (h : Ruled s) (r : Request) : Ruled (s.judgeRequest r).state := by
  have hread : ∀ g i f, Ruled (s.judgeRead g i f).state := by
    intro g i f
    unfold State.judgeRead
    split
    · exact h
    · exact h.congr (ruling_afterRead ..)
  have hwrite : ∀ g i f v, Ruled (s.judgeWrite g i f v).state := by
    intro g i f v
    unfold State.judgeWrite
    split
    · exact h
    · split
      · exact h
      · split
        · exact h
        · split
          · exact h
          next ht => exact h.writeField ht
  have hclear : ∀ g i f, Ruled (s.judgeReadClear g i f).state := by
    intro g i f
    unfold State.judgeReadClear
    split
    · exact h
    · split
      · exact h
      next ht => exact h.congr (ruling_clearField ht)
  unfold State.judgeRequest
  dsimp only
  split
  · exact h
  · split
    · exact hread _ _ _
    · exact hwrite _ _ _ _
    · exact hclear _ _ _
    · exact h.judgeCommand _ _
    · exact h

theorem Ruled.serveUpTo (h : Ruled s) (n : Nat) : Ruled (State.serveUpTo n s) := by
  have hhead : ∀ t : State, Ruled t → Ruled t.serveHead := by
    intro t ht
    unfold State.serveHead
    split
    · exact ht
    · exact (ht.judgeRequest _).congr rfl
  induction n generalizing s with
  | zero => exact h
  | succ n ih =>
    unfold State.serveUpTo
    split
    · exact ih (hhead s h)
    · exact h

theorem Ruled.serve (h : Ruled s) : Ruled s.serve := h.serveUpTo _

theorem Ruled.takeRequest (h : Ruled s) (f : Frame) : Ruled (s.takeRequest f) := by
  unfold State.takeRequest
  split
  · exact h
  · refine Ruled.serve (h.congr ?_)
    rfl

theorem Ruled.requestRow (h : Ruled s) (code group index field : Byte) (v : Word32) :
    Ruled (s.requestRow code group index field v) := by
  unfold State.requestRow
  split
  · exact h.takeRequest _
  · exact h

/-! ### The frame path -/

theorem ruling_forward (s : State) (p : Port) (f : Frame) (b : Bool) : ruling (s.forward p f b) = ruling s := by
  cases p with
  | v =>
    show ruling (s.offerVToB f b) = _
    unfold State.offerVToB
    split
    · rfl
    · split <;> rfl
  | b =>
    show ruling (s.offerBToV f) = _
    unfold State.offerBToV
    split <;> rfl

theorem ruling_offerPart (s : State) (e : RouteEntry) (p : Port) (f : Frame) : ruling (s.offerPart e p f) = ruling s := by
  unfold State.offerPart
  split
  · exact ruling_forward ..
  · exact ruling_forward ..
  · split
    · exact ruling_forward ..
    · rfl
  all_goals rfl

theorem Ruled.defaultFrame (h : Ruled s) (p : Port) (f : Frame) : Ruled (s.defaultFrame p f) := by
  unfold State.defaultFrame
  split
  · exact h.congr (ruling_forward ..)
  · exact h

theorem Ruled.requestFrame (h : Ruled s) (f : Frame) : Ruled (s.requestFrame f) := by
  unfold State.requestFrame
  split
  · exact h
  · exact h.takeRequest f

theorem Ruled.matched (h : Ruled s) (e : RouteEntry) (p : Port) (f : Frame) : Ruled (s.matched e p f) := by
  have ho : Ruled (s.offerPart e p f) := h.congr (ruling_offerPart ..)
  have hh : ∀ t : State, Ruled t → Ruled (t.handPart e f) := by
    intro t ht
    unfold State.handPart
    split
    · exact ht.demandTaken f
    · exact ht.channelFrame f
    · exact ht.takeRequest f
    all_goals exact ht
  unfold State.matched
  split
  · exact ho
  · exact hh _ (ho.extractAll f _)

theorem Ruled.classify (h : Ruled s) (p : Port) (f : Frame) : Ruled (s.classify p f) := by
  unfold State.classify
  split
  · unfold State.classifySuspended
    split
    · split
      · exact h
      · exact h.demandTaken f
    · split
      · exact h.requestFrame f
      · exact h.defaultFrame p f
  · split
    · exact h.matched _ p f
    · split
      · exact h.requestFrame f
      · exact h.defaultFrame p f

theorem ruling_cabEnded (s : State) : ruling s.cabEnded = ruling s := by
  unfold State.cabEnded
  dsimp only
  split
  · rw [ruling_makeCab]; rfl
  · rfl

theorem Ruled.tellSent (h : Ruled s) (src : Source) : Ruled (s.tellSent src) := by
  cases src with
  | slot _ | control | vToB | bToV => exact h
  | cab => exact h.congr (ruling_cabEnded s)
  | reply =>
    show Ruled s.replySent
    unfold State.replySent
    split
    · exact h
    · split
      · exact ruled_warmReset s
      · refine Ruled.serve (h.congr ?_)
        rfl

theorem Ruled.tellFailed (h : Ruled s) (src : Source) : Ruled (s.tellFailed src) := by
  cases src with
  | slot _ | control | vToB | bToV => exact h
  | cab => exact h.congr (ruling_cabEnded s)
  | reply =>
    show Ruled s.replyFailed
    unfold State.replyFailed
    split
    · exact h
    · split
      · exact ruled_warmReset s
      · exact h

theorem Ruled.enterBusOff (h : Ruled s) (p : Port) : Ruled (s.enterBusOff p) := by
  have h1 : Ruled ((s.setPort p (s.port p).busOff).count (busOffCounter p)) := h.congr (by simp)
  unfold State.enterBusOff
  cases p with
  | v =>
    dsimp only
    split
    · exact h1.tellFailed _
    · exact h1
  | b =>
    refine Ruled.securingNotice ?_ _
    split
    · exact h1.tellFailed _
    · exact h1

theorem Ruled.recover (h : Ruled s) (p : Port) : Ruled (s.recover p) := by
  have h1 : Ruled (s.setPort p { s.port p with txErr := 0, rxErr := 0, recovery := 0, mode := .active }) :=
    h.congr (by simp)
  cases p with
  | v => exact h1
  | b => exact h1.testEntry

theorem Ruled.startAttempt (h : Ruled s) (p : Port) : Ruled (s.startAttempt p) := by
  unfold State.startAttempt
  split
  · exact h
  · refine h.congr ?_
    unfold State.chosen
    split <;> exact ruling_setPort ..

/-! ### Power, KEY and sleep -/

theorem Ruled.keyFell (h : Ruled s) : Ruled s.keyFell := by
  have hk : Ruled { s with key := false } := h
  exact ((hk.securingNotice _).abortCheck _).tendSleep

theorem Ruled.keyRose (h : Ruled s) : Ruled s.keyRose := by
  have hk : Ruled { s with key := true } := h
  exact hk.tendSleep.testEntry

end

/-- R171: what the laws say of a sleeping part. -/
structure Rested (s : State) : Prop where
  settled : s.Settled
  start : s.start = none
  mayRest : s.sup.state.mayRest = true

section
variable {s : State}

/-- R101, R172: a part wakes with its latch, the run of a path check long over. -/
theorem Rested.wakeUp (h : Rested s) : Ruled s.wakeUp := by
  have ht : s.path.testing = false := by
    by_contra ht
    have hc := h.settled.checking.1 (by simpa using ht)
    have hm := h.mayRest
    simp [hc, SupState.mayRest] at hm
  unfold State.wakeUp
  generalize hu : (State.startTraffic _).startMeasures = u
  have he : ruling u = { ruling s with asleep := false, conf := .idle, sleepTimer := none } := by
    rw [← hu, ruling_startMeasures]; rfl
  exact ruled_takeStart ((congrArg Ruling.start he).trans h.start) (congrArg Ruling.asleep he) (congrArg Ruling.conf he)
    ((congrArg Ruling.testing he).trans ht) _

/-- R171: the part falls asleep in a state that may rest, its context's hold-limit timer stopped. -/
theorem Ruled.fallAsleep (h : Ruled s) (hn : s.start = none) (hm : s.sup.state.mayRest = true) :
    Rested s.fallAsleep := by
  have he : ruling s.fallAsleep = { ruling s with
      ctx := s.sup.ctx.map fun c => { c with holdLimit := none }, asleep := true, sleepTimer := none } := by
    unfold State.fallAsleep
    rfl
  generalize s.fallAsleep = t at he
  have hstate : t.sup.state = s.sup.state := congrArg Ruling.state he
  refine ⟨?_, (congrArg Ruling.start he).trans hn, hstate ▸ hm⟩
  have hctx : t.sup.ctx = s.sup.ctx.map fun c => { c with holdLimit := none } := congrArg Ruling.ctx he
  constructor
  case prq => exact (congrArg Ruling.prq he).trans (hstate ▸ h.prq hn)
  case holdInForce => exact (congrArg Ruling.holdInForce he).trans (hstate ▸ h.holdInForce hn)
  case conf => exact (congrArg (fun r : Ruling => r.conf.fits r.state) he).trans h.conf
  case context =>
    rw [hctx, hstate, Option.isSome_map]
    exact h.context
  case fits =>
    intro d hd
    rw [hctx] at hd
    obtain ⟨c, hc, rfl⟩ := Option.map_eq_some_iff.1 hd
    have hf := h.fits c hc
    rw [hstate]
    exact ⟨hf.step, hf.release, hf.reinforced, by simp⟩
  case handover => exact fun hh => hstate.trans (h.handover ((congrArg Ruling.handover he).symm.trans hh))
  case marker => exact fun hmk => hstate ▸ h.marker ((congrArg Ruling.marker he).symm.trans hmk)
  case checking =>
    rw [hstate, show t.path.testing = s.path.testing from congrArg Ruling.testing he]
    exact h.checking

/-! ### The laws of a state with power -/

theorem Ruled.lawful (h : Ruled s) : s.Lawful where
  starting _ hs := by
    obtain ⟨hu, hl, ht⟩ := h.starting hs
    have hst : s.sup.state = .unavailable := hu
    refine ⟨hst, ?_, ?_, conf_idle_of_fits h.conf ?_, h.testing_of_ne (by simp [hst]), hl, h.awake, ht⟩
    · exact Option.not_isSome_iff_eq_none.1 (by
        rw [show s.sup.ctx.isSome = s.sup.state.isHold from h.context, hst]; simp [SupState.isHold])
    · by_contra hh
      have hsec := h.handover (by simpa [ruling] using hh)
      simp [ruling, hst] at hsec
    · simp [ruling, hst, SupState.prq]
  settled _ hn := ⟨h.prq hn, h.holdInForce hn, h.conf, h.context, h.fits, h.handover, h.marker, h.checking⟩
  asleep _ ha := by
    have := h.awake
    rw [show (ruling s).asleep = s.asleep from rfl, ha] at this
    cases this
  sleepTimer _ := h.sleepTimer

theorem ruled_of_lawful (h : s.Lawful) (ha : s.awake = true) : Ruled s := by
  obtain ⟨hp, hna⟩ : s.powered = true ∧ s.asleep = false := by simpa [State.awake] using ha
  cases hst : s.start with
  | none =>
    have hs := h.settled hp hst
    exact ⟨hna, fun _ => hs.prq, fun _ => hs.holdInForce, hs.conf, hs.context, hs.fits, hs.handover, hs.marker,
      hs.checking, h.sleepTimer hp, by simp [ruling, hst]⟩
  | some k =>
    have hs := h.starting hp (by simp [hst])
    refine ⟨hna, ?_, ?_, ?_, ?_, ?_, ?_, ?_, ?_, ?_, fun _ => ⟨hs.state, hs.loading, hs.sleepTimer⟩⟩ <;>
      simp [ruling, hst, hs.state, hs.context, hs.handover, hs.conf, hs.testing, hs.sleepTimer, ParkConf.fits,
        SupState.isHold, SupState.markerFree]

/-- A sleeping part with power has no start under way. -/
theorem rested_of_lawful (h : s.Lawful) (hp : s.powered = true) (ha : s.asleep = true) : Rested s := by
  have hn : s.start = none := by
    by_contra hn
    have := (h.starting hp (Option.isSome_iff_ne_none.2 hn)).awake
    simp [ha] at this
  exact ⟨h.settled hp hn, hn, h.asleep hp ha⟩

theorem Rested.lawful (h : Rested s) : s.Lawful :=
  ⟨fun _ hs => by simp [h.start] at hs, fun _ _ => h.settled, fun _ _ => h.mayRest, fun _ _ => h.mayRest⟩

/-- R131: the laws ask nothing of a part without power. -/
theorem lawful_of_unpowered (hp : s.powered = false) : s.Lawful := by
  constructor <;> simp [hp]

/-! ### Every command -/

theorem awake_of_expiring {t : Timer} {r : Running} (h : s.expiring t = some r) : s.awake = true ∧ t = some r := by
  unfold State.expiring at h
  split at h
  next ha => exact ⟨ha, h⟩
  next => cases h

theorem awake_of_running (h : s.running = true) : s.awake = true := by
  simp only [State.running, Bool.and_eq_true] at h
  exact h.1

theorem ruled_of_expiring (h : s.Lawful) {t : Timer} {r : Running} (hr : s.expiring t = some r) : Ruled s :=
  ruled_of_lawful h (awake_of_expiring hr).1

/-- What a command leaves of the laws. -/
def Keeps (o : Host.Outcome State Fault Refusal) : Prop := ∀ t, o = .next t → t.Lawful

theorem keeps_next {u : State} (h : u.Lawful) : Keeps (.next u) := fun _ ht => Host.Outcome.next.inj ht ▸ h

theorem keeps_row (h : s.Lawful) (code group index field : Byte) (v : Word32) :
    Keeps (.next (s.requestRow code group index field v)) := by
  refine keeps_next ?_
  by_cases hh : s.hearsRequests = true
  · have hrun : s.running = true := by
      simp only [State.hearsRequests, Bool.and_eq_true] at hh
      exact hh.1
    exact ((ruled_of_lawful h (awake_of_running hrun)).requestRow ..).lawful
  · rw [State.requestRow_unheard s (Bool.not_eq_true _ ▸ hh)]
    exact h

/-! Power, KEY, sleep, load and save. -/

theorem keeps_powerLoss (h : s.Lawful) : Keeps (execPowerLoss s) := by
  refine keeps_next ?_
  split
  · exact lawful_of_unpowered rfl
  · exact h

theorem keeps_warmReset (h : s.Lawful) : Keeps (execWarmReset s) := by
  refine keeps_next ?_
  split
  · exact (ruled_warmReset s).lawful
  · exact h

theorem settled_congr {t : State} (h : s.Settled) (he : ruling t = ruling s) : t.Settled := by
  have hs : t.sup.state = s.sup.state := congrArg Ruling.state he
  have hc : t.sup.ctx = s.sup.ctx := congrArg Ruling.ctx he
  constructor
  case prq => exact (congrArg Ruling.prq he).trans (hs ▸ h.prq)
  case holdInForce => exact (congrArg Ruling.holdInForce he).trans (hs ▸ h.holdInForce)
  case conf => exact (congrArg (fun r : Ruling => r.conf.fits r.state) he).trans h.conf
  case context => rw [hc, hs]; exact h.context
  case fits => rw [hc, hs]; exact h.fits
  case handover => exact fun hh => hs.trans (h.handover ((congrArg Ruling.handover he).symm.trans hh))
  case marker => exact fun hm => hs ▸ h.marker ((congrArg Ruling.marker he).symm.trans hm)
  case checking => rw [hs, show t.path.testing = s.path.testing from congrArg Ruling.testing he]; exact h.checking

/-- The laws speak of the ruling and of power alone. -/
theorem lawful_congr {t : State} (h : s.Lawful) (he : ruling t = ruling s) (hp : t.powered = s.powered) : t.Lawful := by
  by_cases hpow : s.powered = true
  · by_cases ha : s.asleep = true
    · have hr := rested_of_lawful h hpow ha
      refine Rested.lawful ⟨settled_congr hr.settled he, (congrArg Ruling.start he).trans hr.start, ?_⟩
      rw [show t.sup.state = s.sup.state from congrArg Ruling.state he]
      exact hr.mayRest
    · exact ((ruled_of_lawful h (by simp [State.awake, hpow, ha])).congr he).lawful
  · exact lawful_of_unpowered (hp.trans (Bool.not_eq_true _ ▸ hpow))

/-- The line alone moves where the part does not run. -/
theorem lawful_key (h : s.Lawful) (k : Bool) : State.Lawful { s with key := k } := lawful_congr h rfl rfl

theorem keeps_keyFall (h : s.Lawful) : Keeps (execKeyFall s) := by
  refine keeps_next ?_
  split
  · exact h
  · split
    next hr => exact (ruled_of_lawful h (awake_of_running hr)).keyFell.lawful
    next => exact lawful_key h false

theorem lawful_wakeUp (h : s.Lawful) (hp : (s.powered && s.asleep) = true) : s.wakeUp.Lawful := by
  obtain ⟨hp, ha⟩ := Bool.and_eq_true .. ▸ hp
  exact (rested_of_lawful h hp ha).wakeUp.lawful

theorem keeps_keyRise (h : s.Lawful) : Keeps (execKeyRise s) := by
  refine keeps_next ?_
  split
  · exact h
  · split
    next hp => exact lawful_wakeUp h hp
    next =>
      split
      next hr => exact (ruled_of_lawful h (awake_of_running hr)).keyRose.lawful
      next => exact lawful_key h true

theorem keeps_wake (h : s.Lawful) : Keeps (execWake s) := by
  refine keeps_next ?_
  split
  next hp => exact lawful_wakeUp h hp
  next => exact h

theorem keeps_loadEnd (h : s.Lawful) : Keeps (execLoadEnd s) := by
  refine keeps_next ?_
  split
  next ha =>
    have hr := ruled_of_lawful h (Bool.and_eq_true .. ▸ ha).1
    split
    next hs => exact (hr.endStart hs).lawful
    next hs => exact (hr.endReload (Option.not_isSome_iff_eq_none.1 hs)).lawful
  next => exact h

theorem keeps_saveComplete (h : s.Lawful) : Keeps (execSaveComplete s) := by
  refine keeps_next ?_
  split
  next ha =>
    obtain ⟨ha, ho⟩ := Bool.and_eq_true .. ▸ ha
    exact ((ruled_of_lawful h ha).endSave (of_decide_eq_true ho)).lawful
  next => exact h

theorem keeps_sleepDelayExpiry (h : s.Lawful) : Keeps (execSleepDelayExpiry s) := by
  refine keeps_next ?_
  split
  · exact h
  next r hr =>
    have hru := ruled_of_expiring h hr
    have hsome : s.sleepTimer.isSome := by rw [(awake_of_expiring hr).2]; rfl
    have hm : s.sup.state.mayRest = true := hru.sleepTimer hsome
    have hn : s.start = none := by
      by_contra hn
      obtain ⟨-, -, ht⟩ := hru.starting (Option.isSome_iff_ne_none.2 hn)
      have ht' : s.sleepTimer = none := ht
      simp [ht'] at hsome
    have hr' : Ruled { s.reach r with sleepTimer := none } :=
      { hru with sleepTimer := nofun, starting := fun hs => absurd hn (Option.isSome_iff_ne_none.1 hs) }
    unfold State.enterSleep
    split
    · exact (ruled_warmReset _).lawful
    · exact (hr'.fallAsleep hn hm).lawful

/-! The ports. -/

theorem keeps_frameReceived (h : s.Lawful) (p : Port) (f : Frame) : Keeps (execFrameReceived p f s) := by
  refine keeps_next ?_
  split
  next hr =>
    have hr := ruled_of_lawful h (awake_of_running (Bool.and_eq_true .. ▸ hr).1)
    refine (Ruled.classify (hr.congr ?_) p f).lawful
    simp
  next => exact h

theorem keeps_receiveError (h : s.Lawful) (p : Port) : Keeps (execReceiveError p s) := by
  refine keeps_next ?_
  split
  next ha => exact ((ruled_of_lawful h (Bool.and_eq_true .. ▸ ha).1).congr (by simp)).lawful
  next => exact h

theorem keeps_transmitError (h : s.Lawful) (p : Port) : Keeps (execTransmitError p s) := by
  refine keeps_next ?_
  split
  next ha =>
    have hr := ruled_of_lawful h (Bool.and_eq_true .. ▸ ha).1
    split
    · exact (hr.enterBusOff p).lawful
    · exact (hr.congr (by simp)).lawful
  next => exact h

theorem keeps_transmitAttemptStart (h : s.Lawful) (p : Port) : Keeps (execTransmitAttemptStart p s) := by
  refine keeps_next ?_
  split
  next ha =>
    simp only [Bool.and_eq_true] at ha
    exact ((ruled_of_lawful h (awake_of_running ha.1.1)).startAttempt p).lawful
  next => exact h

theorem keeps_frameSent (h : s.Lawful) (p : Port) : Keeps (execFrameSent p s) := by
  refine keeps_next ?_
  split
  · exact h
  · split
    next hr =>
      refine (Ruled.tellSent ((ruled_of_lawful h (awake_of_running hr)).congr ?_) _).lawful
      simp
    next => exact h

theorem keeps_recessiveSequence (h : s.Lawful) (p : Port) : Keeps (execRecessiveSequence p s) := by
  refine keeps_next ?_
  split
  next ha =>
    have hr := ruled_of_lawful h (Bool.and_eq_true .. ▸ ha).1
    split
    · exact (hr.recover p).lawful
    · exact (hr.congr (by simp)).lawful
  next => exact h

/-! The expiries: each acts in an awake part on its timer. -/

end

end Sys2Proof.Machine.HoldSupervisor

namespace Sys2Proof.Machine.HoldSupervisor

open SignalRecords AxleChannels HoldCalculator

/-! The expiry of each timer, and the statement that every step keeps the laws. -/

section
variable {s : State}

/-- What the expiry of a timer makes of the state: nothing while the part sleeps or the timer is stopped (R171). -/
def expired (s : State) (t : Timer) (u : Running → State) : State :=
  match s.expiring t with
  | none => s
  | some r => u r

theorem keeps_expiry (h : s.Lawful) (t : Timer) {u : Running → State}
    (hu : ∀ r, t = some r → Ruled (s.reach r) → Ruled (u r)) : Keeps (.next (expired s t u)) := by
  refine keeps_next ?_
  unfold expired
  split
  · exact h
  next r hr => exact (hu r (awake_of_expiring hr).2 ((ruled_of_expiring h hr).congr rfl)).lawful

theorem keeps_staleTimerExpiry (h : s.Lawful) (k : Fin 20) : Keeps (execStaleTimerExpiry k s) := by
  refine keeps_expiry h (s.signals.records.get k).stale fun r _ hr => ?_
  split
  · refine Ruled.notify (hr.congr ?_) _ _ _ _
    rfl
  all_goals exact hr

theorem keeps_lossTimerExpiry (h : s.Lawful) (k : Fin 20) : Keeps (execLossTimerExpiry k s) := by
  refine keeps_expiry h (s.signals.records.get k).loss fun r _ hr => ?_
  split
  · refine Ruled.notify (hr.congr ?_) _ _ _ _
    rfl
  · refine Ruled.notify (hr.congr ?_) _ _ _ _
    rfl
  · exact hr

theorem keeps_reversalWindowExpiry (h : s.Lawful) : Keeps (execReversalWindowExpiry s) := by
  refine keeps_expiry h s.signals.reversal fun r _ hr => ?_
  refine Ruled.evaluate (hr.congr ?_)
  rfl

theorem keeps_statusStaleExpiry (h : s.Lawful) (c : Chan) : Keeps (execStatusStaleExpiry c s) := by
  refine keeps_expiry h (s.channels.records.get c).stale fun r _ hr => ?_
  exact Ruled.reworkNotice (hr.congr (ruling_setChannel ..))

theorem keeps_statusLossExpiry (h : s.Lawful) (c : Chan) : Keeps (execStatusLossExpiry c s) := by
  refine keeps_expiry h (s.channels.records.get c).loss fun r _ hr => ?_
  exact Ruled.reworkNotice (hr.congr (ruling_setChannel ..))

theorem keeps_restTimerExpiry (h : s.Lawful) (w : Wheel) : Keeps (execRestTimerExpiry w s) := by
  refine keeps_expiry h (s.creep.wheels.get w).rest.timer fun r _ hr => ?_
  exact Ruled.recheckRest (hr.congr (ruling_setTrack ..))

theorem keeps_holdLimitExpiry (h : s.Lawful) : Keeps (execHoldLimitExpiry s) :=
  keeps_expiry h s.holdLimitTimerOf fun _ _ hr => hr.holdLimitReached

theorem keeps_rampTimerExpiry (h : s.Lawful) : Keeps (execRampTimerExpiry s) := by
  refine keeps_expiry h s.rampTimerOf fun r ht hr => ?_
  have hs : s.sup.state = .releasing := by
    by_contra hs
    simp [State.rampTimerOf, hs] at ht
  refine ruled_enterStandby (hr.released (hr.start_of_ne ?_) ?_ ?_) (hr.marker_free ?_) _ <;>
    simp [hs, SupState.prq, SupState.markerFree]

theorem keeps_parkConfirmExpiry (h : s.Lawful) : Keeps (execParkConfirmExpiry s) := by
  refine keeps_expiry h s.park.timer fun r _ hr => ?_
  refine Ruled.parkOverdue (hr.congr ?_)
  rfl

theorem keeps_driverDemandStaleExpiry (h : s.Lawful) : Keeps (execDriverDemandStaleExpiry s) := by
  refine keeps_expiry h s.merger.driver.stale fun r _ hr => ?_
  split
  · exact Ruled.noticeDemand (hr.congr (ruling_setDriver ..))
  all_goals exact hr

theorem keeps_driverDemandLossExpiry (h : s.Lawful) : Keeps (execDriverDemandLossExpiry s) := by
  refine keeps_expiry h s.merger.driver.loss fun r _ hr => ?_
  split
  · exact Ruled.noticeDemand (hr.congr (ruling_setDriver ..))
  · exact Ruled.noticeDemand (hr.congr (ruling_setDriver ..))
  · exact hr

theorem keeps_refreshTimerExpiry (h : s.Lawful) : Keeps (execRefreshTimerExpiry s) := by
  refine keeps_expiry h s.merger.refresh fun r _ hr => ?_
  split
  · refine hr.congr ((ruling_makeDemand _).trans ?_)
    rfl
  · exact hr

theorem keeps_slotDiscardExpiry (h : s.Lawful) (n : SlotName) : Keeps (execSlotDiscardExpiry n s) := by
  refine keeps_expiry h (s.merger.slot n).discard fun r _ hr => ?_
  split <;> exact hr

theorem keeps_levelTimerExpiry (h : s.Lawful) : Keeps (execLevelTimerExpiry s) := by
  refine keeps_expiry h s.path.timer fun r _ hr => ?_
  refine Ruled.pathTimeout (hr.congr ?_)
  rfl

theorem keeps_cabStatusPeriodExpiry (h : s.Lawful) : Keeps (execCabStatusPeriodExpiry s) :=
  keeps_expiry h s.resp.period fun _ _ hr => hr.congr (ruling_makeCab _)

theorem keeps_restartTimerExpiry (h : s.Lawful) : Keeps (execRestartTimerExpiry s) :=
  keeps_expiry h s.resp.restartTimer fun _ _ _ => ruled_warmReset _

theorem keeps_buildStage1Expiry (h : s.Lawful) : Keeps (execBuildStage1Expiry s) := by
  refine keeps_next ?_
  split
  next hr =>
    refine (Ruled.congr (ruled_of_expiring h hr) ?_).lawful
    rfl
  next => exact h

theorem keeps_buildStage2Expiry (h : s.Lawful) : Keeps (execBuildStage2Expiry s) := by
  refine keeps_next ?_
  split
  next hr =>
    refine (Ruled.endStage2 ((ruled_of_expiring h hr).congr ?_)).lawful
    rfl
  next => exact h

/-- Every command keeps the laws. -/
theorem keeps_exec (h : s.Lawful) (i : Instr) : Keeps (exec i s) := by
  cases i with
  | powerOnReset => exact keeps_next (ruled_powerOn s).lawful
  | powerLoss => exact keeps_powerLoss h
  | warmReset => exact keeps_warmReset h
  | keyFall => exact keeps_keyFall h
  | keyRise => exact keeps_keyRise h
  | wake => exact keeps_wake h
  | frameReceived p f => exact keeps_frameReceived h p f
  | receiveError p => exact keeps_receiveError h p
  | transmitError p => exact keeps_transmitError h p
  | transmitAttemptStart p => exact keeps_transmitAttemptStart h p
  | frameSent p => exact keeps_frameSent h p
  | recessiveSequence p => exact keeps_recessiveSequence h p
  | staleTimerExpiry k => exact keeps_staleTimerExpiry h k
  | lossTimerExpiry k => exact keeps_lossTimerExpiry h k
  | reversalWindowExpiry => exact keeps_reversalWindowExpiry h
  | statusStaleExpiry c => exact keeps_statusStaleExpiry h c
  | statusLossExpiry c => exact keeps_statusLossExpiry h c
  | restTimerExpiry w => exact keeps_restTimerExpiry h w
  | holdLimitExpiry => exact keeps_holdLimitExpiry h
  | rampTimerExpiry => exact keeps_rampTimerExpiry h
  | parkConfirmExpiry => exact keeps_parkConfirmExpiry h
  | driverDemandStaleExpiry => exact keeps_driverDemandStaleExpiry h
  | driverDemandLossExpiry => exact keeps_driverDemandLossExpiry h
  | refreshTimerExpiry => exact keeps_refreshTimerExpiry h
  | slotDiscardExpiry n => exact keeps_slotDiscardExpiry h n
  | buildStage1Expiry => exact keeps_buildStage1Expiry h
  | buildStage2Expiry => exact keeps_buildStage2Expiry h
  | levelTimerExpiry => exact keeps_levelTimerExpiry h
  | cabStatusPeriodExpiry => exact keeps_cabStatusPeriodExpiry h
  | restartTimerExpiry => exact keeps_restartTimerExpiry h
  | sleepDelayExpiry => exact keeps_sleepDelayExpiry h
  | loadEnd => exact keeps_loadEnd h
  | saveComplete => exact keeps_saveComplete h
  | read | readLostSinceRead | readClearCounter | readClearCheckResult | writeRouteEntry | writeSignalEntry
  | writeChannelEntry | writeCurveBreakpoint | writeSetting => exact keeps_row h _ _ _ _ _
  | startCheck | abortCheck | clearSafeStart | save | reload | restart => exact keeps_row h _ _ _ _ _

end

/-- Settles O57: a step is one command, or a millisecond of idling. -/
theorem lawfulIsKept : Obligations.LawfulIsKept := by
  intro s t h ht
  unfold step at ht
  split at ht
  · rw [← Host.Outcome.next.inj ht]
    exact lawful_congr h rfl rfl
  next c rest _ =>
    have hq : State.Lawful { s with pending := rest } := lawful_congr h rfl rfl
    exact keeps_exec hq c t ht

end Sys2Proof.Machine.HoldSupervisor

namespace Sys2Proof.Machine.HoldSupervisor

open SignalRecords AxleChannels HoldCalculator

/-! Wake: the values the blocks take, and the supervisor's start from the PRQ latch (R101, R139, R172). -/

/-! ### The start from the latch -/

theorem sup_enterSecuring (s : State) (r : Reason) : (s.enterSecuring r).sup = { s.sup with
    state := .securing, reason := r, handover := false
    ctx := s.sup.ctx.map fun c => { c with release := none, reinforced := false, holdLimit := none } } := by
  unfold State.enterSecuring
  rw [State.sup_handMode _ _ _ (no_handover_of_ne_secured (by simp))]
  simp [State.assertPark]

/-- What a start in SECURING or UNAVAILABLE leaves as it finds it (R101). -/
structure Starts (s t : State) : Prop where
  calm : t.calm = s.calm
  channels : t.channels = s.channels
  path : t.path = s.path
  prq : t.park.prq = s.park.prq
  autoPending : t.sup.autoPending = true
  invalid : s.gf = none → s.calculator.record.valid = false → t.calculator.record.valid = false

/-- R61: a record worked without a filtered grade is not valid. -/
theorem valid_evaluation {s : State} (h : s.gf = none) : s.evaluation.valid = false := by
  rw [evaluation_unworked (.inr h), HoldResult.unworked]

/-- R101, R91: an asserted latch gives SECURING. -/
theorem takeStart_latched {s : State} (h : s.park.prq = true) (r : Reason) : Starts s (s.takeStart r) ∧
    (s.takeStart r).sup.state = .securing ∧ (s.takeStart r).sup.reason = r ∧
    (s.takeStart r).park.conf = .waiting ∧ (s.takeStart r).merger.mode = .secure := by
  have ht : ∃ c, s.takeStart r = (State.evaluateCore { s with
      sup := { s.sup with ctx := some c, handover := false, autoPending := true } }).enterSecuring r := by
    unfold State.takeStart
    dsimp only
    rw [if_pos h]
    exact ⟨_, rfl⟩
  obtain ⟨c, ht⟩ := ht
  rw [ht]
  generalize hv : State.evaluateCore { s with
    sup := { s.sup with ctx := some c, handover := false, autoPending := true } } = v
  have he := v.enterSecuring_enters r
  refine ⟨⟨?_, ?_, ?_, ?_, ?_, fun hg _ => ?_⟩, he.state, he.reason, by rw [he.park], he.mode⟩
  · rw [State.calm_enterSecuring, ← hv]; rfl
  · rw [channels_enterSecuring, ← hv]; rfl
  · rw [path_enterSecuring, ← hv]; rfl
  · rw [he.park, h]
  · rw [sup_enterSecuring, ← hv]; rfl
  · rw [calculator_enterSecuring, ← hv]
    exact valid_evaluation hg

/-- The state a start is taken from: no handover pending, the auto-check pending (R101). -/
def starting (s : State) : State := { s with sup := { s.sup with handover := false, autoPending := true } }

theorem takeStart_of_reason {s : State} {x : Reason} {rest : List Reason} (h : s.park.prq = false)
    (hx : s.unavailableReasons = x :: rest) (r : Reason) : s.takeStart r = (starting s).enterUnavailable x := by
  have hxv : (starting s).unavailableReasons = x :: rest := hx
  unfold State.takeStart
  dsimp only
  rw [if_neg (by simp [h])]
  split
  next y tail hy =>
    obtain ⟨rfl, -⟩ := List.cons.inj (hxv.symm.trans hy)
    rfl
  next hy => cases hxv.symm.trans hy

/-- R101: a deasserted latch gives UNAVAILABLE where a condition stands. -/
theorem takeStart_unlatched {s : State} {x : Reason} {rest : List Reason} (h : s.park.prq = false)
    (hx : s.unavailableReasons = x :: rest) (r : Reason) : Starts s (s.takeStart r) ∧
    (s.takeStart r).sup = ⟨.unavailable, x, none, false, true⟩ ∧ (s.takeStart r).merger.mode = .none := by
  rw [takeStart_of_reason h hx]
  have he := enterUnavailable_enters (starting s) x
  refine ⟨⟨he.calm, he.channels, he.path, (congrArg Park.prq he.park :), (congrArg Sup.autoPending he.sup :), fun hg hr => ?_⟩,
    he.sup, he.mode⟩
  unfold State.enterUnavailable
  dsimp only
  split
  · exact valid_evaluation (by simpa [State.gf, starting] using hg)
  · simpa [starting] using hr

/-! ### What the blocks hold at wake -/

/-- The state at wake before the supervisor takes its start (R172). -/
def woken (s : State) : State :=
  { s with asleep := false, key := true, park := { s.park with conf := .idle, timer := none } }.startTraffic.startMeasures

theorem exec_wake {s : State} (hp : s.powered = true) (ha : s.asleep = true) :
    exec .wake s = .next ((woken s).takeStart .keyOff) := by
  show execWake s = _
  simp only [execWake, hp, ha, Bool.and_self, if_true]
  rfl

/-- R58: each channel's handshake begins again, its advert and check state kept. -/
theorem record_woken (s : State) (c : Chan) : (woken s).channels.records.get c =
    (s.channels.records.get c).restart (s.work.channels.get c).expected := by
  show (PerChan.build fun c => (s.channels.records.get c).restart (s.work.channels.get c).expected).get c = _
  rw [PerChan.get_build]

/-- R54: with every channel LOST the usable set is empty. -/
theorem b_woken (s : State) : (woken s).channels.derived.b = 0 :=
  b_deriveChannels_of_unusable (s := (State.restartChannels _)) fun c => channelUsable_of_lost (record_woken s c ▸ rfl)

theorem gf_woken (s : State) : (woken s).gf = none := rfl

/-- R82: so NO-CHANNEL stands at wake. -/
theorem reasons_woken (s : State) : ∃ x rest, (woken s).unavailableReasons = x :: rest := by
  cases h : (woken s).unavailableReasons with
  | cons x rest => exact ⟨x, rest, rfl⟩
  | nil =>
    obtain ⟨-, -, -, -, hnil⟩ := head_unavailableReasons (woken s)
    exact absurd (b_woken s) (hnil.1 h).2.2.2

/-- Settles O6: the values at wake, and the start by the latch. -/
theorem wakeTakesItsStartFromTheLatch : Obligations.WakeTakesItsStartFromTheLatch := by
  intro s hp ha
  refine ⟨_, exec_wake hp ha, ?_⟩
  obtain ⟨x, rest, hx⟩ := reasons_woken s
  have hstart : Starts (woken s) ((woken s).takeStart .keyOff) := by
    cases hq : s.park.prq with
    | true => exact (takeStart_latched (s := woken s) hq _).1
    | false => exact (takeStart_unlatched (s := woken s) hq hx _).1
  have hlatched := fun hq => (takeStart_latched (s := woken s) hq .keyOff).2
  have hunlatched := fun hq => (takeStart_unlatched (s := woken s) hq hx .keyOff).2
  generalize (woken s).takeStart .keyOff = t at hstart hlatched hunlatched
  have hc := hstart.calm
  refine ⟨State.asleep_of_calm hc, State.key_of_calm hc, State.portV_of_calm hc, State.portB_of_calm hc,
    State.vToB_of_calm hc, State.bToV_of_calm hc, State.shedding_of_calm hc, ?_, ?_, ?_, fun k => ?_, fun c => ?_,
    State.calculator_payloadUsed_of_calm hc, hstart.invalid (gf_woken s) rfl, fun w => ?_,
    State.merger_driver_of_calm hc, State.merger_control_of_calm hc, hstart.path, State.resp_requests_of_calm hc,
    State.resp_replies_of_calm hc, (State.work_of_calm hc :), (State.store_of_calm hc :), (State.route_of_calm hc :),
    (State.pending_of_calm hc :), hstart.autoPending, hstart.prq, hlatched, fun hq => ?_⟩
  · rw [State.signals_of_calm hc]; rfl
  · rw [State.signals_of_calm hc]; rfl
  · rw [State.signals_of_calm hc]; rfl
  · rw [State.signals_of_calm hc]; exact record_startMeasures _ k
  · rw [hstart.channels, record_woken]; exact ⟨rfl, rfl, rfl⟩
  · rw [State.creep_of_calm hc]; cases w <;> rfl
  · obtain ⟨hsup, hmode⟩ := hunlatched hq
    rw [unavailableReasons_of_sameTables (sameTables_of_calm hc) (by rw [hstart.channels]), hx, hsup]
    exact ⟨rfl, rfl, rfl, hmode⟩

end Sys2Proof.Machine.HoldSupervisor

namespace Sys2Proof.Machine.HoldSupervisor

open SignalRecords AxleChannels HoldCalculator

/-! The entry to HOLDING from STANDBY: its conditions, and what the entry leaves (R84, R85, R88, R91, R109). -/

/-! ### The conditions of R84 -/

theorem steep_iff (s : State) : s.steep = true ↔ ∃ g, s.gf = some g ∧ s.work.settings.entryGrade ≤ g.natAbs := by
  unfold State.steep
  cases s.gf <;> simp

theorem driverBraking_iff (s : State) : s.driverBraking = true ↔ ∃ c, s.work.settings.entryDemand ≤ s.driverDemand c := by
  have hall : ∀ c : Chan, c ∈ Chan.all := by intro c; cases c <;> decide
  simp [State.driverBraking, hall]

/-- R84: the conditions of entry to HOLDING. -/
structure MayHold (s : State) : Prop where
  rest : s.creep.restHolds = true
  grade : s.signals.window.length = 5 ∧ (s.effective .grade).isFresh = true ∧
    ∃ g, s.gf = some g ∧ s.work.settings.entryGrade ≤ g.natAbs
  record : (s.effective .reservoir).isFresh = true ∧ s.calculator.record.valid = true ∧
    s.calculator.record.insufficient = false
  braking : ∃ c, s.work.settings.entryDemand ≤ s.driverDemand c
  driver : s.holdInhibited = false ∧ s.driverPresent = true ∧ s.pendantActive = false
  released : s.parkApplied = false
  staying : s.calculator.lastOutcome = .fail
  key : s.key = true
  onBus : s.portB.mode ≠ .offBus

theorem entryMet_iff (s : State) : s.entryMet = true ↔ MayHold s := by
  have hs := steep_iff s
  have hd := driverBraking_iff s
  constructor
  · intro h
    simp only [State.entryMet, windowSize, Bool.and_eq_true, beq_iff_eq, Bool.not_eq_true', decide_eq_true_eq,
      decide_eq_false_iff_not, and_assoc] at h
    obtain ⟨hrest, hwin, hgrade, hsteep, hres, hvalid, hins, hbrake, hinh, hdrv, hpen, hpark, hfail, hkey, hbus⟩ := h
    exact ⟨hrest, ⟨hwin, hgrade, hs.1 hsteep⟩, ⟨hres, hvalid, hins⟩, hd.1 hbrake, ⟨hinh, hdrv, hpen⟩, hpark, hfail, hkey,
      hbus⟩
  · intro ⟨hrest, ⟨hwin, hgrade, hsteep⟩, ⟨hres, hvalid, hins⟩, hbrake, ⟨hinh, hdrv, hpen⟩, hpark, hfail, hkey, hbus⟩
    simp [State.entryMet, windowSize, hrest, hwin, hgrade, hs.2 hsteep, hres, hvalid, hins, hd.2 hbrake, hinh, hdrv, hpen,
      hpark, hfail, hkey, hbus]

/-! ### The entry -/

section
variable {s : State}

/-- R85, R109: the context of an entry to HOLDING. -/
def holdingContext (s : State) : Context := s.newContext (headingOf s.gf) s.holdLimitTimer s.calculator.record.pHold

/-- The state with the context just made (R85). -/
def withContext (s : State) : State := { s with sup := { s.sup with ctx := some (holdingContext s) } }

/-- R61, R80: the record at step 0 of a context. -/
def stepZero (s : State) : HoldResult := State.evaluation { s with sup := { s.sup with ctx := none } }

/-- HOLDING entered, the record worked afresh and not yet taken (R79, R85). -/
def entered (s : State) : State := ((withContext s).evaluateCore.move .holding .none).handMode .hold true

theorem enterHolding_eq (s : State) : s.enterHolding = (entered s).recordInHold := rfl

/-- R80, R61: the record of the entry is one of step 0. -/
theorem evaluation_withContext (s : State) :
    (withContext s).evaluation = stepZero s := evaluation_of_step rfl rfl rfl rfl rfl

theorem entered_holds (s : State) :
    (entered s).sup = { s.sup with state := .holding, reason := .none, ctx := some (holdingContext s) } ∧
    (entered s).park = { s.park with holdInForce := true } ∧ (entered s).merger.mode = .hold ∧
    (entered s).counters = s.counters ∧
    (entered s).calculator.record = stepZero s := by
  have hns := no_handover_of_ne_secured (s := (withContext s).evaluateCore.move .holding .none) (by simp)
  unfold entered
  refine ⟨?_, ?_, ?_, ?_, ?_⟩
  · rw [State.sup_handMode _ _ _ hns]; simp [withContext]
  · rw [State.park_handMode _ _ _ hns]; simp [SupState.isHold, withContext]
  · exact State.merger_mode_handMode _ _ _ hns
  · rw [State.counters_handMode _ _ _ hns]; simp [withContext]
  · rw [State.calculator_handMode _ _ _ hns, State.calculator_move, ← evaluation_withContext]
    rfl

/-- R85: the entry of a sufficient record stays. -/
theorem enterHolding_sufficient (h : (entered s).calculator.record.insufficient = false) : s.enterHolding = entered s := by
  rw [enterHolding_eq, recordInHold_of_sufficient h]

/-- R88: the entry of an insufficient record is left for SECURING at once. -/
theorem enterHolding_insufficient (h : (entered s).calculator.record.insufficient = true) :
    s.enterHolding = (entered s).enterSecuring .insufficient := by
  obtain ⟨hsup, -⟩ := entered_holds s
  rw [enterHolding_eq, recordInHold_of_insufficient h, securingNotice_of_hold (.inl (by rw [hsup]))]

/-- R80, R109: the context that an entry to HOLDING makes of the state `s` before it. -/
structure EntryContext (s : State) (c : Context) : Prop where
  step : c.step = 0
  entryP : c.entryP = s.calculator.record.pHold
  uphill : c.uphill = headingOf s.gf
  release : c.release = none
  reinforced : c.reinforced = false
  wheels : ∀ w, c.wheels.get w = s.freshEntry w

theorem entryContext_holdingContext (s : State) : EntryContext s (holdingContext s) :=
  ⟨rfl, rfl, rfl, rfl, rfl, fun w => by rw [holdingContext, State.newContext, PerWheel.get_build]⟩

/-- R79, R85: the entry of a sufficient record. -/
theorem enterHolding_stays (h : (stepZero s).insufficient = false) :
    s.enterHolding.sup = { s.sup with state := .holding, reason := .none, ctx := some (holdingContext s) } ∧
    s.enterHolding.park = { s.park with holdInForce := true } ∧ s.enterHolding.merger.mode = .hold ∧
    s.enterHolding.counters = s.counters ∧
    s.enterHolding.calculator.record = stepZero s := by
  obtain ⟨-, -, -, -, hrec⟩ := entered_holds s
  rw [enterHolding_sufficient (by rw [hrec, h])]
  exact entered_holds s

/-- R88, R91: the entry of an insufficient record. -/
theorem enterHolding_leaves (h : (stepZero s).insufficient = true) :
    s.enterHolding.sup = { s.sup with
      state := .securing, reason := .insufficient, handover := false
      ctx := some { holdingContext s with holdLimit := none } } ∧
    s.enterHolding.park.prq = true ∧ s.enterHolding.merger.mode = .secure ∧
    s.enterHolding.counters = s.counters.set .secures s.counters.secures.bump ∧
    s.enterHolding.calculator.record = stepZero s := by
  obtain ⟨hsup, -, -, hcount, hrec⟩ := entered_holds s
  rw [enterHolding_insufficient (by rw [hrec, h])]
  have he := (entered s).enterSecuring_enters .insufficient
  refine ⟨?_, ?_, he.mode, ?_, ?_⟩
  · rw [sup_enterSecuring, hsup]; rfl
  · rw [he.park]
  · rw [he.counted, hcount]
  · rw [calculator_enterSecuring, hrec]

theorem testHold_of_standby (hs : s.sup.state = .standby) : s.testHold =
    if (s.workDriveTest (headingOf s.gf)).entryMet then (s.workDriveTest (headingOf s.gf)).enterHolding
    else s.workDriveTest (headingOf s.gf) := by
  unfold State.testHold
  rw [if_pos hs]

/-- R75: the state with an outcome of the drive-away test. -/
def driven (s : State) (o : DriveOutcome × Nat) : State :=
  { s with calculator := { s.calculator with lastOutcome := o.1, lastForce := o.2 } }

theorem workDriveTest_eq (s : State) (d : Option Heading) : s.workDriveTest d = driven s (s.driveTest d) := rfl

/-- R61: of the calculator the record takes the table state and the payload used, and of the context its step. -/
theorem evaluation_of_payload {s t : State} (hs : t.signals = s.signals) (hw : t.work = s.work)
    (hd : t.channels.derived = s.channels.derived) (hc : t.calculator.state = s.calculator.state)
    (hp : t.calculator.payloadUsed = s.calculator.payloadUsed) (hx : t.escalation = s.escalation) :
    t.evaluation = s.evaluation := by
  have hg : t.gf = s.gf := by rw [State.gf, State.gf, hs]
  have hr : t.reservoirValue = s.reservoirValue := by
    simp only [State.reservoirValue, State.roleRecord, State.signalOf, hs]
  unfold State.evaluation
  rw [hg, hc, hp, hw, hd, hx, hr, hs, effective_congr hs]

/-- R75: so it does not read the outcome of the drive-away test. -/
theorem stepZero_driven (s : State) (o : DriveOutcome × Nat) : stepZero (driven s o) = stepZero s :=
  evaluation_of_payload rfl rfl rfl rfl rfl rfl

end

/-- Settles O38: the conditions of R84 on the drive-away test just worked, and the entry by the record worked afresh. -/
theorem holdingNeedsEveryEntryCondition : Obligations.HoldingNeedsEveryEntryCondition := by
  intro s hs met t record
  have ht : t = _ := testHold_of_standby hs
  rw [workDriveTest_eq] at ht
  generalize ho : s.driveTest (headingOf s.gf) = o at ht
  have hmet : (driven s o).entryMet = true ↔ met := by
    rw [entryMet_iff]
    simp only [met, ho]
    exact ⟨fun ⟨h1, h2, h3, h4, h5, h6, h7, h8, h9⟩ => ⟨h1, h2, h3, h4, h5, h6, h7, h8, h9⟩,
      fun ⟨h1, h2, h3, h4, h5, h6, h7, h8, h9⟩ => ⟨h1, h2, h3, h4, h5, h6, h7, h8, h9⟩⟩
  have hrecord : stepZero (driven s o) = record := stepZero_driven s o
  refine ⟨fun hn => ?_, fun hm => ?_⟩
  · rw [ht, if_neg (fun h => hn (hmet.1 h))]
    exact ⟨rfl, rfl⟩
  · rw [if_pos (hmet.2 hm)] at ht
    obtain ⟨hstep, hentry, huphill, hrelease, hreinforced, hwheels⟩ := entryContext_holdingContext (driven s o)
    cases hin : record.insufficient with
    | false =>
      obtain ⟨hsup, hpark, hmode, hcount, hrec⟩ := enterHolding_stays (s := driven s o) (by rw [hrecord, hin])
      rw [← ht] at hsup hpark hmode hcount hrec
      refine ⟨hrec.trans hrecord, ⟨_, (congrArg Sup.ctx hsup :), hstep, hentry, huphill, hrelease, hreinforced, hwheels,
        fun _ => rfl⟩, fun _ => ⟨(congrArg Sup.state hsup :), (congrArg Sup.reason hsup :), (congrArg Park.prq hpark :),
        hmode, hcount⟩, nofun⟩
    | true =>
      obtain ⟨hsup, hpark, hmode, hcount, hrec⟩ := enterHolding_leaves (s := driven s o) (by rw [hrecord, hin])
      rw [← ht] at hsup hpark hmode hcount hrec
      refine ⟨hrec.trans hrecord, ⟨_, (congrArg Sup.ctx hsup :), hstep, hentry, huphill, hrelease, hreinforced, hwheels,
        nofun⟩, nofun, fun _ => ⟨(congrArg Sup.state hsup :), (congrArg Sup.reason hsup :), hpark, hmode, hcount⟩⟩

end Sys2Proof.Machine.HoldSupervisor

namespace Sys2Proof.Machine.HoldSupervisor

open SignalRecords AxleChannels HoldCalculator

/-! The spring brake, confirmed, overdue or lost again (R91, R92, R96, R134, R135). -/

section
variable {s : State}

/-- R126: under NONE no build confirmation is looked at. -/
theorem handMode_none (s : State) (arms : Bool) : s.handMode .none arms = (s.setMode .none).noticeComponent := by
  have h : (s.setMode .none).noticeComponent.levelInForce = none := by rw [levelInForce_noticeComponent]; rfl
  show (s.setMode .none).noticeComponent.noticeConfirm arms = _
  unfold State.noticeConfirm
  rw [h]

/-! ### The park confirm timer -/

/-- R169: a request on the marker, whose change no unavailable condition of a hold state heeds. -/
theorem requestMarker_of_isHold (h : s.sup.state.isHold = true) (op : CellOp) :
    s.requestMarker op = { s with store := s.store.request op } := by
  have hn : State.noticeConditions { s with store := s.store.request op } = { s with store := s.store.request op } :=
    noticeConditions_of_isHold h
  unfold State.requestMarker
  dsimp only
  rw [hn, ite_self]

/-- R169: the cell follows the marker at once, or at the end of a save. -/
theorem request_write (st : Store) : st.request .write =
    if st.op = .saving then { st with marker := true, pendingCell := .write }
    else { st with marker := true, cell := true } := by
  cases h : st.op <;> simp [Store.request, CellOp.applied, h]

/-- R135: an unconfirmed secure. -/
theorem parkOverdue_of_securing (h : s.sup.state = .securing) (hc : s.park.conf = .waiting) : s.parkOverdue = { s with
    park := { s.park with conf := .overdue }
    counters := s.counters.set .unconfirmedSecures s.counters.unconfirmedSecures.bump
    store := s.store.request .write } := by
  unfold State.parkOverdue
  rw [hc]
  dsimp only
  rw [requestMarker_of_isHold (by simp [h, SupState.isHold])]
  rfl

/-! ### A renewal of PARK_STATUS -/

theorem isHold_of_parked (h : s.sup.state = .securing ∨ s.sup.state = .secured) : s.sup.state.isHold = true := by
  rcases h with h | h <;> rw [h] <;> rfl

theorem parkRenewalHold_of_securing (h : s.sup.state = .securing) (x : Int) : s.parkRenewalHold x = s := by
  unfold State.parkRenewalHold
  rw [h]

theorem parkRenewalHold_of_secured (h : s.sup.state = .secured) (x : Int) :
    s.parkRenewalHold x = if x = 0 ∨ x = 3 then s.enterSecuring s.sup.reason else s := by
  unfold State.parkRenewalHold
  rw [h]

/-- The state with the spring confirmation taken by park control (R134). -/
def confirmed (s : State) : State := { s with park := { s.park with conf := .confirmed, timer := none } }

/-- R92: the spring brake confirmed gives SECURED. -/
theorem springApplied_of_securing (h : s.sup.state = .securing) (hc : s.park.conf = .waiting ∨ s.park.conf = .overdue) :
    s.springApplied = ((confirmed s).move .secured s.sup.reason).handMode .none false := by
  have hs : (confirmed s).springConfirmed = ((confirmed s).move .secured s.sup.reason).handMode .none false := if_pos h
  unfold State.springApplied
  rcases hc with hc | hc <;> rw [hc, ← hs] <;> rfl

theorem springApplied_of_confirmed (h : s.park.conf = .confirmed) : s.springApplied = s := by
  unfold State.springApplied
  rw [h]

theorem abortCheck_of_idle (h : s.path.testing = false) (c : AbortCause) : s.abortCheck c = s := by
  simp [State.abortCheck, h]

theorem parkRenewal_applied (s : State) : s.parkRenewal 1 = (s.parkRenewalHold 1).testEntry.springApplied := rfl

theorem parkRenewal_unapplied {x : Int} (h : x ≠ 1) :
    s.parkRenewal x = (s.parkRenewalHold x).testEntry.abortCheck .park := if_neg h

/-- R92, R134: SECURING confirmed. -/
theorem parkRenewal_confirms (h : s.sup.state = .securing) (hc : s.park.conf = .waiting ∨ s.park.conf = .overdue) :
    (s.parkRenewal 1).sup = { s.sup with state := .secured } ∧
    (s.parkRenewal 1).park = ⟨s.park.prq, true, .confirmed, none⟩ ∧
    (s.parkRenewal 1).merger.mode = .none ∧ (s.parkRenewal 1).calm = s.calm := by
  have ht : s.parkRenewal 1 = (((confirmed s).move .secured s.sup.reason).setMode .none).noticeComponent := by
    rw [parkRenewal_applied, parkRenewalHold_of_securing h, testEntry_of_isHold (isHold_of_parked (.inl h)),
      springApplied_of_securing h hc, handMode_none]
  rw [ht]
  refine ⟨?_, ?_, ?_, ?_⟩
  · simp [confirmed]
  · simp [confirmed, SupState.isHold]
  · simp
  · rw [State.calm_noticeComponent, State.calm_setMode, State.calm_move]
    rfl

/-- R96: the confirmation lost. -/
theorem parkRenewal_lost (h : s.sup.state = .secured) (hp : s.path.testing = false) {x : Int} (hx : x = 0 ∨ x = 3) :
    s.parkRenewal x = s.enterSecuring s.sup.reason := by
  have hs : (s.enterSecuring s.sup.reason).sup.state = .securing := by rw [sup_enterSecuring]
  rw [parkRenewal_unapplied (by omega), parkRenewalHold_of_secured h, if_pos hx,
    testEntry_of_isHold (isHold_of_parked (.inl hs)), abortCheck_of_idle (by rw [path_enterSecuring, hp])]

/-- R96: a renewal that loses no confirmation. -/
theorem parkRenewal_standing (h : s.sup.state = .secured) (hc : s.park.conf = .confirmed) (hp : s.path.testing = false)
    {x : Int} (hx : x = 1 ∨ x = 2) : s.parkRenewal x = s := by
  have hh : (s.parkRenewalHold x).testEntry = s := by
    rw [parkRenewalHold_of_secured h, if_neg (by omega), testEntry_of_isHold (isHold_of_parked (.inr h))]
  rcases hx with rfl | rfl
  · rw [parkRenewal_applied, hh, springApplied_of_confirmed hc]
  · rw [parkRenewal_unapplied (by omega), hh, abortCheck_of_idle hp]

end

/-- Settles O40: the park confirm timer and a renewal of PARK_STATUS in SECURING, and a renewal in SECURED. -/
theorem springIsConfirmedOrOverdue : Obligations.SpringIsConfirmedOrOverdue := by
  refine ⟨fun s x ha hs hc ht => ?_, fun s hs hc => parkRenewal_confirms hs hc,
    fun s hs hc hp => ⟨fun x hx => ?_, fun x hx => parkRenewal_standing hs hc hp hx⟩⟩
  · have he : exec .parkConfirmExpiry s =
        .next { s.reach x with park := { s.park with timer := none } }.parkOverdue := by
      show execParkConfirmExpiry s = _
      unfold execParkConfirmExpiry
      rw [expiring_of_awake ha, ht]
    rw [he, parkOverdue_of_securing (s := { s.reach x with park := { s.park with timer := none } }) hs hc]
    simp only [request_write]
    rfl
  · rw [parkRenewal_lost hs hp hx]
    exact ⟨s.enterSecuring_enters _, by simp⟩

end Sys2Proof.Machine.HoldSupervisor

namespace Sys2Proof.Machine.HoldSupervisor

open SignalRecords AxleChannels HoldCalculator

/-! The release request in SECURED, the handover it begins, and what ends that (R97, R98, R126, R127, R137). -/

section
variable {s : State}

/-! ### Entry to STANDBY that stays -/

/-- R84, R99: in no state with these inputs are the conditions of HOLDING or of the auto-check met. -/
structure NoEntry (s : State) : Prop where
  hold : ∀ t : State, t.calm = s.calm → t.entryMet = false
  check : ∀ t : State, t.calm = s.calm → t.work.settings.autoCheck = false ∨ t.checkPreconditions = false

theorem steep_congr {t : State} (h : t.calm = s.calm) : t.steep = s.steep := by
  simp only [State.steep, State.gf, State.signals_of_calm h, State.work_of_calm h]

theorem driverDemand_congr {t : State} (h : t.merger.driver = s.merger.driver) : t.driverDemand = s.driverDemand := by
  funext c
  rw [State.driverDemand, State.driverDemand, h]

/-- R84: no entry to HOLDING on a grade that is not steep. -/
theorem entryMet_of_shallow (h : s.steep = false) : s.entryMet = false := by
  simp [State.entryMet, h]

/-- R99: a braking driver keeps the check from starting, where the entry demand is above 0. -/
theorem not_driverIdle_of_braking (hb : s.driverBraking = true) (hd : 0 < s.work.settings.entryDemand) :
    s.driverIdle = false := by
  obtain ⟨c, hc⟩ := (driverBraking_iff s).1 hb
  have hall : c ∈ Chan.all := by cases c <;> decide
  have hn : ¬s.driverDemand c = 0 := by omega
  simp only [State.driverIdle, List.all_eq_false, beq_iff_eq]
  exact ⟨c, hall, hn⟩

theorem noEntry_of_shallow (hsteep : s.steep = false) (hb : s.driverBraking = true)
    (ha : s.work.settings.autoCheck = false ∨ 0 < s.work.settings.entryDemand) : NoEntry s where
  hold t ht := entryMet_of_shallow ((steep_congr ht).trans hsteep)
  check t ht := by
    refine ha.imp (fun h => by rw [State.work_of_calm ht, h]) fun h => ?_
    have hidle : t.driverIdle = false := by
      rw [State.driverIdle, driverDemand_congr (State.merger_driver_of_calm ht)]
      exact not_driverIdle_of_braking hb h
    simp [State.checkPreconditions, hidle]

/-- R85: the test of the entry conditions, unmet, works the drive-away test alone. -/
theorem testHold_of_unmet (hs : s.sup.state = .standby) (hm : (s.workDriveTest (headingOf s.gf)).entryMet = false) :
    s.testHold = s.workDriveTest (headingOf s.gf) := by
  rw [testHold_of_standby hs, hm]
  rfl

theorem testCheck_of_unmet (h : s.work.settings.autoCheck = false ∨ s.checkPreconditions = false) : s.testCheck = s := by
  rcases h with h | h <;> simp [State.testCheck, h]

/-- R52, R85: STANDBY entered and kept. -/
theorem enterStandby_enters_of_noEntry (hn : NoEntry s) (r : Reason) : EntersStandby s (s.enterStandby r) r := by
  have hc := enterStandbyCore_enters s r
  generalize hu : s.enterStandbyCore r = u at hc
  have hcalm : (u.workDriveTest (headingOf u.gf)).calm = s.calm := hc.calm
  have hs : u.sup.state = .standby := by rw [hc.sup]
  have ht : u.testEntry = u.workDriveTest (headingOf u.gf) := by
    unfold State.testEntry
    rw [hs]
    dsimp only
    rw [testHold_of_unmet hs (hn.hold _ hcalm), testCheck_of_unmet (hn.check _ hcalm)]
  rw [State.enterStandby, hu, ht]
  exact ⟨hc.sup, hc.park, hc.mode, hc.refresh, hc.records, hcalm⟩

/-! ### The request -/

theorem releaseTaken_iff (s : State) : s.releaseTaken = true ↔ s.sup.state = .secured ∧ s.sup.handover = false ∧
    s.key = true ∧ s.driverPresent = true ∧ s.driverBraking = true := by
  simp [State.releaseTaken, and_assoc]

/-- R97: a request with a condition unmet. -/
theorem releaseRequest_of_untaken (h : s.releaseTaken = false) : s.releaseRequest = s := by
  simp [State.releaseRequest, h]

/-- R97: the request that the safe-start marker takes to UNAVAILABLE. -/
theorem releaseRequest_of_marker (h : s.releaseTaken = true) (hm : s.store.marker = true) :
    s.releaseRequest = s.deassertPark.enterUnavailable .safeStart := by
  simp [State.releaseRequest, h, hm]

theorem releaseRequest_unmarked (h : s.releaseTaken = true) (hm : s.store.marker = false) : s.releaseRequest =
    if s.gf.isSome && !s.steep then s.releaseShallow else if s.handoverReady then s.beginHandover else s := by
  simp [State.releaseRequest, h, hm]

/-- R97, R137: PRQ deasserted on a shallow grade. -/
theorem releaseShallow_enters (hn : NoEntry s) :
    s.releaseShallow.park = ⟨false, false, .idle, none⟩ ∧ s.releaseShallow.merger.mode = .none ∧
    (s.unavailableReasons = [] → s.releaseShallow.sup = ⟨.standby, .none, none, false, s.sup.autoPending⟩) ∧
    ∀ r rest, s.unavailableReasons = r :: rest →
      s.releaseShallow.sup = ⟨.unavailable, r, none, false, s.sup.autoPending⟩ := by
  cases hr : s.unavailableReasons with
  | nil =>
    have he := enterStandby_enters_of_noEntry (s := s.deassertPark) ⟨hn.hold, hn.check⟩ .none
    have ht : s.releaseShallow = s.deassertPark.enterStandby .none := by
      unfold State.releaseShallow
      rw [hr]
    rw [ht]
    exact ⟨he.park, he.mode, fun _ => he.sup, nofun⟩
  | cons r rest =>
    have he := enterUnavailable_enters s.deassertPark r
    have ht : s.releaseShallow = s.deassertPark.enterUnavailable r := by
      unfold State.releaseShallow
      rw [hr]
    rw [ht]
    refine ⟨he.park, he.mode, nofun, fun r' rest' h => ?_⟩
    obtain ⟨rfl, -⟩ := List.cons.inj h
    exact he.sup

/-- R97: what lets a handover begin. -/
theorem handoverReady_iff (s : State) : s.handoverReady = true ↔
    (∃ g, s.gf = some g ∧ s.work.settings.entryGrade ≤ g.natAbs) ∧ s.calculator.record.valid = true ∧
    s.calculator.record.insufficient = false ∧ s.reservoirLost = false ∧ s.pendantActive = false ∧
    2 ≤ s.creep.watchedCount ∧ s.portB.mode ≠ .offBus := by
  rw [← steep_iff]
  simp [State.handoverReady, and_assoc]

/-! ### The end of a handover -/

/-- R98: a pending handover dropped. -/
theorem dropHandover_of_pending (hs : s.sup.state = .secured) (hh : s.sup.handover = true) :
    s.dropHandover.sup = { s.sup with handover := false } ∧ s.dropHandover.park = s.park ∧
    s.dropHandover.merger.mode = (if s.reinforced then .secure else .none) ∧ s.dropHandover.counters = s.counters ∧
    s.dropHandover.calculator = s.calculator ∧ s.dropHandover.path = s.path := by
  have hns : ¬((State.sup { s with sup := { s.sup with handover := false } }).state = .secured ∧
      (State.sup { s with sup := { s.sup with handover := false } }).handover = true) := by simp
  have ht : s.dropHandover = State.handMode { s with sup := { s.sup with handover := false } }
      (if s.reinforced then .secure else .none) false := if_pos ⟨hs, hh⟩
  rw [ht]
  exact ⟨State.sup_handMode _ _ _ hns, State.park_handMode _ _ _ hns, State.merger_mode_handMode _ _ _ hns,
    State.counters_handMode _ _ _ hns, State.calculator_handMode _ _ _ hns, State.path_handMode _ _ _ hns⟩

theorem securingNotice_of_secured (hs : s.sup.state = .secured) (r : Reason) : s.securingNotice r = s.dropHandover := by
  unfold State.securingNotice
  rw [hs]

/-- R98, R137: the build confirmed, the marker clear. -/
theorem buildConfirmed_hands (hs : s.sup.state = .secured) (hh : s.sup.handover = true) (hm : s.store.marker = false) :
    s.buildConfirmed.sup = { s.sup with
      state := .holding, reason := .none, handover := false
      ctx := s.sup.ctx.map fun c => { c with holdLimit := some ⟨s.now, 1000 * s.work.settings.holdLimit⟩, reinforced := false } } ∧
    s.buildConfirmed.park = ⟨false, true, .idle, none⟩ ∧ s.buildConfirmed.merger.mode = s.merger.mode ∧
    s.buildConfirmed.calculator = s.calculator := by
  unfold State.buildConfirmed
  rw [if_pos ⟨hs, hh⟩, if_neg (by simp [hm])]
  refine ⟨?_, ?_, ?_, ?_⟩
  · rw [State.sup_move]; rfl
  · rw [State.park_move]; rfl
  · rw [State.merger_mode_move]; rfl
  · rw [State.calculator_move]; rfl

/-- R98, R137: the build confirmed, the marker set. -/
theorem buildConfirmed_marked (hs : s.sup.state = .secured) (hh : s.sup.handover = true) (hm : s.store.marker = true) :
    s.buildConfirmed = s.deassertPark.enterUnavailable .safeStart := by
  unfold State.buildConfirmed
  rw [if_pos ⟨hs, hh⟩, if_pos hm]

end

end Sys2Proof.Machine.HoldSupervisor

namespace Sys2Proof.Machine.HoldSupervisor

open SignalRecords AxleChannels HoldCalculator

/-! The beginning of a release handover (R80, R97, R98, R126, R127). -/

section
variable {s : State}

/-! ### The context, and the confirmation armed -/

/-- R97: the context of a handover, without a hold limit. -/
def handoverContext (s : State) : Context := s.newContext (headingOf s.gf) none s.calculator.record.pHold

/-- R98: the state with the handover marked pending. -/
def handing (s : State) : State := { s with sup := { s.sup with ctx := some (handoverContext s), handover := true } }

/-- R97: the record worked afresh in the handover's context and the mode HOLD set. -/
def pendingHandover (s : State) : State := ((handing s).evaluateCore.setMode .hold).noticeComponent

theorem beginHandover_eq (s : State) : s.beginHandover = ((pendingHandover s).noticeConfirm true).recordInHold := rfl

theorem evaluation_handing (s : State) : (handing s).evaluation = stepZero s := evaluation_of_step rfl rfl rfl rfl rfl

theorem pendingHandover_holds (s : State) :
    (pendingHandover s).sup = { s.sup with ctx := some (handoverContext s), handover := true } ∧
    (pendingHandover s).park = s.park ∧ (pendingHandover s).merger.mode = .hold ∧
    (pendingHandover s).calculator.record = stepZero s ∧ (pendingHandover s).channels = s.channels ∧
    (pendingHandover s).calm = s.calm := by
  have hm := mergerOnly_noticeComponent ((handing s).evaluateCore.setMode .hold)
  refine ⟨hm.sup, hm.park, hm.mode, ?_, hm.channels, ?_⟩
  · rw [pendingHandover, hm.calculator, ← evaluation_handing]
    rfl
  · rw [pendingHandover, hm.calm, State.calm_setMode]
    rfl

/-- The level that the handover's confirmation is armed on (R126). -/
def handoverLevel (s : State) : Nat := roundUp4 (pendingHandover s).holdPressure

theorem levelInForce_pendingHandover (s : State) : (pendingHandover s).levelInForce = some (handoverLevel s) := by
  obtain ⟨-, -, hmode, -⟩ := pendingHandover_holds s
  unfold State.levelInForce
  rw [hmode]
  rfl

theorem roundUp4_roundUp4 (p : Nat) : roundUp4 (roundUp4 p) = roundUp4 p := by
  unfold roundUp4 ceilDiv
  omega

/-- R72, R126: the level is the target of a valid record. -/
theorem handoverLevel_of_valid (h : (stepZero s).valid = true) : handoverLevel s = ((stepZero s).pHold + 3) / 4 * 4 := by
  obtain ⟨-, -, hmode, hrec, -⟩ := pendingHandover_holds s
  unfold handoverLevel State.holdPressure
  rw [hmode, hrec]
  dsimp only
  rw [if_pos h, HoldResult.target, roundUp4_roundUp4]
  rfl

/-- Stage 1 of the confirmation running (R126). -/
def waitingForBuild (s : State) : State :=
  { pendingHandover s with merger := { (pendingHandover s).merger with
      conf := .stage1, stage := (pendingHandover s).timer (pendingHandover s).work.settings.buildStage1
      confirmLevel := handoverLevel s } }

/-- The confirmation ended with the build (R127). -/
def builtUp (s : State) : State :=
  { waitingForBuild s with merger := { (waitingForBuild s).merger with conf := .idle, stage := none } }

/-- R126, R127: the confirmation is judged at once. -/
theorem noticeConfirm_pendingHandover (s : State) : (pendingHandover s).noticeConfirm true =
    if s.built (handoverLevel s) then (builtUp s).buildConfirmed else waitingForBuild s := by
  obtain ⟨-, -, -, -, hchan, hcalm⟩ := pendingHandover_holds s
  have hl := levelInForce_pendingHandover s
  have hlw : (waitingForBuild s).levelInForce = some (handoverLevel s) := by
    rw [← hl]
    exact levelInForce_congr rfl rfl rfl
  have hb : (waitingForBuild s).built (handoverLevel s) = s.built (handoverLevel s) :=
    built_congr hchan (State.work_of_calm hcalm) _
  rw [noticeConfirm_true hl]
  show (waitingForBuild s).judge = _
  unfold State.judge
  rw [hlw, show (waitingForBuild s).merger.conf = .stage1 from rfl]
  dsimp only
  rw [hb]
  rfl

theorem builtUp_holds (s : State) :
    (builtUp s).sup = { s.sup with ctx := some (handoverContext s), handover := true } ∧
    (builtUp s).merger.mode = .hold ∧ (builtUp s).calculator.record = stepZero s ∧ (builtUp s).store = s.store := by
  obtain ⟨hsup, -, hmode, hrec, -, hcalm⟩ := pendingHandover_holds s
  simp only [builtUp, waitingForBuild]
  exact ⟨hsup, hmode, hrec, State.store_of_calm hcalm⟩

/-! ### The four outcomes -/

/-- R97, R126: the build is waited for. -/
theorem beginHandover_waits (hb : s.built (handoverLevel s) = false) (hi : (stepZero s).insufficient = false) :
    s.beginHandover = waitingForBuild s := by
  obtain ⟨-, -, -, hrec, -⟩ := pendingHandover_holds s
  rw [beginHandover_eq, noticeConfirm_pendingHandover, hb]
  exact recordInHold_of_sufficient (s := waitingForBuild s) ((congrArg HoldResult.insufficient hrec).trans hi)

/-- R98: an insufficient record drops the handover at once. -/
theorem beginHandover_drops (hs : s.sup.state = .secured) (hb : s.built (handoverLevel s) = false)
    (hi : (stepZero s).insufficient = true) : s.beginHandover = (waitingForBuild s).dropHandover := by
  obtain ⟨hsup, -, -, hrec, -⟩ := pendingHandover_holds s
  rw [beginHandover_eq, noticeConfirm_pendingHandover, hb, if_neg Bool.false_ne_true,
    recordInHold_of_insufficient (s := waitingForBuild s) ((congrArg HoldResult.insufficient hrec).trans hi),
    securingNotice_of_secured (s := waitingForBuild s) ((congrArg Sup.state hsup).trans hs)]

/-- R98: HOLDING at once where the build stands already. -/
theorem beginHandover_hands (hs : s.sup.state = .secured) (hm : s.store.marker = false)
    (hb : s.built (handoverLevel s) = true) (hi : (stepZero s).insufficient = false) :
    s.beginHandover = (builtUp s).buildConfirmed := by
  obtain ⟨hsup, -, hrec, hstore⟩ := builtUp_holds s
  obtain ⟨-, -, -, hcalc⟩ := buildConfirmed_hands (s := builtUp s) ((congrArg Sup.state hsup).trans hs)
    (congrArg Sup.handover hsup) ((congrArg Store.marker hstore).trans hm)
  rw [beginHandover_eq, noticeConfirm_pendingHandover, hb, if_pos rfl,
    recordInHold_of_sufficient (by rw [hcalc, hrec, hi])]

/-- R88: and an insufficient record secures from there. -/
theorem beginHandover_secures (hs : s.sup.state = .secured) (hm : s.store.marker = false)
    (hb : s.built (handoverLevel s) = true) (hi : (stepZero s).insufficient = true) :
    s.beginHandover = (builtUp s).buildConfirmed.enterSecuring .insufficient := by
  obtain ⟨hsup, -, hrec, hstore⟩ := builtUp_holds s
  obtain ⟨hbsup, -, -, hcalc⟩ := buildConfirmed_hands (s := builtUp s) ((congrArg Sup.state hsup).trans hs)
    (congrArg Sup.handover hsup) ((congrArg Store.marker hstore).trans hm)
  rw [beginHandover_eq, noticeConfirm_pendingHandover, hb, if_pos rfl,
    recordInHold_of_insufficient (by rw [hcalc, hrec, hi]), securingNotice_of_hold (.inl (by rw [hbsup]))]

/-- What every outcome leaves of the context and the record (R80, R97). -/
structure HandoverMade (s t : State) : Prop where
  record : t.calculator.record = stepZero s
  context : ∃ c, t.sup.ctx = some c ∧ c.step = 0 ∧ c.uphill = headingOf s.gf ∧ c.reinforced = false ∧
    c.entryP = s.calculator.record.pHold

theorem beginHandover_made (hs : s.sup.state = .secured) (hm : s.store.marker = false) :
    HandoverMade s s.beginHandover := by
  obtain ⟨hsup, -, -, hrec, -⟩ := pendingHandover_holds s
  have hwait : (waitingForBuild s).sup = _ := hsup
  obtain ⟨hdsup, -, -, -, hdcalc, -⟩ := dropHandover_of_pending (s := waitingForBuild s)
    ((congrArg Sup.state hwait).trans hs) (congrArg Sup.handover hwait)
  obtain ⟨hbsup, -, hbrec, hbstore⟩ := builtUp_holds s
  obtain ⟨hcsup, -, -, hccalc⟩ := buildConfirmed_hands (s := builtUp s) ((congrArg Sup.state hbsup).trans hs)
    (congrArg Sup.handover hbsup) ((congrArg Store.marker hbstore).trans hm)
  have hcctx := (congrArg Sup.ctx hcsup).trans (congrArg (Option.map _) (congrArg Sup.ctx hbsup))
  cases hb : s.built (handoverLevel s) <;> cases hi : (stepZero s).insufficient
  · rw [beginHandover_waits hb hi]
    exact ⟨hrec, _, congrArg Sup.ctx hwait, rfl, rfl, rfl, rfl⟩
  · rw [beginHandover_drops hs hb hi]
    exact ⟨by rw [hdcalc, waitingForBuild, hrec], _, (congrArg Sup.ctx hdsup).trans (congrArg Sup.ctx hwait), rfl, rfl, rfl, rfl⟩
  · rw [beginHandover_hands hs hm hb hi]
    exact ⟨by rw [hccalc, hbrec], _, hcctx, rfl, rfl, rfl, rfl⟩
  · rw [beginHandover_secures hs hm hb hi]
    have hctx := (congrArg Sup.ctx (sup_enterSecuring (builtUp s).buildConfirmed .insufficient)).trans
      (congrArg (Option.map _) hcctx)
    exact ⟨by rw [calculator_enterSecuring, hccalc, hbrec], _, hctx, rfl, rfl, rfl, rfl⟩

end

end Sys2Proof.Machine.HoldSupervisor

namespace Sys2Proof.Machine.HoldSupervisor

open SignalRecords AxleChannels HoldCalculator

/-! The release request, its handover and what ends it, put together (R97, R98, R102). -/

section
variable {s : State}

/-- R127: the build, channel by channel. -/
theorem built_iff_usable (s : State) (level : Nat) : s.built level = true ↔
    (∃ d, s.channels.derived.usable.get d = true) ∧ ∀ d, s.channels.derived.usable.get d = true →
      level ≤ (s.channels.records.get d).pressure + s.work.settings.buildTolerance := by
  by_cases hne : s.usableList = []
  · have hnone : ∀ d, ¬s.channels.derived.usable.get d = true := fun d hd => by
      simpa [hne] using mem_usableList.2 hd
    constructor
    · intro hb
      simp [State.built, hne] at hb
    · rintro ⟨⟨d, hd⟩, -⟩
      exact absurd hd (hnone d)
  · obtain ⟨d, hd⟩ := List.exists_mem_of_ne_nil _ hne
    rw [built_iff hne]
    simp only [mem_usableList]
    exact ⟨fun h => ⟨⟨d, mem_usableList.1 hd⟩, h⟩, fun h => h.2⟩

/-- R97, R126: the handover that waits for its build. -/
theorem waitingForBuild_holds (s : State) :
    (waitingForBuild s).sup = { s.sup with ctx := some (handoverContext s), handover := true } ∧
    (waitingForBuild s).park = s.park ∧ (waitingForBuild s).merger.mode = .hold ∧
    (waitingForBuild s).merger.conf = .stage1 ∧
    (waitingForBuild s).merger.stage = some ⟨s.now, s.work.settings.buildStage1⟩ ∧
    (waitingForBuild s).merger.confirmLevel = handoverLevel s := by
  obtain ⟨hsup, hpark, hmode, -, -, hcalm⟩ := pendingHandover_holds s
  simp only [waitingForBuild, State.timer]
  refine ⟨hsup, hpark, hmode, trivial, ?_, trivial⟩
  rw [State.now_of_calm hcalm, State.work_of_calm hcalm]

/-- R98: and what an insufficient record leaves of it. -/
theorem dropped_holds (hs : s.sup.state = .secured) :
    (waitingForBuild s).dropHandover.sup.state = .secured ∧ (waitingForBuild s).dropHandover.sup.handover = false ∧
    (waitingForBuild s).dropHandover.park = s.park ∧ (waitingForBuild s).dropHandover.merger.mode = .none := by
  obtain ⟨hsup, hpark, -⟩ := waitingForBuild_holds s
  obtain ⟨hdsup, hdpark, hdmode, -⟩ := dropHandover_of_pending (s := waitingForBuild s) (by rw [hsup, hs]) (by rw [hsup])
  have hr : (waitingForBuild s).reinforced = false := by
    unfold State.reinforced
    rw [hsup]
    rfl
  rw [hdsup, hdpark, hdmode, hsup, hpark, hr]
  exact ⟨hs, rfl, rfl, rfl⟩

/-- R98, R137: and the build that stands already. -/
theorem handed_holds (hs : s.sup.state = .secured) (hm : s.store.marker = false) :
    (builtUp s).buildConfirmed.sup.state = .holding ∧ (builtUp s).buildConfirmed.sup.reason = .none ∧
    (builtUp s).buildConfirmed.sup.handover = false ∧ (builtUp s).buildConfirmed.park = ⟨false, true, .idle, none⟩ ∧
    (builtUp s).buildConfirmed.merger.mode = .hold := by
  obtain ⟨hsup, hmode, -, hstore⟩ := builtUp_holds s
  obtain ⟨hbsup, hbpark, hbmode, -⟩ := buildConfirmed_hands (s := builtUp s) (by rw [hsup, hs]) (by rw [hsup])
    (by rw [hstore, hm])
  rw [hbsup, hbpark, hbmode, hmode]
  exact ⟨rfl, rfl, rfl, rfl, rfl⟩

/-- R98, R102: KEY falls in SECURED. -/
theorem exec_keyFall_of_secured (hr : s.running = true) (hk : s.key = true) (hs : s.sup.state = .secured)
    (hh : s.sup.handover = true) (hp : s.path.testing = false) :
    ∃ t, exec .keyFall s = .next t ∧ t.key = false ∧ t.sup = { s.sup with handover := false } ∧ t.park = s.park ∧
      t.merger.mode = (if s.reinforced then .secure else .none) := by
  have he : exec .keyFall s = .next s.keyFell := by
    show execKeyFall s = _
    simp [execKeyFall, hk, hr]
  have hd := dropHandover_of_pending (s := { s with key := false }) hs hh
  have ht : s.keyFell = (State.dropHandover { s with key := false }).tendSleep := by
    show ((State.securingNotice { s with key := false } .keyOff).abortCheck .keyOff).tendSleep = _
    rw [securingNotice_of_secured (s := { s with key := false }) hs, abortCheck_of_idle]
    obtain ⟨-, -, -, -, -, hpath⟩ := hd
    rw [hpath]
    exact hp
  have hkey := State.key_of_calm (State.calm_dropHandover { s with key := false })
  obtain ⟨hsup, hpark, hmode, -⟩ := hd
  refine ⟨_, he, ?_⟩
  rw [ht, State.key_tendSleep, State.sup_tendSleep, State.park_tendSleep, State.merger_mode_tendSleep]
  exact ⟨hkey, hsup, hpark, hmode⟩

end

/-- Settles O41: the request by its conditions, the handover by its first judgement, and its ends. -/
theorem releaseIsHandedOver : Obligations.ReleaseIsHandedOver := by
  refine ⟨fun s hs => ⟨fun h => ?_, fun hh hk hd hb hm => ?_⟩, fun s hs hh hk hd hb hm => ?_, fun s r hs hh => ?_,
    fun s hr hk hs hh hp => exec_keyFall_of_secured hr hk hs hh hp, fun s c hs hh hc => ⟨fun hm => ?_, fun hm => ?_⟩⟩
  case refine_1 =>
    apply releaseRequest_of_untaken
    rw [Bool.eq_false_iff]
    intro hc
    obtain ⟨-, hh, hk, hd, hb⟩ := (releaseTaken_iff s).1 hc
    simp [hh, hk, hd, hb] at h
  case refine_2 =>
    have he := enterUnavailable_enters s.deassertPark .safeStart
    rw [releaseRequest_of_marker ((releaseTaken_iff s).2 ⟨hs, hh, hk, hd, hb⟩) hm]
    exact ⟨he.sup, he.park, he.mode, he.calm⟩
  case refine_3 =>
    intro t steep ready record level built
    have ht : t = _ := releaseRequest_unmarked ((releaseTaken_iff s).2 ⟨hs, hh, hk, hd, hb⟩) hm
    have hcalm : t.calm = s.calm := State.calm_releaseRequest s
    have hready := handoverReady_iff s
    refine ⟨fun hg hsh ha => ?_, fun hrd => ?_, fun hn => ?_⟩
    case refine_1 =>
      have hsteep : s.steep = false := Bool.eq_false_iff.2 fun h => hsh ((steep_iff s).1 h)
      rw [if_pos (by rw [hg, hsteep]; rfl)] at ht
      obtain ⟨hpark, hmode, hclear, hstanding⟩ := releaseShallow_enters (noEntry_of_shallow hsteep hb ha)
      rw [← ht] at hpark hmode hclear hstanding
      exact ⟨hpark, hmode, hcalm, hclear, hstanding⟩
    case refine_2 =>
      have hsteep : s.steep = true := (steep_iff s).2 hrd.1
      rw [if_neg (by simp [hsteep]), if_pos (hready.2 hrd)] at ht
      have hmade := beginHandover_made hs hm
      rw [← ht] at hmade
      have hbuilt : ∀ hv : record.valid = true, s.built (handoverLevel s) = true ↔ built := fun hv => by
        rw [handoverLevel_of_valid hv]
        exact built_iff_usable s _
      refine ⟨hmade.record, hmade.context, fun hv hnb => ?_, fun hv hyb hi => ?_, hcalm⟩
      · have hb' : s.built (handoverLevel s) = false := Bool.eq_false_iff.2 fun h => hnb ((hbuilt hv).1 h)
        refine ⟨fun hi => ?_, fun hi => ?_⟩
        · obtain ⟨hsup, hpark, hmode, hconf, hstage, hlevel⟩ := waitingForBuild_holds s
          rw [ht, beginHandover_waits hb' hi, hsup, hpark, hmode, hconf, hstage, hlevel]
          exact ⟨hs, rfl, rfl, rfl, rfl, rfl, rfl, rfl, handoverLevel_of_valid hv⟩
        · rw [ht, beginHandover_drops hs hb' hi]
          exact dropped_holds hs
      · rw [ht, beginHandover_hands hs hm ((hbuilt hv).2 hyb) hi]
        exact handed_holds hs hm
    case refine_3 =>
      rw [ht]
      rcases hn with hg | ⟨hst, hnr⟩
      · have hsteep : s.steep = false := by simp [State.steep, hg]
        have hnr : s.handoverReady = false := by simp [State.handoverReady, hsteep]
        simp [hg, hnr]
      · have hnr' : s.handoverReady = false := Bool.eq_false_iff.2 fun h => hnr (hready.1 h)
        simp [(steep_iff s).2 hst, hnr']
  case refine_4 =>
    obtain ⟨hsup, hpark, hmode, hcount, -⟩ := dropHandover_of_pending hs hh
    rw [securingNotice_of_secured hs]
    exact ⟨hsup, hpark, hmode, hcount, State.calm_dropHandover s⟩
  case refine_5 =>
    obtain ⟨hsup, hpark, -⟩ := buildConfirmed_hands hs hh hm
    rw [hsup, hpark, hc]
    exact ⟨rfl, rfl, rfl, rfl, rfl⟩
  case refine_6 =>
    have he := enterUnavailable_enters s.deassertPark .safeStart
    rw [buildConfirmed_marked hs hh hm]
    exact ⟨he.sup, he.park⟩

end Sys2Proof.Machine.HoldSupervisor

namespace Sys2Proof.Machine.HoldSupervisor

open SignalRecords AxleChannels HoldCalculator

/-! The commands on the store and the restart: how a command is answered, and the work each begins (R160, R161, R167
to R169). -/

/-! ### A command answered OK -/

section
variable {s : State}

/-- The state in which the responder judges a command that has just been handed to it (R156). -/
def commanded (s : State) (c : Command) : State := s.asked codeCommand 0#8 0#8 c.byte 0#32

/-- The request served and its reply at the tail of the queue (R156, R160). -/
def answering (t : State) (c : Command) (restart : Bool) : State :=
  { t with resp := { t.resp with
      requests := []
      replies := t.resp.replies ++
        [{ okReply t.work.settings.replyId codeCommand 0#8 0#8 c.byte 0#32 0#32 with restart := restart }] } }

theorem commandRow_serves (h : s.Serves) (c : Command) {t : State} {restart : Bool}
    (hj : (commanded s c).judgeCommand c 0#32 = ⟨t, .ok, 0#32, restart⟩) : s.commandRow c = answering t c restart := by
  have hr : (s.asked codeCommand 0#8 0#8 c.byte 0#32).judgeRequest ⟨true, codeCommand, 0#8, 0#8, c.byte, 0#32⟩ =
      ⟨t, .ok, 0#32, restart⟩ := by
    rw [← hj]
    cases c <;> rfl
  rw [State.commandRow, State.requestRow_serves s h]
  dsimp only
  rw [hr]
  rfl

/-- What an answered command leaves of the responder: `u` is the state it was judged in. -/
theorem answering_resp {t u : State} (c : Command) (restart : Bool) (hw : t.work = u.work)
    (hp : t.resp.replies = u.resp.replies) : (answering t c restart).resp.requests = [] ∧
    (answering t c restart).resp.replies = u.resp.replies ++
      [{ okReply u.work.settings.replyId codeCommand 0#8 0#8 c.byte 0#32 0#32 with restart := restart }] := by
  rw [answering, hp, hw]
  exact ⟨rfl, rfl⟩

/-- The calm view does not tell what the responder keeps apart from the rest of the state. -/
theorem calm_withResp {t u : State} (h : t.calm = u.calm) (r : Responder) :
    State.calm { t with resp := r } = State.calm { u with resp := r } :=
  congrArg (fun x : State => { x with resp := { r with cab := .empty, renew := false, period := none } }) h

end

/-! ### CLEAR_SAFE_START -/

theorem request_erase (st : Store) : st.request .erase =
    if st.op = .saving then { st with marker := false, pendingCell := .erase }
    else { st with marker := false, cell := false } := by
  cases h : st.op <;> simp [Store.request, CellOp.applied, h]

/-! ### RELOAD -/

section
variable {s : State}

/-- R99: with STORE the first condition the auto-check does not start outside STANDBY. -/
theorem testCheck_of_store {rest : List Reason} (hs : s.sup.state = .unavailable)
    (hr : s.unavailableReasons = .store :: rest) : s.testCheck = s := by
  refine testCheck_of_unmet (.inr ?_)
  unfold State.checkPreconditions
  rw [hs, hr]
  simp

/-- R82: STORE stands while a load runs. -/
theorem unavailableReasons_of_loading (h : s.store.op = .loading) : ∃ rest, s.unavailableReasons = .store :: rest := by
  unfold State.unavailableReasons
  rw [if_pos (by simp [h])]
  exact ⟨_, rfl⟩

/-- R83: STORE gives UNAVAILABLE. -/
theorem noticeConditions_of_loading (hs : s.sup.state = .unavailable ∨ s.sup.state = .standby)
    (h : s.store.op = .loading) : s.noticeConditions.sup.state = .unavailable ∧
    s.noticeConditions.sup.reason = .store ∧ s.noticeConditions.path = s.path := by
  obtain ⟨rest, hr⟩ := unavailableReasons_of_loading h
  have hkeeps : ∀ {t : State}, t.calm = s.calm → t.sup.state = .unavailable → t.testCheck = t := fun {t} ht hu => by
    obtain ⟨rest', hr'⟩ := unavailableReasons_of_loading (s := t) (by rw [State.store_of_calm ht, h])
    exact testCheck_of_store hu hr'
  unfold State.noticeConditions
  rcases hs with hs | hs <;> rw [hs, hr] <;> dsimp only
  · split
    next hreason => exact ⟨hs, hreason, rfl⟩
    next =>
      rw [hkeeps (State.calm_changeReason s _) (by rw [sup_changeReason, hs]), sup_changeReason]
      refine ⟨hs, rfl, ?_⟩
      unfold State.changeReason
      split <;> simp
  · have he := enterUnavailable_enters s .store
    rw [hkeeps he.calm (by rw [he.sup]), he.sup, he.path]
    exact ⟨rfl, rfl, rfl⟩

/-- The state of a RELOAD before its notice to the supervisor (R35, R37, R77, R114, R167). -/
def reloading (s : State) : State :=
  (State.startSignals { s with
    store := { s.store with op := .loading }, route := { s.route with state := .suspended },
    creep := Creep.start }).startCalculator

theorem beginReload_eq (s : State) : s.beginReload = (reloading s).noticeConditions.tendSleep := rfl

/-- R171: the sleep delay timer alone is tended. -/
theorem tendSleep_eq (s : State) : ∃ x, s.tendSleep = { s with sleepTimer := x } := by
  unfold State.tendSleep
  split
  · exact ⟨_, rfl⟩
  · exact ⟨_, rfl⟩

/-- R171: no sleep delay runs while the store is at work. -/
theorem sleepTimer_of_busy (h : s.store.op ≠ .idle) : s.tendSleep.sleepTimer = none := by
  have hr : s.sleepReady = false := by simp [State.sleepReady, h]
  simp [State.tendSleep, hr]

theorem not_busy (h : s.busy = false) : (s.sup.state = .unavailable ∨ s.sup.state = .standby) ∧ s.store.op = .idle := by
  cases hs : s.sup.state <;> simp_all [State.busy]

/-- R167: what a RELOAD leaves. -/
theorem beginReload_holds (h : s.busy = false) :
    s.beginReload.calm = (reloading s).calm ∧ s.beginReload.sup.state = .unavailable ∧
    s.beginReload.sup.reason = .store ∧ s.beginReload.path = s.path ∧ s.beginReload.sleepTimer = none := by
  obtain ⟨hstate, -⟩ := not_busy h
  have hop : (reloading s).store.op = .loading := rfl
  have hcalm := State.calm_noticeConditions (reloading s)
  obtain ⟨hs, hr, hp⟩ := noticeConditions_of_loading (s := reloading s) hstate hop
  rw [beginReload_eq, State.calm_tendSleep, State.sup_tendSleep, State.path_tendSleep]
  refine ⟨hcalm, hs, hr, hp, sleepTimer_of_busy ?_⟩
  rw [State.store_of_calm hcalm, hop]
  decide

end

/-- Settles O56: each command by its judgement and what it begins. -/
theorem storeCommandsBeginTheirWork : Obligations.StoreCommandsBeginTheirWork := by
  intro s h answered
  refine ⟨?_, fun ho => ?_, fun hb hp => ?_, ?_⟩
  case refine_1 =>
    let u := commanded s .clearSafeStart
    have hcalm : (u.requestMarker .erase).calm = State.calm { u with store := s.store.request .erase } :=
      State.calm_requestMarker u .erase
    have hstore := State.store_of_calm hcalm
    have hresp := answering_resp (t := u.requestMarker .erase) (u := s) .clearSafeStart false
      (State.work_of_calm hcalm :) (State.resp_replies_of_calm hcalm :)
    refine ⟨_, congrArg Host.Outcome.next (commandRow_serves h .clearSafeStart rfl), hresp,
      (State.work_of_calm hcalm :), (hstore.trans (request_erase s.store) :), fun hs => ?_, ?_⟩
    · have hk := requestMarker_of_isHold (s := u) (isHold_of_parked hs) .erase
      exact ⟨(congrArg State.sup hk :), (congrArg State.park hk :)⟩
    · have ht := calm_withResp hcalm (answering (u.requestMarker .erase) .clearSafeStart false).resp
      rw [← hstore] at ht
      exact ht
  case refine_2 =>
    let u := commanded s .save
    have hj : u.judgeCommand .save 0#32 = ⟨u.beginSave, .ok, 0#32, false⟩ := if_pos ho
    obtain ⟨x, hx⟩ := tendSleep_eq { u with store := { u.store with op := .saving, copy := some u.work } }
    have ht : u.beginSave = _ := hx
    have hresp := answering_resp (t := u.beginSave) (u := s) .save false (by rw [ht]; rfl) (by rw [ht]; rfl)
    refine ⟨_, congrArg Host.Outcome.next (commandRow_serves h .save hj), hresp, ?_, ?_, ?_⟩
    · rw [ht]; rfl
    · exact sleepTimer_of_busy (s := { u with store := { u.store with op := .saving, copy := some u.work } }) nofun
    · rw [ht]; rfl
  case refine_3 =>
    let u := commanded s .reload
    have hj : u.judgeCommand .reload 0#32 = ⟨u.beginReload, .ok, 0#32, false⟩ := by
      have hb' : u.busy = false := hb
      have hp' : u.parkAppliedFresh = true := hp
      show u.judgeReload 0#32 = _
      unfold State.judgeReload
      rw [hb', hp']
      rfl
    obtain ⟨hcalm, hstate, hreason, hpath, hsleep⟩ := beginReload_holds (s := u) hb
    have hsignals := State.signals_of_calm hcalm
    have hresp := answering_resp (t := u.beginReload) (u := s) .reload false (State.work_of_calm hcalm :)
      (State.resp_replies_of_calm hcalm :)
    refine ⟨_, congrArg Host.Outcome.next (commandRow_serves h .reload hj), hresp, (State.store_of_calm hcalm :),
      (State.route_of_calm hcalm :), hstate, hreason, (congrArg Signals.window hsignals :),
      (congrArg Signals.keptSign hsignals :), (congrArg Signals.reversal hsignals :), fun k => ?_, ?_,
      (State.calculator_payloadUsed_of_calm hcalm :), hsleep, (State.work_of_calm hcalm :),
      (State.merger_driver_of_calm hcalm :), hpath, (State.portV_of_calm hcalm :), (State.portB_of_calm hcalm :),
      (State.vToB_of_calm hcalm :), (State.bToV_of_calm hcalm :)⟩
    · show (u.beginReload.signals.records.get k).age = .lost
      rw [hsignals]
      exact (record_startMeasures u k).1
    · show u.beginReload.creep.watchedCount = 0
      rw [State.creep_of_calm hcalm]
      rfl
  case refine_4 =>
    let u := commanded s .restart
    cases hr : s.resp.restartPending with
    | true =>
      have hj : u.judgeCommand .restart 0#32 = ⟨u, .ok, 0#32, false⟩ := if_pos hr
      refine ⟨_, congrArg Host.Outcome.next (commandRow_serves h .restart hj), ⟨rfl, rfl⟩, hr, nofun, fun _ => rfl, rfl⟩
    | false =>
      have hj : u.judgeCommand .restart 0#32 = ⟨{ u with resp := { u.resp with
          restartPending := true, restartTimer := s.timer restartDelay } }, .ok, 0#32, true⟩ :=
        if_neg (by rw [show u.resp.restartPending = false from hr]; exact Bool.false_ne_true)
      exact ⟨_, congrArg Host.Outcome.next (commandRow_serves h .restart hj), ⟨rfl, rfl⟩, rfl, fun _ => rfl, nofun, rfl⟩

end Sys2Proof.Machine.HoldSupervisor

namespace Sys2Proof.Machine.HoldSupervisor

open SignalRecords AxleChannels HoldCalculator

/-! The start of a path check run and its aborts (R99, R100, R143, R144, R145, R150). -/

section
variable {s : State}

/-! ### The supervisor's leaving of CHECKING -/

/-- R84: what alone keeps the conditions of entry to HOLDING from being met. -/
def NoBraking (s : State) : Prop := s.driverBraking = false ∨ s.parkApplied = true

theorem driverBraking_of_inputs {t : State} (hd : t.merger.driver = s.merger.driver) (hw : t.work = s.work) :
    t.driverBraking = s.driverBraking := by
  rw [State.driverBraking, State.driverBraking, driverDemand_congr hd, hw]

theorem noBraking_of_inputs {t : State} (hd : t.merger.driver = s.merger.driver) (hw : t.work = s.work)
    (hs : t.signals = s.signals) (hn : NoBraking s) : NoBraking t :=
  hn.imp (driverBraking_of_inputs hd hw).trans fun hp => by
    rw [State.parkApplied, effective_congr hs]
    exact hp

theorem noBraking_of_calm {t : State} (h : t.calm = s.calm) (hn : NoBraking s) : NoBraking t :=
  noBraking_of_inputs (State.merger_driver_of_calm h) (State.work_of_calm h) (State.signals_of_calm h) hn

/-- R100: with no unavailable condition the report leads to STANDBY, where it ends. -/
theorem sup_checkReport_clear (hs : s.sup.state = .checking) (hr : s.unavailableReasons = []) (hn : NoBraking s) :
    s.checkReport.sup = ⟨.standby, .none, none, false, s.sup.autoPending⟩ := by
  have he := enterStandbyCore_enters s .none
  have hc : s.checkReport = (s.enterStandbyCore .none).testHold := by
    unfold State.checkReport
    rw [if_pos hs, hr]
  have hm : (State.workDriveTest (s.enterStandbyCore .none) (headingOf (s.enterStandbyCore .none).gf)).entryMet = false :=
    entryMet_eq_false (noBraking_of_calm (s := s) he.calm hn)
  rw [hc, testHold_of_unmet (by rw [he.sup]) hm]
  exact he.sup

/-- R100: with one standing it leads to UNAVAILABLE. -/
theorem sup_checkReport_standing {r : Reason} {rest : List Reason} (hs : s.sup.state = .checking)
    (hr : s.unavailableReasons = r :: rest) :
    s.checkReport.sup = ⟨.unavailable, r, none, false, s.sup.autoPending⟩ := by
  have hc : s.checkReport = s.enterUnavailable r := by
    unfold State.checkReport
    rw [if_pos hs, hr]
  rw [hc, (enterUnavailable_enters s r).sup]

/-- R81: the report leaves no hold context. -/
theorem ctx_checkReport (hs : s.sup.state = .checking) (hn : NoBraking s) : s.checkReport.sup.ctx = none := by
  cases hr : s.unavailableReasons with
  | nil => rw [sup_checkReport_clear hs hr hn]
  | cons r rest => rw [sup_checkReport_standing hs hr]

/-! ### An abort -/

/-- A state in which a run stands as in `s`, whatever else has changed. -/
structure RunStands (s u : State) : Prop where
  path : u.path = s.path
  channels : u.channels = s.channels
  sup : u.sup = s.sup
  reasons : u.unavailableReasons = s.unavailableReasons
  noBraking : NoBraking u

theorem abortCheck_eq (h : s.path.testing = true) (c : AbortCause) : s.abortCheck c = (s.stopRun (.aborted c)).checkReport :=
  if_pos h

/-- R150: an abort of a run in CHECKING. -/
theorem abortCheck_aborts {u : State} (ht : s.path.testing = true) (hs : s.sup.state = .checking) (hu : RunStands s u)
    (c : AbortCause) : State.AbortsCheck s (u.abortCheck c) c := by
  have hk := keepsChecks_checkReport (u.stopRun (.aborted c))
  have hus : (u.stopRun (.aborted c)).sup.state = .checking := (congrArg Sup.state hu.sup).trans hs
  have hreasons : (u.stopRun (.aborted c)).unavailableReasons = s.unavailableReasons := hu.reasons
  rw [abortCheck_eq (by rw [hu.path, ht])]
  constructor
  case idle | channel | level | timer | lastRun => rw [hk.path]; rfl
  case results => rw [hk.path]; exact (congrArg PathCheck.results hu.path :)
  case checks =>
    intro d
    rw [hk.check]
    exact congrArg (fun x : Channels => (x.records.get d).check) hu.channels
  case clear =>
    intro hr
    rw [sup_checkReport_clear hus (hreasons.trans hr) hu.noBraking]
    exact ⟨rfl, rfl⟩
  case standing =>
    intro r rest hr
    rw [sup_checkReport_standing hus (hreasons.trans hr)]
    exact ⟨rfl, rfl⟩

/-! ### The start of a run -/

theorem begun_holds (s : State) : (begun s).sup = { s.sup with state := .checking, reason := .none, autoPending := false } ∧
    (begun s).path = { s.path with testing := true, chan := none, level := none, settle := 0 } ∧
    (begun s).merger.mode = .check ∧ (begun s).channels = s.channels ∧ (begun s).calm = s.calm := by
  have hns := no_handover_of_ne_secured
    (s := State.move { s with sup := { s.sup with autoPending := false } } .checking .none) (by simp)
  simp only [begun]
  refine ⟨?_, ?_, State.merger_mode_handMode _ _ _ hns, ?_, ?_⟩
  · rw [State.sup_handMode _ _ _ hns, State.sup_move]
  · rw [State.path_handMode _ _ _ hns, State.path_move]
  · rw [State.channels_handMode _ _ _ hns, State.channels_move]
  · exact (State.calm_handMode _ _ _).trans (State.calm_move _ _ _)

/-- R144: the channels fit to test. -/
theorem candidate_congr {t : State} (hc : t.channels = s.channels) (hm : t.calm = s.calm) : t.candidate = s.candidate := by
  funext d
  have hl : t.lifted d = s.lifted d := by
    simp only [State.lifted, State.liftable, State.liftRaised, hc, State.work_of_calm hm,
      effective_congr (State.signals_of_calm hm)]
  rw [State.candidate, State.candidate, hc, hl]

/-- R99, R144, R145: the run starts on its first channel at LOW. -/
theorem enterChecking_starts {c : Chan} (h : (channelsAbove none).find? s.candidate = some c) :
    StartsLevel (begun s) s.enterChecking c .low ∧ s.enterChecking.merger.mode = .check := by
  obtain ⟨-, -, hmode, hchan, hcalm⟩ := begun_holds s
  have hf : (channelsAbove none).find? (begun s).candidate = some c := by rw [candidate_congr hchan hcalm, h]
  rw [enterChecking_eq, chooseChannel_some hf]
  exact ⟨startLevel_starts _ _ _, (State.merger_mode_makeForComponent _).trans hmode⟩

end

end Sys2Proof.Machine.HoldSupervisor

namespace Sys2Proof.Machine.HoldSupervisor

open SignalRecords AxleChannels HoldCalculator

/-! The causes that abort a path check run: a request, a driver demand frame, PARK_STATUS and a wheel (R107, R115, R150). -/

section
variable {s : State}

/-! ### A driver demand frame -/

/-- R9, R115: a frame handed to the merger. -/
theorem exec_frameReceived_merge {p : Port} {f : Frame} (h : s.HandsTo p f .merge) :
    exec (.frameReceived p f) s = .next ((s.afterTaking p).demandTaken f) := by
  obtain ⟨e, he, ha, hx, -⟩ := h.entry
  have hm : (s.afterTaking p).matchEntry p f = some e := by cases p <;> exact he
  have hr : (s.afterTaking p).route.state = .inForce := by cases p <;> exact h.route
  have hn : (s.afterTaking p).extractAll f [] = s.afterTaking p := by
    unfold State.extractAll; split <;> rfl
  have ho : (s.afterTaking p).offerPart e p f = s.afterTaking p := by
    simp only [State.offerPart, ha]
  show execFrameReceived p f s = _
  simp only [execFrameReceived, h.running, h.onBus, Bool.and_self, if_true, setPort_taken h.onBus, State.classify, hr, hm,
    State.matched, h.data, ho, hx, hn, State.handPart, ha]
  rfl

/-- R115: a demand above 0 in the frame is one in the driver demand record. -/
theorem exists_frameDemand {f : Frame} (h : ∃ i < 4, byteAt f.data i ≠ 0#8) : ∃ c, 0 < frameDemand f c := by
  obtain ⟨i, hi, hne⟩ := h
  have hpos : ∀ j, byteAt f.data j ≠ 0#8 → 0 < 4 * (byteAt f.data j).toNat := fun j hj => by
    have hz : (byteAt f.data j).toNat ≠ 0 := fun hc => hj (BitVec.eq_of_toNat_eq hc)
    omega
  interval_cases i
  · exact ⟨.c1, hpos _ hne⟩
  · exact ⟨.c2, hpos _ hne⟩
  · exact ⟨.c3, hpos _ hne⟩
  · exact ⟨.c4, hpos _ hne⟩

/-- R115: the state with the record of a driver demand frame, its demand frame made. -/
def withDemand (s : State) (f : Frame) : State := (s.setDriver (s.driverRecord f)).makeDemand

theorem testEntry_of_checking (h : s.sup.state = .checking) : s.testEntry = s := by
  unfold State.testEntry
  rw [h]

/-- R150: with a demand above 0 the frame aborts the run. -/
theorem demandTaken_aborts {f : Frame} (hd : f.dlc.val = 8) (hs : s.sup.state = .checking)
    (hb : ∃ i < 4, byteAt f.data i ≠ 0#8) : s.demandTaken f = (withDemand s f).abortCheck .driverDemand := by
  obtain ⟨c, hc⟩ := exists_frameDemand hb
  have hdriver : (withDemand s f).merger.driver = s.driverRecord f := State.merger_driver_makeDemand _
  have hdem : (withDemand s f).driverDemand c = frameDemand f c := by
    rw [State.driverDemand, hdriver]
    exact PerChan.get_build _ c
  have hall : c ∈ Chan.all := by cases c <;> decide
  have hany : (Chan.all.any fun d => 0 < (withDemand s f).driverDemand d) = true :=
    List.any_eq_true.2 ⟨c, hall, by rw [hdem]; exact decide_eq_true hc⟩
  have hsup : (withDemand s f).sup.state = .checking := by rw [withDemand, State.sup_makeDemand]; exact hs
  unfold State.demandTaken
  rw [if_pos hd]
  show (withDemand s f).testEntry.pathDemand = _
  rw [testEntry_of_checking hsup]
  exact if_pos hany

/-! ### The run as it stands before an abort -/

/-- A change of signals, time, creep monitor or driver demand alone leaves the run as it stands. -/
theorem runStands_of_sameTables {u : State} (hp : u.path = s.path) (hc : u.channels = s.channels) (hs : u.sup = s.sup)
    (hstore : u.store = s.store) (hroute : u.route = s.route) (hsig : u.signals.state = s.signals.state)
    (hcalc : u.calculator.state = s.calculator.state) (hn : NoBraking u) : RunStands s u := by
  refine ⟨hp, hc, hs, ?_, hn⟩
  unfold State.unavailableReasons State.configBad
  rw [hstore, hroute, hsig, hcalc, hc]

theorem runStands_withCreep (creep : Creep) (hn : NoBraking s) : RunStands s { s with creep := creep } := by
  apply runStands_of_sameTables
  case hn => exact noBraking_of_inputs rfl rfl rfl hn
  all_goals rfl

theorem runStands_afterLoss (k : Fin 20) (x : Running) (hb : s.driverBraking = false) : RunStands s (afterLoss s k x) := by
  apply runStands_of_sameTables
  case hn => exact .inl ((driverBraking_of_inputs rfl rfl).trans hb)
  all_goals rfl

theorem runStands_self (hn : NoBraking s) : RunStands s s := ⟨rfl, rfl, rfl, rfl, hn⟩

/-- R3, R115: a driver demand frame that has been taken leaves the run as it stands. -/
theorem runStands_withDemand (p : Port) (f : Frame) (hp : s.parkApplied = true) :
    RunStands s (withDemand (s.afterTaking p) f) := by
  have hcalm : (withDemand (s.afterTaking p) f).calm = ((s.afterTaking p).setDriver _).calm := State.calm_makeDemand _
  have hsig : (withDemand (s.afterTaking p) f).signals = s.signals := by
    rw [State.signals_of_calm hcalm]
    cases p <;> rfl
  apply runStands_of_sameTables
  case hp => rw [withDemand, State.path_makeDemand]; cases p <;> rfl
  case hc => rw [withDemand, State.channels_makeDemand]; cases p <;> rfl
  case hs => rw [withDemand, State.sup_makeDemand]; cases p <;> rfl
  case hstore => rw [State.store_of_calm hcalm]; cases p <;> rfl
  case hroute => rw [State.route_of_calm hcalm]; cases p <;> rfl
  case hsig => rw [hsig]
  case hcalc => rw [State.calculator_state_of_calm hcalm]; cases p <;> rfl
  case hn =>
    refine .inr ?_
    rw [State.parkApplied, effective_congr hsig]
    exact hp

/-! ### PARK_STATUS -/

theorem parkRenewalHold_of_checking (h : s.sup.state = .checking) (x : Int) : s.parkRenewalHold x = s := by
  unfold State.parkRenewalHold
  rw [h]

/-- R150: a renewal other than applied aborts the run. -/
theorem parkRenewal_of_checking (h : s.sup.state = .checking) {x : Int} (hx : x ≠ 1) :
    s.parkRenewal x = s.abortCheck .park := by
  rw [parkRenewal_unapplied hx, parkRenewalHold_of_checking h, testEntry_of_checking h]

/-- R134: outside SECURING one showing applied does not reach the path check. -/
theorem path_parkRenewal_applied (h : s.sup.state = .checking) : (s.parkRenewal 1).path = s.path := by
  have hc : (confirmed s).springConfirmed = confirmed s := if_neg (by simp [confirmed, h])
  have ht : s.springApplied = confirmed s ∨ s.springApplied = s := by
    unfold State.springApplied
    cases s.park.conf
    case waiting | overdue => exact .inl hc
    case idle | confirmed => exact .inr rfl
  rw [parkRenewal_applied, parkRenewalHold_of_checking h, testEntry_of_checking h]
  rcases ht with ht | ht
  · rw [ht]; rfl
  · rw [ht]

/-! ### A wheel -/

/-- R105: the increment modulo the counter's range. -/
theorem increment_eq {length last count : Nat} (hl : last < 2 ^ length) (hc : count < 2 ^ length) :
    increment length last count = if last ≤ count then count - last else count + 2 ^ length - last := by
  unfold increment
  rw [Nat.mod_eq_of_lt hl]
  split
  next h =>
    rw [show count + (2 ^ length - last) = count - last + 2 ^ length by omega, Nat.add_mod_right,
      Nat.mod_eq_of_lt (by omega)]
  next h =>
    rw [Nat.mod_eq_of_lt (by omega)]
    omega

/-- R107: in CHECKING the rest condition worked afresh brings no test. -/
theorem recheckRest_of_checking (h : s.sup.state = .checking) :
    s.recheckRest = { s with creep := { s.creep with restHolds := restCondition s.creep.wheels } } := by
  unfold State.recheckRest
  dsimp only
  rw [testEntry_of_checking (by exact h), ite_self]

/-- R107, R150: a wheel's movement in CHECKING, which no hold context is left to count. -/
theorem movement_of_checking (h : s.sup.state = .checking) (ht : s.path.testing = true) (hn : NoBraking s) (w : Wheel)
    (count inc : Nat) (code : DirCode) :
    ∃ creep, s.movement w count inc code = State.abortCheck { s with creep := creep } .movement := by
  let u := s.setTrack w ((s.creep.wheels.get w).moved count s.now s.work.settings.restTime)
  refine ⟨{ u.creep with restHolds := restCondition u.creep.wheels }, ?_⟩
  show State.accumulate (u.recheckRest.testEntry.abortCheck .movement) w inc code = _
  rw [recheckRest_of_checking (s := u) h, testEntry_of_checking (by exact h)]
  generalize hv : ({ u with creep := { u.creep with restHolds := restCondition u.creep.wheels } } : State) = v
  have hctx : (v.abortCheck .movement).sup.ctx = none := by
    rw [abortCheck_eq (by rw [← hv]; exact ht)]
    exact ctx_checkReport (by rw [← hv]; exact h) (by rw [← hv]; exact hn)
  have hacc : (v.abortCheck .movement).accumulate w inc code = v.abortCheck .movement := by
    unfold State.accumulate
    rw [hctx]
  rw [hacc, ← hv]
  rfl

end

end Sys2Proof.Machine.HoldSupervisor

namespace Sys2Proof.Machine.HoldSupervisor

open SignalRecords AxleChannels HoldCalculator

/-! The path check started and aborted, put together (R99, R100, R150, R160). -/

section
variable {s : State}

/-- R99, R160: START_CHECK. -/
theorem startCheck_answered (h : s.Serves) (hp : s.checkPreconditions = true) : ∃ t, exec .startCheck s = .next t ∧
    t.resp.replies = s.resp.replies ++ [okReply s.work.settings.replyId codeCommand 0#8 0#8 1#8 0#32 0#32] ∧
    (∀ c, (channelsAbove none).find? s.candidate = some c →
      t.sup.state = .checking ∧ t.sup.reason = .none ∧ t.path.testing = true ∧ t.path.chan = some c ∧
      t.path.level = some .low ∧ t.path.settle = 0 ∧
      t.path.timer = some ⟨s.now, s.work.settings.levelTimeout⟩ ∧ t.merger.mode = .check ∧
      t.path.results = s.path.results) ∧
    t.calm = ({ s with resp := t.resp } : State).calm := by
  let u := commanded s .startCheck
  have hj : u.judgeCommand .startCheck 0#32 = ⟨u.enterChecking, .ok, 0#32, false⟩ := by
    have hp' : u.checkPreconditions = true := hp
    have hstate : u.sup.state = .unavailable ∨ u.sup.state = .standby := by
      cases hs : u.sup.state <;> simp_all [State.checkPreconditions]
    show u.judgeStartCheck 0#32 = _
    unfold State.judgeStartCheck
    rcases hstate with hs | hs <;> (rw [hs]; exact if_pos hp')
  have hcalm := State.calm_enterChecking u
  have hresp := answering_resp (t := u.enterChecking) (u := s) .startCheck false (State.work_of_calm hcalm :)
    (State.resp_replies_of_calm hcalm :)
  refine ⟨_, congrArg Host.Outcome.next (commandRow_serves h .startCheck hj), hresp.2, fun c hc => ?_, ?_⟩
  · obtain ⟨hstarts, hmode⟩ := enterChecking_starts (s := u) hc
    obtain ⟨hsup, hpath, -, -, hbcalm⟩ := begun_holds u
    have hpath' : u.enterChecking.path = _ := hstarts.path
    have hsup' : u.enterChecking.sup = _ := hstarts.sup
    simp only [answering]
    rw [hpath', hsup', hsup, hpath, hmode, State.now_of_calm hbcalm, State.work_of_calm hbcalm]
    exact ⟨rfl, rfl, rfl, rfl, rfl, rfl, rfl, rfl, rfl⟩
  · exact calm_withResp (t := u.enterChecking) (u := u) hcalm _

/-- R150, R160: ABORT_CHECK. -/
theorem abortCheck_answered (h : s.Serves) (ht : s.path.testing = true) (hs : s.sup.state = .checking)
    (hb : s.driverBraking = false) : ∃ t, exec .abortCheck s = .next t ∧
    t.resp.replies = s.resp.replies ++ [okReply s.work.settings.replyId codeCommand 0#8 0#8 2#8 0#32 0#32] ∧
    t.path.testing = false ∧ t.path.lastRun = .aborted .request ∧ t.path.results = s.path.results ∧
    (∀ c, (t.channels.records.get c).check = (s.channels.records.get c).check) ∧
    (s.unavailableReasons = [] → t.sup.state = .standby ∧ t.sup.reason = .none) ∧
    (∀ r rest, s.unavailableReasons = r :: rest → t.sup.state = .unavailable ∧ t.sup.reason = r) ∧
    t.calm = ({ s with resp := t.resp } : State).calm := by
  let u := commanded s .abortCheck
  have hj : u.judgeCommand .abortCheck 0#32 = ⟨u.abortCheck .request, .ok, 0#32, false⟩ := if_pos ht
  have hcalm := State.calm_abortCheck u .request
  have hresp := answering_resp (t := u.abortCheck .request) (u := s) .abortCheck false (State.work_of_calm hcalm :)
    (State.resp_replies_of_calm hcalm :)
  have ha := abortCheck_aborts (s := u) ht hs (runStands_self (.inl hb)) .request
  exact ⟨_, congrArg Host.Outcome.next (commandRow_serves h .abortCheck hj), hresp.2, ha.idle, ha.lastRun, ha.results,
    ha.checks, ha.clear, ha.standing, calm_withResp (t := u.abortCheck .request) (u := u) hcalm _⟩

/-- R107, R150: a wheel's movement. -/
theorem wheelSample_aborts {w : Wheel} {count last : Nat} (code : DirCode) (ht : s.path.testing = true)
    (hs : s.sup.state = .checking) (hn : NoBraking s) (hlast : (s.creep.wheels.get w).last = some last)
    (hpos : increment (s.wheelLength w) last count ≠ 0)
    (hle : increment (s.wheelLength w) last count ≤ 2 ^ (s.wheelLength w - 1)) :
    State.AbortsCheck s (s.wheelSample w count code) .movement := by
  have he : s.wheelSample w count code = s.movement w count (increment (s.wheelLength w) last count) code := by
    unfold State.wheelSample
    rw [hlast]
    dsimp only
    rw [if_neg hpos, if_pos hle]
  obtain ⟨creep, hm⟩ := movement_of_checking hs ht hn w count (increment (s.wheelLength w) last count) code
  rw [he, hm]
  exact abortCheck_aborts ht hs (runStands_withCreep creep hn) _

/-- R31, R150: LOSS_TIMER_EXPIRY of PARK_STATUS. -/
theorem parkLoss_aborts {k : Fin 20} {x : Running} (ht : s.path.testing = true) (hs : s.sup.state = .checking)
    (hb : s.driverBraking = false) (ha : s.awake = true) (hk : s.signals.bindings.get k = .parkStatus)
    (hx : (s.signals.records.get k).loss = some x) (hl : (s.signals.records.get k).age ≠ .lost) :
    ∃ t, exec (.lossTimerExpiry k) s = .next t ∧ State.AbortsCheck s t .park := by
  refine ⟨_, exec_lossTimerExpiry_of_present ha hx hl, ?_⟩
  rw [hk]
  show State.AbortsCheck s ((afterLoss s k x).testEntry.abortCheck .park) .park
  rw [testEntry_of_checking (by exact hs)]
  exact abortCheck_aborts ht hs (runStands_afterLoss k x hb) _

end

/-- Settles O55: the two commands, and each of the other causes of an abort in CHECKING. -/
theorem checkStartsAndAbortsOnRequest : Obligations.CheckStartsAndAbortsOnRequest := by
  refine ⟨fun s h => ⟨startCheck_answered h, abortCheck_answered h⟩, fun s p f h hd ht hs hp hb => ?_,
    fun s k x ht hs hb => ⟨fun status hne => ?_, path_parkRenewal_applied hs, fun ha hk hx hl => ?_⟩,
    fun s w count last code ht hs hb hlast hll hcl _ => ?_⟩
  · refine ⟨_, exec_frameReceived_merge h, ?_⟩
    rw [demandTaken_aborts hd (by cases p <;> exact hs) hb]
    exact abortCheck_aborts ht hs (runStands_withDemand p f hp) _
  · rw [parkRenewal_of_checking hs hne]
    exact abortCheck_aborts ht hs (runStands_self (.inl hb)) _
  · exact parkLoss_aborts ht hs hb ha hk hx hl
  · rw [← increment_eq hll hcl]
    intro inc hpos hle
    exact wheelSample_aborts code ht hs (.inl hb) hlast (by omega) hle

end Sys2Proof.Machine.HoldSupervisor

namespace Sys2Proof.Machine.CreepMonitor

open SignalRecords HoldSupervisor

/-! The rest condition and a wheel's sample: first, movement or glitch (R105, R106, R107). -/

/-! ### The rest condition -/

theorem mem_all (w : Wheel) : w ∈ Wheel.all := by cases w <;> decide

/-- R107: two watched wheels or more are two different wheels that are watched. -/
theorem two_le_countWatched_iff (t : PerWheel Track) : 2 ≤ countWatched t ↔
    ∃ u v, u ≠ v ∧ (t.get u).watched = true ∧ (t.get v).watched = true := by
  have hnodup : (Wheel.all.filter fun w => (t.get w).watched).Nodup := List.Nodup.filter _ (by decide)
  rw [countWatched, ← List.toFinset_card_of_nodup hnodup]
  refine Finset.one_lt_card_iff.trans (exists₂_congr fun u v => ?_)
  simp only [List.mem_toFinset, List.mem_filter, mem_all, true_and]
  tauto

/-- R107: at least two wheels are watched, and each watched one is still. -/
theorem restCondition_iff (t : PerWheel Track) : restCondition t = true ↔
    (∃ u v, u ≠ v ∧ (t.get u).watched = true ∧ (t.get v).watched = true) ∧
      ∀ v, (t.get v).watched = true → (t.get v).still = true := by
  have hstill : (Wheel.all.all fun w => !(t.get w).watched || (t.get w).still) = true ↔
      ∀ v, (t.get v).watched = true → (t.get v).still = true := by
    simp only [List.all_eq_true, mem_all, true_implies, Bool.or_eq_true, Bool.not_eq_true']
    simp only [imp_iff_not_or, Bool.not_eq_true]
  rw [restCondition, Bool.and_eq_true, decide_eq_true_iff, two_le_countWatched_iff, hstill]

/-- R107: a record that moves has its wheel's still marker clear, so a watched wheel's ends the rest condition. -/
theorem restCondition_of_watched_moving {t : PerWheel Track} {w : Wheel} (hw : (t.get w).watched = true)
    (hs : (t.get w).still = false) : restCondition t = false := by
  rw [← Bool.not_eq_true, restCondition_iff]
  rintro ⟨-, hstill⟩
  exact Bool.false_ne_true (hs.symm.trans (hstill w hw))

/-- R107: a record of a wheel that is not watched plays no part. -/
theorem restCondition_set_unwatched {t : PerWheel Track} {w : Wheel} {x : Track} (hw : (t.get w).watched = false)
    (hx : x.watched = false) : restCondition (t.set w x) = restCondition t := by
  have hwatched (v : Wheel) : ((t.set w x).get v).watched = (t.get v).watched := by
    by_cases h : v = w
    · rw [h, PerWheel.get_set_self, hx, hw]
    · rw [PerWheel.get_set_of_ne t x h]
  have hstill (v : Wheel) (h : (t.get v).watched = true) : ((t.set w x).get v).still = (t.get v).still := by
    rw [PerWheel.get_set_of_ne t x (by rintro rfl; rw [hw] at h; cases h)]
  rw [Bool.eq_iff_iff, restCondition_iff, restCondition_iff]
  simp only [hwatched]
  exact and_congr_right fun _ => forall_congr' fun v => imp_congr_right fun h => by rw [hstill v h]

/-! ### The rest condition worked afresh -/

/-- R107: whatever test the report brings, the tracking stands and the condition is the one worked. -/
theorem creep_recheckRest (s : State) :
    s.recheckRest.creep = { s.creep with restHolds := restCondition s.creep.wheels } := by
  unfold State.recheckRest
  dsimp only
  split
  · exact State.creep_of_calm (State.calm_testEntry _)
  · rfl

/-- R107: no rest report is made of a condition that fails or has held before. -/
theorem recheckRest_of_no_report {s : State} (h : restCondition s.creep.wheels = true → s.creep.restHolds = true) :
    s.recheckRest = { s with creep := { s.creep with restHolds := restCondition s.creep.wheels } } := by
  unfold State.recheckRest
  refine if_neg ?_
  rw [Bool.and_eq_true, Bool.not_eq_true', Bool.eq_false_iff]
  exact fun hc => hc.2 (h hc.1)

/-- R85, R107: a hold state does not heed the rest report. -/
theorem recheckRest_of_isHold {s : State} (h : s.sup.state.isHold = true) :
    s.recheckRest = { s with creep := { s.creep with restHolds := restCondition s.creep.wheels } } := by
  unfold State.recheckRest
  dsimp only
  rw [testEntry_of_isHold (by exact h), ite_self]

/-! ### The rest timer -/

/-- R106: REST_TIMER_EXPIRY while the timer runs. -/
theorem exec_restTimerExpiry_of_running {s : State} {w : Wheel} {x : Running} (ha : s.awake = true)
    (hr : (s.creep.wheels.get w).rest = .running x) : exec (.restTimerExpiry w) s =
      .next ((s.reach x).setTrack w (s.creep.wheels.get w).rested).recheckRest := by
  show execRestTimerExpiry w s = _
  rw [execRestTimerExpiry, expiring_of_awake ha, hr]
  rfl

/-- Settles O29: the record has rested, and the rest condition is worked from all of them. -/
theorem restTimerMakesTheWheelStill : Obligations.RestTimerMakesTheWheelStill := by
  intro s w x ha hr
  refine ⟨_, exec_restTimerExpiry_of_running ha hr, ?_⟩
  rw [creep_recheckRest]
  refine ⟨PerWheel.get_set_self _ _ _, fun v hv => PerWheel.get_set_of_ne _ _ hv, restCondition_iff _, ?_⟩
  rw [State.quiet_recheckRest]
  rfl

/-! ### The four outcomes of a sample -/

section
variable {s : State} {w : Wheel} {count last : Nat}

/-- R105: a wheel without a last count takes its first sample. -/
theorem wheelSample_first (code : DirCode) (h : (s.creep.wheels.get w).last = none) :
    s.wheelSample w count code = s.firstSample w count := by
  unfold State.wheelSample
  rw [h]

/-- R105: a later sample by its increment. -/
theorem wheelSample_later (code : DirCode) (h : (s.creep.wheels.get w).last = some last) :
    s.wheelSample w count code =
      if increment (s.wheelLength w) last count = 0 then s
      else if increment (s.wheelLength w) last count ≤ 2 ^ (s.wheelLength w - 1) then
        s.movement w count (increment (s.wheelLength w) last count) code
      else s.glitch w count := by
  unfold State.wheelSample
  rw [h]

/-- R105: an increment of at most half the counter's range is a movement. -/
theorem wheelSample_movement (code : DirCode) (h : (s.creep.wheels.get w).last = some last)
    (hpos : 1 ≤ increment (s.wheelLength w) last count)
    (hle : increment (s.wheelLength w) last count ≤ 2 ^ (s.wheelLength w - 1)) :
    s.wheelSample w count code = s.movement w count (increment (s.wheelLength w) last count) code := by
  rw [wheelSample_later code h, if_neg (Nat.ne_of_gt hpos), if_pos hle]

/-- R105: a greater increment is a glitch. -/
theorem wheelSample_glitch (code : DirCode) (h : (s.creep.wheels.get w).last = some last)
    (hlt : 2 ^ (s.wheelLength w - 1) < increment (s.wheelLength w) last count) :
    s.wheelSample w count code = s.glitch w count := by
  rw [wheelSample_later code h, if_neg (Nat.ne_of_gt (Nat.zero_lt_of_lt hlt)), if_neg (Nat.not_le.2 hlt)]

end

/-! ### What a first sample leaves -/

section
variable {s : State} {w : Wheel} {count : Nat}

/-- R105, R106: the tracking records. -/
theorem wheels_firstSample : (s.firstSample w count).creep.wheels =
    s.creep.wheels.set w ((s.creep.wheels.get w).moved count s.now s.work.settings.restTime) := by
  rw [State.firstSample, creep_recheckRest]
  rfl

theorem quiet_firstSample : (s.firstSample w count).quiet = s.quiet := by
  rw [State.firstSample, State.quiet_recheckRest]
  rfl

/-- R107: a first sample makes no rest report where the wheel is watched, whose still marker is now clear, or the rest
condition stands as last worked; so nothing is counted. -/
theorem counters_firstSample
    (h : (s.creep.wheels.get w).watched = true ∨ s.creep.restHolds = restCondition s.creep.wheels) :
    (s.firstSample w count).counters = s.counters := by
  let moved := (s.creep.wheels.get w).moved count s.now s.work.settings.restTime
  rw [State.firstSample, recheckRest_of_no_report]
  · rfl
  · show restCondition (s.creep.wheels.set w moved) = true → s.creep.restHolds = true
    intro hrest
    cases hw : (s.creep.wheels.get w).watched with
    | true =>
      have hend : restCondition (s.creep.wheels.set w moved) = false :=
        restCondition_of_watched_moving (w := w) (by rw [PerWheel.get_set_self]; exact hw)
          (by rw [PerWheel.get_set_self]; rfl)
      rw [hend] at hrest
      cases hrest
    | false =>
      rw [restCondition_set_unwatched (x := moved) hw hw] at hrest
      rw [h.resolve_left (by rw [hw]; decide), hrest]

end

/-! ### What a movement leaves -/

section
variable {s : State} {w : Wheel} {inc : Nat} {code : DirCode}

/-- R110, R111: an accumulator, and the notices of creep, are no part of the calm view. -/
theorem calm_accumulate : (s.accumulate w inc code).calm = s.calm := by
  unfold State.accumulate
  split
  · rfl
  · split
    · exact State.calm_mapContext _ _
    · dsimp only
      split
      · rw [State.calm_creepReport, State.calm_mapContext]
      · exact State.calm_mapContext _ _
    · rfl

/-- R105, R106, R107: what follows the tracking record's move leaves it so, and the quiet view with it. -/
theorem calm_movement (count : Nat) : (s.movement w count inc code).calm =
    (s.setTrack w ((s.creep.wheels.get w).moved count s.now s.work.settings.restTime)).recheckRest.calm := by
  rw [State.movement, calm_accumulate, State.calm_abortCheck, State.calm_testEntry]

theorem track_movement (count : Nat) : (s.movement w count inc code).creep.wheels.get w =
    (s.creep.wheels.get w).moved count s.now s.work.settings.restTime := by
  rw [State.creep_of_calm (calm_movement count), creep_recheckRest]
  exact PerWheel.get_set_self _ _ _

theorem quiet_movement (count : Nat) : (s.movement w count inc code).quiet = s.quiet := by
  rw [State.quiet_of_calm (calm_movement count), State.quiet_recheckRest]
  rfl

/-- R107, R110: in a hold state the tests on the rest condition and the path check stand by, and a movement comes to its
accumulator. -/
theorem movement_of_isHold (h : s.sup.state.isHold = true) (ht : s.path.testing = false) (count : Nat) :
    let tracks := s.creep.wheels.set w ((s.creep.wheels.get w).moved count s.now s.work.settings.restTime)
    s.movement w count inc code =
      State.accumulate { s with creep := ⟨tracks, restCondition tracks, s.creep.watchedCount⟩ } w inc code := by
  intro tracks
  rw [State.movement, recheckRest_of_isHold (by exact h), testEntry_of_isHold (by exact h),
    abortCheck_of_idle (by exact ht)]
  rfl

end

/-- Settles O30: the first sample, and a later one by its increment. -/
theorem wheelSampleIsMovementOrGlitch : Obligations.WheelSampleIsMovementOrGlitch := by
  constructor
  · intro s w count code hlast
    rw [wheelSample_first code hlast]
    refine ⟨wheels_firstSample, quiet_firstSample, counters_firstSample, fun h => ?_⟩
    rw [State.firstSample, recheckRest_of_isHold (by exact h)]
    rfl
  · intro s w count last code hlast hl hc _
    rw [← increment_eq hl hc]
    refine ⟨fun h => ?_, fun hpos hle => ?_, fun hlt => ?_⟩
    · rw [wheelSample_later code hlast, if_pos h]
    · rw [wheelSample_movement code hlast hpos hle]
      exact ⟨track_movement count, quiet_movement count⟩
    · rw [wheelSample_glitch code hlast hlt]
      exact ⟨PerWheel.get_set_self _ _ _, rfl⟩

end Sys2Proof.Machine.CreepMonitor

namespace Sys2Proof.Machine.CreepMonitor

open SignalRecords HoldSupervisor

/-! A movement added to its accumulator, up to creep (R110, R111). -/

/-! ### The accumulator chosen -/

/-- R110: the direction code is the context's uphill direction. -/
theorem accumulatorFor_eq_up_iff {code : DirCode} {uphill : Option Heading} {state : SupState} :
    accumulatorFor code uphill state = .up ↔
      (code = .forward ∧ uphill = some .forward) ∨ (code = .backward ∧ uphill = some .backward) := by
  cases code with
  | none => by_cases h : state = .releasing <;> simp [accumulatorFor, h]
  | unknown => simp [accumulatorFor]
  | forward | backward => rcases uphill with _ | _ | _ <;> simp [accumulatorFor]

/-- R110: a wheel without a direction code counts for nothing in RELEASING. -/
theorem accumulatorFor_eq_none_iff {code : DirCode} {uphill : Option Heading} {state : SupState} :
    accumulatorFor code uphill state = .none ↔ code = .none ∧ state = .releasing := by
  cases code with
  | none => by_cases h : state = .releasing <;> simp [accumulatorFor, h]
  | unknown => simp [accumulatorFor]
  | forward | backward => rcases uphill with _ | _ | _ <;> simp [accumulatorFor]

/-- R110: every other movement is downhill. -/
theorem accumulatorFor_eq_down {code : DirCode} {uphill : Option Heading} {state : SupState}
    (hu : accumulatorFor code uphill state ≠ .up) (hn : accumulatorFor code uphill state ≠ .none) :
    accumulatorFor code uphill state = .down := by
  cases h : accumulatorFor code uphill state with
  | down => rfl
  | up => exact absurd h hu
  | none => exact absurd h hn

/-! ### The accumulator moved -/

section
variable {s : State} {c : Context}

theorem mapContext_of_ctx (hc : s.sup.ctx = some c) (f : Context → Context) :
    s.mapContext f = { s with sup := { s.sup with ctx := some (f c) } } := by
  rw [State.mapContext, hc]
  rfl

theorem mapWheel_of_entry {w : Wheel} {e : WheelEntry} (he : c.wheels.get w = some e) (f : WheelEntry → WheelEntry) :
    c.mapWheel w f = { c with wheels := c.wheels.set w (some (f e)) } := by
  rw [Context.mapWheel, he]
  rfl

/-- R111: the entries at creep. -/
theorem rereference_eq (tracks : PerWheel Track) : c.rereference tracks = { c with
    wheels := PerWheel.build fun v =>
      if (c.wheels.get v).isSome then some ⟨(tracks.get v).last, 0, 0⟩ else none } := by
  unfold Context.rereference
  dsimp only
  congr 2
  funext v
  cases c.wheels.get v <;> rfl

variable {w : Wheel} {e : WheelEntry} {inc : Nat} {code : DirCode}

/-- R110: the uphill accumulator. -/
theorem accumulate_up (hc : s.sup.ctx = some c) (he : c.wheels.get w = some e)
    (h : accumulatorFor code c.uphill s.sup.state = .up) : s.accumulate w inc code =
      { s with sup := { s.sup with ctx := some { c with
          wheels := c.wheels.set w (some { e with up := min (e.up + inc) 65535 }) } } } := by
  unfold State.accumulate
  simp only [hc, he, h]
  rw [mapContext_of_ctx hc, mapWheel_of_entry he]
  rfl

/-- R110: neither accumulator. -/
theorem accumulate_none (hc : s.sup.ctx = some c) (he : c.wheels.get w = some e)
    (h : accumulatorFor code c.uphill s.sup.state = .none) : s.accumulate w inc code = s := by
  unfold State.accumulate
  simp only [hc, he, h]

/-- R110, R111: the downhill accumulator, and creep at the threshold. -/
theorem accumulate_down (hc : s.sup.ctx = some c) (he : c.wheels.get w = some e)
    (h : accumulatorFor code c.uphill s.sup.state = .down) : s.accumulate w inc code =
      if s.work.settings.creepThreshold ≤ min (e.down + inc) 65535 then
        (s.mapContext (·.rereference s.creep.wheels)).creepReport
      else { s with sup := { s.sup with ctx := some { c with
        wheels := c.wheels.set w (some { e with down := min (e.down + inc) 65535 }) } } } := by
  unfold State.accumulate
  simp only [hc, he, h]
  rw [mapContext_of_ctx hc fun c => c.mapWheel w _, mapWheel_of_entry he]
  rfl

end

/-- Settles O32: the accumulator chosen and moved, and a sample that comes to it. -/
theorem movementAccumulatesToCreep : Obligations.MovementAccumulatesToCreep := by
  constructor
  · intro s c w e inc code hc he uphill uncounted total entries
    have hdown (hu : ¬uphill) (hn : ¬uncounted) : accumulatorFor code c.uphill s.sup.state = .down :=
      accumulatorFor_eq_down (mt accumulatorFor_eq_up_iff.1 hu) (mt accumulatorFor_eq_none_iff.1 hn)
    refine ⟨fun hu => accumulate_up hc he (accumulatorFor_eq_up_iff.2 hu),
      fun hn => accumulate_none hc he (accumulatorFor_eq_none_iff.2 hn), fun hu hn hlt => ?_, fun hu hn hle => ?_⟩
    · rw [accumulate_down hc he (hdown hu hn), if_neg (Nat.not_le.2 hlt)]
    · rw [accumulate_down hc he (hdown hu hn), if_pos hle, mapContext_of_ctx hc, rereference_eq]
  · intro s w count last code hlast hl hc _ hs ht
    rw [← increment_eq hl hc]
    intro inc tracks hpos hle
    rw [wheelSample_movement code hlast hpos hle]
    exact movement_of_isHold hs ht count

end Sys2Proof.Machine.CreepMonitor

namespace Sys2Proof.Machine.DemandMerger

open SignalRecords

/-! Demand slots: the slot a frame made is placed in (R122), and the expiry of a slot's discard timer (R124). -/

/-! ### The slot chosen -/

theorem eq_or_eq_other (n k : SlotName) : k = n ∨ k = n.other := by cases n <;> cases k <;> decide

section
variable {m : Merger} {n : SlotName}

/-- R122 step 1: an EMPTY slot is free, A of two. -/
theorem freeSlot_of_empty (h : (m.slot n).state = .empty) (ho : (m.slot n.other).state ≠ .empty ∨ n = .a) :
    m.freeSlot = some n := by
  unfold Merger.freeSlot
  cases n with
  | a =>
    have hempty : m.slotA.state = .empty := h
    rw [hempty]
  | b =>
    have hempty : m.slotB.state = .empty := h
    have hfull : m.slotA.state ≠ .empty := ho.resolve_right (by decide)
    rw [hempty]
    cases hother : m.slotA.state with
    | empty => exact absurd hother hfull
    | loaded | sending | done => rfl

/-- R122 step 1: a DONE slot is free, where the other is LOADED or SENDING. -/
theorem freeSlot_of_done (h : (m.slot n).state = .done) (he : (m.slot n.other).state ≠ .empty)
    (hd : (m.slot n.other).state ≠ .done) : m.freeSlot = some n := by
  unfold Merger.freeSlot
  cases n with
  | a =>
    have hdone : m.slotA.state = .done := h
    rw [hdone]
    cases hother : m.slotB.state with
    | empty => exact absurd hother he
    | done => exact absurd hother hd
    | loaded | sending => rfl
  | b =>
    have hdone : m.slotB.state = .done := h
    rw [hdone]
    cases hother : m.slotA.state with
    | empty => exact absurd hother he
    | done => exact absurd hother hd
    | loaded | sending => rfl

/-- R122 step 1: the OLDER of two DONE slots. -/
theorem freeSlot_of_older (h : (m.slot n).state = .done) (hd : (m.slot n.other).state = .done)
    (ho : (m.slot n).order = some .older) (hn : (m.slot n.other).order = some .newer) : m.freeSlot = some n := by
  cases n <;> simp_all [Merger.freeSlot, Merger.slot, SlotName.other]

/-- R122: no slot is free exactly where each is LOADED or SENDING. -/
theorem freeSlot_eq_none_iff :
    m.freeSlot = none ↔ ∀ n, (m.slot n).state = .loaded ∨ (m.slot n).state = .sending := by
  have hboth : (∀ n, (m.slot n).state = .loaded ∨ (m.slot n).state = .sending) ↔
      (m.slotA.state = .loaded ∨ m.slotA.state = .sending) ∧ (m.slotB.state = .loaded ∨ m.slotB.state = .sending) :=
    ⟨fun h => ⟨h .a, h .b⟩, fun h n => by cases n <;> [exact h.1; exact h.2]⟩
  rw [hboth]
  unfold Merger.freeSlot
  cases m.slotA.state <;> cases m.slotB.state <;> simp
  split <;> simp

/-- R122 step 2: the one LOADED slot beside a SENDING one is replaced. -/
theorem replaceSlot_of_sending (h : (m.slot n).state = .loaded) (ho : (m.slot n.other).state = .sending) :
    m.replaceSlot = some n := by
  cases n <;> simp_all [Merger.replaceSlot, Merger.slot, SlotName.other]

/-- R122 step 2: the NEWER of two LOADED slots is replaced. -/
theorem replaceSlot_of_newer (h : (m.slot n).state = .loaded) (hl : (m.slot n.other).state = .loaded)
    (hn : (m.slot n).order = some .newer) (ho : (m.slot n.other).order = some .older) : m.replaceSlot = some n := by
  cases n <;> simp_all [Merger.replaceSlot, Merger.slot, SlotName.other]

/-- R122 step 2: with a LOADED slot there is one to replace, itself LOADED. -/
theorem exists_replaceSlot (h : (m.slot n).state = .loaded) :
    ∃ k, m.replaceSlot = some k ∧ (m.slot k).state = .loaded := by
  have hloaded : m.slotA.state = .loaded ∨ m.slotB.state = .loaded := by
    cases n <;> [exact .inl h; exact .inr h]
  unfold Merger.replaceSlot
  split
  next ha hb => split <;> [exact ⟨.a, rfl, ha⟩; exact ⟨.b, rfl, hb⟩]
  next ha _ => exact ⟨.a, rfl, ha⟩
  next hb _ => exact ⟨.b, rfl, hb⟩
  next ha hb _ => exact (hloaded.elim ha hb).elim

end

/-! ### The frame placed -/

section
variable {m : Merger} {n : SlotName} (f : Frame) (d : Timer)

theorem slot_load_self : (m.load n f d).slot n = ⟨.loaded, none, some f, some .newer, d⟩ := by
  unfold Merger.load
  dsimp only
  split <;> cases n <;> rfl

/-- R122 step 1: the other slot's frame becomes OLDER. -/
theorem slot_load_other : (m.load n f d).slot n.other = { m.slot n.other with
    order := if (m.slot n.other).frame.isSome then some .older else (m.slot n.other).order } := by
  unfold Merger.load
  dsimp only
  split
  · exact Merger.slot_setSlot_self _ _ _
  · exact Merger.slot_setSlot_other _ _ _

theorem place_of_freeSlot (h : m.freeSlot = some n) : m.place f d = m.load n f d := by
  rw [Merger.place, h]

theorem place_of_replaceSlot (hf : m.freeSlot = none) (h : m.replaceSlot = some n) :
    m.place f d = m.setSlot n { m.slot n with frame := some f, discard := d } := by
  rw [Merger.place, hf]
  dsimp only
  rw [h]

/-- R122: a frame finds its slot unless both are SENDING, and is LOADED there with its discard timer. -/
theorem exists_slot_place (h : ∃ n, (m.slot n).state ≠ .sending) : ∃ n, ((m.place f d).slot n).state = .loaded ∧
    ((m.place f d).slot n).frame = some f ∧ ((m.place f d).slot n).discard = d := by
  cases hfree : m.freeSlot with
  | some n =>
    rw [place_of_freeSlot f d hfree]
    refine ⟨n, ?_⟩
    rw [slot_load_self]
    exact ⟨rfl, rfl, rfl⟩
  | none =>
    obtain ⟨n, hn⟩ := h
    obtain ⟨k, hk, hloaded⟩ := exists_replaceSlot ((freeSlot_eq_none_iff.1 hfree n).resolve_right hn)
    rw [place_of_replaceSlot f d hfree hk]
    refine ⟨k, ?_⟩
    rw [Merger.slot_setSlot_self]
    exact ⟨hloaded, rfl, rfl⟩

end

/-! ### The discard timer -/

/-- R124: SLOT_DISCARD_EXPIRY of a LOADED slot. -/
theorem exec_slotDiscardExpiry_of_loaded {s : State} {n : SlotName} {x : Running} (ha : s.awake = true)
    (hl : (s.merger.slot n).state = .loaded) (hx : (s.merger.slot n).discard = some x) :
    exec (.slotDiscardExpiry n) s =
      .next ({ s.reach x with merger := s.merger.setSlot n Slot.start }.count .slotDiscards) := by
  show execSlotDiscardExpiry n s = _
  simp only [execSlotDiscardExpiry, expiring_of_awake ha, hx, hl]

/-- Settles O44: the slot chosen, free or replaced, and the discard timer's expiry. -/
theorem frameIsPlacedInASlotOrDiscarded : Obligations.FrameIsPlacedInASlotOrDiscarded := by
  refine ⟨fun m f d n => ⟨fun h => ?_, ?_⟩, fun s n x ha hl hx => exec_slotDiscardExpiry_of_loaded ha hl hx⟩
  · have hfree : m.freeSlot = some n := by
      rcases h with ⟨hempty, hother⟩ | ⟨hdone, hempty, hother⟩ | ⟨hdone, hother, holder, hnewer⟩
      · exact freeSlot_of_empty hempty hother
      · exact freeSlot_of_done hdone hempty hother
      · exact freeSlot_of_older hdone hother holder hnewer
    rw [place_of_freeSlot f d hfree]
    exact ⟨slot_load_self f d, slot_load_other f d⟩
  · rintro ⟨hloaded, h⟩
    have hfree : m.freeSlot = none := by
      have hother : (m.slot n.other).state = .loaded ∨ (m.slot n.other).state = .sending :=
        h.symm.imp (fun hl => hl.1) id
      refine freeSlot_eq_none_iff.2 fun k => ?_
      obtain rfl | rfl := eq_or_eq_other n k
      · exact .inl hloaded
      · exact hother
    have hreplace : m.replaceSlot = some n := by
      rcases h with hsending | ⟨hother, hnewer, holder⟩
      · exact replaceSlot_of_sending hloaded hsending
      · exact replaceSlot_of_newer hloaded hother hnewer holder
    rw [place_of_replaceSlot f d hfree hreplace]
    exact ⟨Merger.slot_setSlot_self _ _ _, Merger.slot_setSlot_other _ _ _⟩

end Sys2Proof.Machine.DemandMerger

namespace Sys2Proof.Machine.DemandMerger

open SignalRecords

/-! A demand frame made at the refresh timer's expiry (R117, R120, R121), and the ageing of the driver demand record
(R116). -/

/-! ### The frame made -/

/-- R122: the two slots are not both SENDING, as Port B has one frame in attempt. -/
theorem exists_slot_not_sending {s : State} (hp : s.powered = true) (h : s.Slotted) :
    ∃ n, (s.merger.slot n).state ≠ .sending := by
  by_cases ha : (s.merger.slot .a).state = .sending
  · refine ⟨.b, fun hb => ?_⟩
    obtain ⟨f, hf⟩ := (h.slots hp .a).sending.1 ha
    obtain ⟨g, hg⟩ := (h.slots hp .b).sending.1 hb
    simp [hf] at hg
  · exact ⟨.a, ha⟩

theorem powered_of_awake {s : State} (h : s.awake = true) : s.powered = true := by
  simp only [State.awake, Bool.and_eq_true] at h
  exact h.1

/-- R117, R120, R121: in a hold state a frame is made, placed and counted, and the refresh timer restarts. -/
theorem makeDemand_of_isHold {s : State} {id : CanId} (hs : s.sup.state.isHold = true) (hid : s.demandId = some id) :
    s.makeDemand = { s with merger :=
      { s.merger.place (s.demandFrame id) (s.timer s.work.settings.slotDiscardTime) with
        rolling := s.merger.rolling + 1#4
        lastComponent := PerChan.build s.component
        refresh := s.timer s.work.settings.refreshInterval } } := by
  simp only [State.makeDemand, hid, State.restartRefresh]
  rw [if_pos hs]
  rfl

/-- The state in which the refresh timer `x` has ended, and no frame is made yet. -/
abbrev refreshed (s : State) (x : Running) : State :=
  { s.reach x with merger := { s.merger with refresh := none } }

/-- R120: REFRESH_TIMER_EXPIRY in a hold state. -/
theorem exec_refreshTimerExpiry_of_isHold {s : State} {x : Running} (ha : s.awake = true)
    (hx : s.merger.refresh = some x) (hs : s.sup.state.isHold = true) :
    exec .refreshTimerExpiry s = .next (refreshed s x).makeDemand := by
  show execRefreshTimerExpiry s = _
  simp only [execRefreshTimerExpiry, expiring_of_awake ha, hx]
  rw [if_pos hs]

/-- Settles O43: the frame made by the expiry, its slot, and what stands. -/
theorem refreshMakesADemandFrame : Obligations.RefreshMakesADemandFrame := by
  intro s x id ha hslots hx hs hid
  have hfrom : ∃ n, ((refreshed s x).merger.slot n).state ≠ .sending := by
    obtain ⟨n, hn⟩ := exists_slot_not_sending (powered_of_awake ha) hslots
    exact ⟨n, by cases n <;> exact hn⟩
  refine ⟨_, exec_refreshTimerExpiry_of_isHold ha hx hs, ?_⟩
  rw [makeDemand_of_isHold (s := refreshed s x) hs hid]
  obtain ⟨n, hstate, hframe, hdiscard⟩ := exists_slot_place ((refreshed s x).demandFrame id)
    ((refreshed s x).timer s.work.settings.slotDiscardTime) hfrom
  refine ⟨rfl, rfl, ⟨n, ?_, ?_, ?_⟩, Merger.driver_place _ _ _, Merger.control_place _ _ _, Merger.mode_place _ _ _,
    conf_place _ _ _, rfl⟩
  · cases n <;> exact hstate
  · cases n <;> exact hframe
  · cases n <;> exact hdiscard

/-! ### The driver demand record -/

section
variable {s : State} {x : Running}

/-- R116: a changed driver demand record stands through the notices of it. -/
theorem driver_noticeDemand (s : State) : s.noticeDemand.merger.driver = s.merger.driver :=
  State.merger_driver_of_calm (s.calm_noticeDemand)

/-- R116: DRIVER_DEMAND_STALE_EXPIRY of a FRESH record. -/
theorem exec_driverDemandStaleExpiry_of_fresh (ha : s.awake = true) (hx : s.merger.driver.stale = some x)
    (hf : s.merger.driver.age = .fresh) : exec .driverDemandStaleExpiry s =
      .next ((s.reach x).setDriver { s.merger.driver with age := .held, stale := none }).noticeDemand := by
  show execDriverDemandStaleExpiry s = _
  simp only [execDriverDemandStaleExpiry, expiring_of_awake ha, hx, hf]

/-- R116: DRIVER_DEMAND_LOSS_EXPIRY of a FRESH or HELD record. -/
theorem exec_driverDemandLossExpiry_of_present (ha : s.awake = true) (hx : s.merger.driver.loss = some x)
    (hl : s.merger.driver.age ≠ .lost) : exec .driverDemandLossExpiry s =
      .next ((s.reach x).setDriver { s.merger.driver with age := .lost, stale := none, loss := none }).noticeDemand := by
  show execDriverDemandLossExpiry s = _
  simp only [execDriverDemandLossExpiry, expiring_of_awake ha, hx]
  cases hage : s.merger.driver.age with
  | lost => exact absurd hage hl
  | fresh | held => rfl

/-- R116: the demands of a HELD record are in effect as those of a FRESH one. -/
theorem driverDemand_of_held {t : State} {stale : Timer} (hf : s.merger.driver.age = .fresh)
    (ht : t.merger.driver = { s.merger.driver with age := .held, stale := stale }) (c : Chan) :
    t.driverDemand c = s.driverDemand c := by
  simp only [State.driverDemand, ht, hf]

/-- R116: a LOST record takes part with 0. -/
theorem driverDemand_of_lost (h : s.merger.driver.age = .lost) (c : Chan) : s.driverDemand c = 0 := by
  simp only [State.driverDemand, h]

end

/-- Settles O45: the two expiries, and the demands in effect after each. -/
theorem driverDemandExpiriesAgeTheRecord : Obligations.DriverDemandExpiriesAgeTheRecord := by
  intro s x ha
  constructor
  · intro hx hf
    have hrecord := driver_noticeDemand ((s.reach x).setDriver { s.merger.driver with age := .held, stale := none })
    exact ⟨_, exec_driverDemandStaleExpiry_of_fresh ha hx hf, hrecord, driverDemand_of_held hf hrecord,
      State.calm_noticeDemand _⟩
  · intro hx hl
    have hrecord :=
      driver_noticeDemand ((s.reach x).setDriver { s.merger.driver with age := .lost, stale := none, loss := none })
    exact ⟨_, exec_driverDemandLossExpiry_of_present ha hx hl, hrecord,
      driverDemand_of_lost (congrArg DriverDemand.age hrecord), State.calm_noticeDemand _⟩

end Sys2Proof.Machine.DemandMerger

namespace Sys2Proof.Machine.Reset

open HoldSupervisor

/-! The state after reset meets the laws of the supervisor, the ranges, and the laws of slots and attempts (R131, R140,
R170). -/

/-- R131, R170: POWER_ON_RESET of the reset state is that state again. -/
theorem powerOn_reset : State.reset.powerOn = State.reset := rfl

/-- R131, R140: reset is the power-on start of a part with a blank store, so its start is under way. -/
theorem lawful_reset : State.reset.Lawful := powerOn_reset ▸ (ruled_powerOn State.reset).lawful

/-- R3, R4, R6: a port at a start has all its counts at 0. -/
theorem PortCtl.bounded_start : PortCtl.start.Bounded where
  txErr := Nat.zero_le _
  rxErr := Nat.zero_le _
  recovery := (by decide : 0 < recoveryLimit)

/-- Every queue, the window and the settle count are empty at reset. -/
theorem bounded_reset : State.reset.Bounded where
  portV := PortCtl.bounded_start
  portB := PortCtl.bounded_start
  vToB := Nat.zero_le _
  bToV := Nat.zero_le _
  control := Nat.zero_le _
  requests := Nat.zero_le _
  replies := Nat.zero_le _
  window := Nat.zero_le _
  settle := Nat.zero_le _

/-- R122, R130: an EMPTY slot meets its law when Port B has no frame in attempt. -/
theorem Merger.slotLaw_of_start {m : Merger} {n : SlotName} (h : m.slot n = Slot.start) : m.SlotLaw n none where
  held := by simp [h, Slot.start]
  ordered := by simp [h, Slot.start]
  sending := by simp [h, Slot.start]
  same := nofun

/-- R122, R130: both slots are EMPTY at reset, and neither port has a frame in attempt. -/
theorem slotted_reset : State.reset.Slotted where
  slots _ n := Merger.slotLaw_of_start (by cases n <;> rfl)
  orders _ := nofun
  sourceV := nofun
  sourceB := nofun

/-- Settles O60: the laws of a power-on start, the empty queues and counts, the EMPTY slots. -/
theorem resetKeepsTheLaws : Obligations.ResetKeepsTheLaws := ⟨lawful_reset, bounded_reset, slotted_reset⟩

end Sys2Proof.Machine.Reset

namespace Sys2Proof.Machine.ManagementResponder

open SignalRecords HoldCalculator

/-! What the responder's queues hold is read by no other block: a notice, a write or a command works the same on two
states that differ in waiting requests and replies alone (R155, R156). -/

/-- The state with other requests and replies waiting. -/
def withQueues (s : State) (requests : List Frame) (replies : List Reply) : State :=
  { s with resp := { s.resp with requests := requests, replies := replies } }

/-- The second state is the first with these requests and replies waiting. -/
def Alike (q : List Frame) (p : List Reply) (s t : State) : Prop := t = withQueues s q p

section
variable (s : State) (q : List Frame) (p : List Reply)

/-! ### What is read alike -/

theorem sup_withQueues : (withQueues s q p).sup = s.sup := rfl
theorem merger_withQueues : (withQueues s q p).merger = s.merger := rfl
theorem calculator_withQueues : (withQueues s q p).calculator = s.calculator := rfl
theorem channels_withQueues : (withQueues s q p).channels = s.channels := rfl
theorem signals_withQueues : (withQueues s q p).signals = s.signals := rfl
theorem creep_withQueues : (withQueues s q p).creep = s.creep := rfl
theorem path_withQueues : (withQueues s q p).path = s.path := rfl
theorem store_withQueues : (withQueues s q p).store = s.store := rfl
theorem work_withQueues : (withQueues s q p).work = s.work := rfl
theorem cab_withQueues : (withQueues s q p).resp.cab = s.resp.cab := rfl
theorem restartPending_withQueues : (withQueues s q p).resp.restartPending = s.resp.restartPending := rfl
theorem sleepReady_withQueues : (withQueues s q p).sleepReady = s.sleepReady := rfl
theorem demandId_withQueues : (withQueues s q p).demandId = s.demandId := rfl
theorem component_withQueues : (withQueues s q p).component = s.component := funext fun _ => rfl
theorem levelInForce_withQueues : (withQueues s q p).levelInForce = s.levelInForce := rfl
theorem built_withQueues (level : Nat) : (withQueues s q p).built level = s.built level := rfl
theorem unavailableReasons_withQueues : (withQueues s q p).unavailableReasons = s.unavailableReasons := rfl
theorem configBad_withQueues : (withQueues s q p).configBad = s.configBad := rfl
theorem candidate_withQueues : (withQueues s q p).candidate = s.candidate := rfl
theorem look_withQueues (c : Chan) : (withQueues s q p).look c = s.look c := rfl
theorem reinforced_withQueues : (withQueues s q p).reinforced = s.reinforced := rfl
theorem checkPreconditions_withQueues : (withQueues s q p).checkPreconditions = s.checkPreconditions := rfl
theorem entryMet_withQueues : (withQueues s q p).entryMet = s.entryMet := rfl
theorem gf_withQueues : (withQueues s q p).gf = s.gf := rfl
theorem steep_withQueues : (withQueues s q p).steep = s.steep := rfl
theorem releaseTaken_withQueues : (withQueues s q p).releaseTaken = s.releaseTaken := rfl
theorem handoverReady_withQueues : (withQueues s q p).handoverReady = s.handoverReady := rfl
theorem busy_withQueues : (withQueues s q p).busy = s.busy := rfl
theorem parkAppliedFresh_withQueues : (withQueues s q p).parkAppliedFresh = s.parkAppliedFresh := rfl
theorem driveTest_withQueues (u : Option Heading) : (withQueues s q p).driveTest u = s.driveTest u := rfl

theorem evaluation_withQueues : (withQueues s q p).evaluation = s.evaluation := evaluation_of_step rfl rfl rfl rfl rfl

/-- R158, R174: no field is a part of the queues. -/
theorem readField_withQueues (g : Group) (index field : Nat) :
    (withQueues s q p).readField g index field = s.readField g index field := by cases g <;> rfl

end

section
variable {q : List Frame} {p : List Reply} {s t : State}

theorem alike_withQueues (s : State) (q : List Frame) (p : List Reply) : Alike q p s (withQueues s q p) := rfl

theorem alike_withSup (s : State) (q : List Frame) (p : List Reply) (x : Sup) :
    Alike q p { s with sup := x } { withQueues s q p with sup := x } := rfl

theorem Alike.ite {c : Prop} [Decidable c] {s' t' : State} (h : Alike q p s t) (h' : Alike q p s' t') :
    Alike q p (if c then s else s') (if c then t else t') := by
  split
  · exact h
  · exact h'

/-! ### Timers, demand frames, cab status -/

theorem Alike.restartRefresh (h : Alike q p s t) : Alike q p s.restartRefresh t.restartRefresh := by
  subst h
  unfold State.restartRefresh
  rw [sup_withQueues]
  split <;> rfl

theorem Alike.enterRefresh (h : Alike q p s t) : Alike q p s.enterRefresh t.enterRefresh := by
  subst h
  unfold State.enterRefresh
  rw [sup_withQueues]
  split
  · exact restartRefresh rfl
  · rfl

theorem Alike.tendSleep (h : Alike q p s t) : Alike q p s.tendSleep t.tendSleep := by
  subst h
  unfold State.tendSleep
  rw [sleepReady_withQueues]
  split <;> rfl

/-- R163, R164: a cab status frame is made beside the queues. -/
theorem Alike.makeCab (h : Alike q p s t) : Alike q p s.makeCab t.makeCab := by
  subst h
  unfold State.makeCab
  rw [cab_withQueues]
  split <;> rfl

theorem Alike.makeDemand (h : Alike q p s t) : Alike q p s.makeDemand t.makeDemand := by
  subst h
  unfold State.makeDemand
  rw [demandId_withQueues]
  split <;> exact restartRefresh rfl

theorem Alike.makeForComponent (h : Alike q p s t) : Alike q p s.makeForComponent t.makeForComponent := by
  subst h
  unfold State.makeForComponent
  rw [sup_withQueues]
  split
  · rfl
  · rfl
  all_goals exact makeDemand rfl

theorem Alike.noticeComponent (h : Alike q p s t) : Alike q p s.noticeComponent t.noticeComponent := by
  subst h
  unfold State.noticeComponent
  rw [component_withQueues, merger_withQueues]
  split
  · rfl
  · exact makeForComponent rfl

/-! ### The supervisor's moves -/

theorem Alike.move (h : Alike q p s t) (st : SupState) (r : Reason) : Alike q p (s.move st r) (t.move st r) := by
  subst h
  exact makeCab (tendSleep (enterRefresh rfl))

theorem Alike.changeReason (h : Alike q p s t) (r : Reason) : Alike q p (s.changeReason r) (t.changeReason r) := by
  subst h
  unfold State.changeReason
  rw [sup_withQueues]
  split
  · rfl
  · exact makeCab rfl

theorem Alike.setMode (h : Alike q p s t) (m : HoldMode) : Alike q p (s.setMode m) (t.setMode m) := by
  subst h
  cases m <;> rfl

theorem Alike.evaluateCore (h : Alike q p s t) : Alike q p s.evaluateCore t.evaluateCore := by
  subst h
  unfold State.evaluateCore
  rw [evaluation_withQueues]
  rfl

theorem Alike.enterUnavailable (h : Alike q p s t) (r : Reason) :
    Alike q p (s.enterUnavailable r) (t.enterUnavailable r) := by
  subst h
  have hmoved := ((alike_withSup s q p
    { s.sup with ctx := none, handover := false }).move .unavailable r).setMode .none
  unfold State.enterUnavailable
  rw [sup_withQueues]
  dsimp only
  split
  · exact hmoved.evaluateCore
  · exact hmoved

/-! ### Build confirmation -/

theorem Alike.buildConfirmed (h : Alike q p s t) : Alike q p s.buildConfirmed t.buildConfirmed := by
  subst h
  unfold State.buildConfirmed
  rw [sup_withQueues, store_withQueues]
  split
  · split
    · exact enterUnavailable rfl _
    · exact move rfl _ _
  · rfl

theorem Alike.judge (h : Alike q p s t) : Alike q p s.judge t.judge := by
  subst h
  unfold State.judge
  rw [merger_withQueues, levelInForce_withQueues]
  split
  · rw [built_withQueues]
    split
    · exact buildConfirmed rfl
    · rfl
  · rw [built_withQueues]
    split
    · exact buildConfirmed rfl
    · rfl
  · rfl

theorem Alike.arm (h : Alike q p s t) (level : Nat) : Alike q p (s.arm level) (t.arm level) := by
  subst h
  exact judge rfl

theorem Alike.noticeConfirm (h : Alike q p s t) (a : Bool) : Alike q p (s.noticeConfirm a) (t.noticeConfirm a) := by
  subst h
  unfold State.noticeConfirm
  rw [levelInForce_withQueues, merger_withQueues]
  split
  · rfl
  · split
    · exact arm rfl _
    · rfl

theorem Alike.handMode (h : Alike q p s t) (m : HoldMode) (a : Bool) :
    Alike q p (s.handMode m a) (t.handMode m a) := ((h.setMode m).noticeComponent).noticeConfirm a

theorem Alike.mergerRecord (h : Alike q p s t) : Alike q p s.mergerRecord t.mergerRecord :=
  h.noticeComponent.noticeConfirm false

theorem Alike.mergerSet (h : Alike q p s t) : Alike q p s.mergerSet t.mergerSet := h.noticeComponent.noticeConfirm true

/-! ### Holding and securing -/

theorem Alike.enterSecuring (h : Alike q p s t) (r : Reason) : Alike q p (s.enterSecuring r) (t.enterSecuring r) := by
  subst h
  exact handMode (move rfl _ _) _ _

theorem Alike.dropHandover (h : Alike q p s t) : Alike q p s.dropHandover t.dropHandover := by
  subst h
  unfold State.dropHandover
  rw [sup_withQueues, reinforced_withQueues]
  split
  · exact handMode rfl _ _
  · rfl

theorem Alike.securingNotice (h : Alike q p s t) (r : Reason) : Alike q p (s.securingNotice r) (t.securingNotice r) := by
  subst h
  unfold State.securingNotice
  rw [sup_withQueues]
  split
  · exact enterSecuring rfl r
  · exact enterSecuring rfl r
  · exact dropHandover rfl
  all_goals rfl

theorem Alike.recordInHold (h : Alike q p s t) : Alike q p s.recordInHold t.recordInHold := by
  subst h
  unfold State.recordInHold
  rw [calculator_withQueues]
  split
  · exact securingNotice rfl _
  · rfl

theorem Alike.enterHolding (h : Alike q p s t) : Alike q p s.enterHolding t.enterHolding := by
  subst h
  have hmade := alike_withSup s q p { s.sup with
    ctx := some (s.newContext (headingOf s.gf) s.holdLimitTimer s.calculator.record.pHold) }
  exact ((hmade.evaluateCore.move .holding .none).handMode .hold true).recordInHold

theorem Alike.enterReleasing (h : Alike q p s t) (d : ReleaseDir) :
    Alike q p (s.enterReleasing d) (t.enterReleasing d) := by
  subst h
  exact handMode (move rfl _ _) _ _

theorem Alike.returnToHolding (h : Alike q p s t) : Alike q p s.returnToHolding t.returnToHolding := by
  subst h
  exact handMode (move rfl _ _) _ _

theorem Alike.driveOutcome (h : Alike q p s t) (o : DriveOutcome) :
    Alike q p (s.driveOutcome o) (t.driveOutcome o) := by
  subst h
  unfold State.driveOutcome
  rw [sup_withQueues]
  split
  · exact enterReleasing rfl _
  · exact enterReleasing rfl _
  · exact returnToHolding rfl
  all_goals rfl

/-! ### STANDBY -/

theorem Alike.workDriveTest (h : Alike q p s t) (u : Option Heading) :
    Alike q p (s.workDriveTest u) (t.workDriveTest u) := by
  subst h
  unfold State.workDriveTest
  rw [driveTest_withQueues]
  rfl

theorem Alike.rework (h : Alike q p s t) : Alike q p s.rework t.rework := by
  subst h
  rfl

theorem Alike.channelsStandby (h : Alike q p s t) : Alike q p s.channelsStandby t.channelsStandby := by
  subst h
  rfl

theorem Alike.channels (h : Alike q p s t) : t.channels = s.channels := by
  subst h
  rfl

theorem Alike.evaluateIf (h : Alike q p s t) (f : Channels → Bool) :
    Alike q p (if f s.channels then s.evaluateCore else s) (if f t.channels then t.evaluateCore else t) := by
  rw [h.channels]
  exact h.evaluateCore.ite h

theorem Alike.enterStandbyCore (h : Alike q p s t) (r : Reason) :
    Alike q p (s.enterStandbyCore r) (t.enterStandbyCore r) := by
  subst h
  have hmoved := (((alike_withSup s q p
    { s.sup with ctx := none, handover := false }).move .standby r).setMode .none).channelsStandby
  exact hmoved.evaluateIf fun x => s.sup.ctx.isSome || decide (x.derived ≠ s.channels.derived)

theorem Alike.testHold (h : Alike q p s t) : Alike q p s.testHold t.testHold := by
  subst h
  have htested := (alike_withQueues s q p).workDriveTest (headingOf s.gf)
  have hmet : ((withQueues s q p).workDriveTest (headingOf s.gf)).entryMet =
      (s.workDriveTest (headingOf s.gf)).entryMet := by
    rw [htested, entryMet_withQueues]
  unfold State.testHold
  rw [sup_withQueues, gf_withQueues]
  dsimp only
  rw [hmet]
  split
  · split
    · exact htested.enterHolding
    · exact htested
  · rfl

theorem Alike.checkReport (h : Alike q p s t) : Alike q p s.checkReport t.checkReport := by
  subst h
  unfold State.checkReport
  rw [sup_withQueues, unavailableReasons_withQueues]
  split
  · split
    · exact (enterStandbyCore rfl _).testHold
    · exact enterUnavailable rfl _
  · rfl

/-! ### The path check -/

theorem Alike.startLevel (h : Alike q p s t) (c : Chan) (l : Level) :
    Alike q p (s.startLevel c l) (t.startLevel c l) := by
  subst h
  exact makeForComponent rfl

theorem Alike.stopRun (h : Alike q p s t) (r : LastRun) : Alike q p (s.stopRun r) (t.stopRun r) := by
  subst h
  rfl

theorem Alike.chooseChannel (h : Alike q p s t) (a : Option Chan) :
    Alike q p (s.chooseChannel a) (t.chooseChannel a) := by
  subst h
  unfold State.chooseChannel
  rw [candidate_withQueues]
  split
  · exact startLevel rfl _ _
  · exact (stopRun rfl _).checkReport

theorem Alike.writeCheck (h : Alike q p s t) (c : Chan) (x : CheckState) :
    Alike q p (s.writeCheck c x) (t.writeCheck c x) := by
  subst h
  have hwritten : Alike q p
      { s with channels := { s.channels with
          records := s.channels.records.set c { s.channels.records.get c with check := x } } }.rework
      { withQueues s q p with channels := { s.channels with
          records := s.channels.records.set c { s.channels.records.get c with check := x } } }.rework := rework rfl
  unfold State.writeCheck
  rw [channels_withQueues]
  dsimp only
  rw [hwritten.channels]
  split
  · exact hwritten
  · exact hwritten.evaluateCore

theorem Alike.writeResult (h : Alike q p s t) (c : Chan) (l : Level) (o : ResultOutcome) (n : Nat) :
    Alike q p (s.writeResult c l o n) (t.writeResult c l o n) := by
  subst h
  rfl

theorem Alike.failLevel (h : Alike q p s t) (c : Chan) (l : Level) :
    Alike q p (s.failLevel c l) (t.failLevel c l) := by
  subst h
  have hfailed : Alike q p ((s.writeResult c l .fail (s.channels.records.get c).pressure).stopLevel.writeCheck c .failed)
      (((withQueues s q p).writeResult c l .fail (s.channels.records.get c).pressure).stopLevel.writeCheck c .failed) :=
    writeCheck rfl _ _
  cases l with
  | low => exact ((hfailed.writeResult c .medium .notRun 0).writeResult c .high .notRun 0).chooseChannel _
  | medium => exact (hfailed.writeResult c .high .notRun 0).chooseChannel _
  | high => exact hfailed.chooseChannel _

theorem Alike.abandon (h : Alike q p s t) (c : Chan) : Alike q p (s.abandon c) (t.abandon c) := by
  subst h
  exact chooseChannel rfl _

theorem Alike.pathSet (h : Alike q p s t) : Alike q p s.pathSet t.pathSet := by
  subst h
  unfold State.pathSet
  rw [path_withQueues]
  split
  · rw [look_withQueues]
    split
    · rfl
    · exact failLevel rfl _ _
    · exact abandon rfl _
  · rfl

theorem Alike.abortCheck (h : Alike q p s t) (c : AbortCause) : Alike q p (s.abortCheck c) (t.abortCheck c) := by
  subst h
  unfold State.abortCheck
  rw [path_withQueues]
  split
  · exact (stopRun rfl _).checkReport
  · rfl

theorem Alike.beginCheck (h : Alike q p s t) : Alike q p s.beginCheck t.beginCheck := by
  subst h
  exact chooseChannel rfl _

theorem Alike.enterChecking (h : Alike q p s t) : Alike q p s.enterChecking t.enterChecking := by
  subst h
  exact ((alike_withSup s q p { s.sup with autoPending := false }).move
    .checking .none |>.handMode .check false).beginCheck

/-! ### Tests and notices -/

theorem Alike.testCheck (h : Alike q p s t) : Alike q p s.testCheck t.testCheck := by
  subst h
  unfold State.testCheck
  rw [work_withQueues, sup_withQueues, checkPreconditions_withQueues]
  split
  · exact enterChecking rfl
  · rfl

theorem Alike.testEntry (h : Alike q p s t) : Alike q p s.testEntry t.testEntry := by
  subst h
  unfold State.testEntry
  rw [sup_withQueues]
  split
  · exact (testHold rfl).testCheck
  · exact testCheck rfl
  all_goals rfl

theorem Alike.enterStandby (h : Alike q p s t) (r : Reason) : Alike q p (s.enterStandby r) (t.enterStandby r) :=
  (h.enterStandbyCore r).testEntry

theorem Alike.noticeConditions (h : Alike q p s t) : Alike q p s.noticeConditions t.noticeConditions := by
  subst h
  unfold State.noticeConditions
  rw [sup_withQueues, unavailableReasons_withQueues]
  split
  · split
    · exact enterStandby rfl _
    · split
      · rfl
      · exact (changeReason rfl _).testCheck
  · split
    · rfl
    · exact (enterUnavailable rfl _).testCheck
  all_goals rfl

theorem Alike.noticeSuspended (h : Alike q p s t) : Alike q p s.noticeSuspended t.noticeSuspended := by
  subst h
  unfold State.noticeSuspended
  rw [configBad_withQueues]
  split
  · exact noticeConditions rfl
  · rfl

theorem Alike.noticeRecord (h : Alike q p s t) : Alike q p s.noticeRecord t.noticeRecord :=
  h.recordInHold.testEntry.mergerRecord

theorem Alike.evaluate (h : Alike q p s t) : Alike q p s.evaluate t.evaluate := h.evaluateCore.noticeRecord

theorem Alike.supSet (h : Alike q p s t) : Alike q p s.supSet t.supSet := by
  subst h
  unfold State.supSet
  rw [sup_withQueues, channels_withQueues]
  split
  iterate 3
    · split
      · exact securingNotice rfl _
      · rfl
  all_goals rfl

theorem Alike.tellSet (h : Alike q p s t) : Alike q p s.tellSet t.tellSet :=
  h.mergerSet.evaluateCore.noticeConditions.noticeRecord.supSet.pathSet

theorem Alike.noticeSet (h : Alike q p s t) (before : Derived) : Alike q p (s.noticeSet before) (t.noticeSet before) := by
  subst h
  unfold State.noticeSet
  rw [channels_withQueues]
  split
  · rfl
  · exact tellSet rfl

theorem Alike.reworkNotice (h : Alike q p s t) : Alike q p s.reworkNotice t.reworkNotice := by
  subst h
  exact (rework rfl).noticeSet _

/-! ### Notices of an ageing signal -/

theorem Alike.trackWheels (h : Alike q p s t) : Alike q p s.trackWheels t.trackWheels := by
  subst h
  rfl

theorem Alike.tellWheels (h : Alike q p s t) (before : Creep) : Alike q p (s.tellWheels before) (t.tellWheels before) := by
  have hnoticed : Alike q p
      (if s.creep.watchedCount ≠ before.watchedCount ∧ s.creep.watchedCount < 2 then s.securingNotice .wheelLost else s)
      (if s.creep.watchedCount ≠ before.watchedCount ∧ s.creep.watchedCount < 2 then t.securingNotice .wheelLost else t) :=
    (h.securingNotice _).ite h
  have hcreep : t.creep = s.creep := h ▸ creep_withQueues s q p
  unfold State.tellWheels
  rw [hcreep]
  exact hnoticed.testEntry.ite hnoticed

theorem Alike.watchWheels (h : Alike q p s t) : Alike q p s.watchWheels t.watchWheels := by
  subst h
  exact (trackWheels rfl).tellWheels _

theorem Alike.driveNotice (h : Alike q p s t) : Alike q p s.driveNotice t.driveNotice := by
  subst h
  have htested := (alike_withQueues s q p).workDriveTest (s.sup.ctx.bind (·.uphill))
  have hout : ((withQueues s q p).workDriveTest (s.sup.ctx.bind (·.uphill))).calculator =
      (s.workDriveTest (s.sup.ctx.bind (·.uphill))).calculator := by rw [htested, calculator_withQueues]
  unfold State.driveNotice
  rw [sup_withQueues]
  dsimp only
  rw [hout]
  split
  · exact htested.driveOutcome _
  · exact htested.driveOutcome _
  all_goals rfl

theorem Alike.parkAgeing (h : Alike q p s t) (a : Age) : Alike q p (s.parkAgeing a) (t.parkAgeing a) := by
  cases a with
  | lost => exact h.testEntry.abortCheck .park
  | fresh | held => exact h.testEntry

theorem Alike.beginHandover (h : Alike q p s t) : Alike q p s.beginHandover t.beginHandover := by
  subst h
  have hmade := alike_withSup s q p { s.sup with
    ctx := some (s.newContext (headingOf s.gf) none s.calculator.record.pHold), handover := true }
  exact (hmade.evaluateCore.handMode .hold true).recordInHold

theorem Alike.releaseShallow (h : Alike q p s t) : Alike q p s.releaseShallow t.releaseShallow := by
  subst h
  unfold State.releaseShallow
  rw [unavailableReasons_withQueues]
  split
  · exact enterStandby rfl _
  · exact enterUnavailable rfl _

theorem Alike.releaseRequest (h : Alike q p s t) : Alike q p s.releaseRequest t.releaseRequest := by
  subst h
  unfold State.releaseRequest
  rw [releaseTaken_withQueues, store_withQueues, gf_withQueues, steep_withQueues, handoverReady_withQueues]
  split
  · split
    · exact enterUnavailable rfl _
    · split
      · exact releaseShallow rfl
      · split
        · exact beginHandover rfl
        · rfl
  · rfl

theorem Alike.payloadMax (h : Alike q p s t) : Alike q p s.payloadMax t.payloadMax := by
  subst h
  rfl

/-- R32: the consumers of a role take a change of age beside the queues. -/
theorem Alike.ageing (h : Alike q p s t) (role : Role) (before after : SampleRecord) :
    Alike q p (s.notify role .ageing before after) (t.notify role .ageing before after) := by
  cases role with
  | none => exact h
  | grade => exact h.evaluate.testEntry
  | payload => exact h.payloadMax.evaluate.ite h.evaluate
  | drumSpeed => exact h.evaluate
  | engineTorque | gearRatio => exact h.driveNotice
  | reservoir => exact (h.evaluate.testEntry.securingNotice _).ite h.evaluate.testEntry
  | parkStatus => exact h.parkAgeing _
  | parkReleaseReq => exact h.releaseRequest.ite h
  | driverPresent | pendantActive => exact (h.testEntry.securingNotice _).ite h.testEntry
  | holdInhibit => exact h.testEntry
  | liftAxle => exact h.reworkNotice
  | wheel => exact h.watchWheels

end

end Sys2Proof.Machine.ManagementResponder

namespace Sys2Proof.Machine.ManagementResponder

open SignalRecords

/-! A request is judged the same whatever else waits in the responder's queues (R155 to R157). -/

section
variable {q : List Frame} {p : List Reply} {s t : State}

/-! ### What follows a taken write -/

theorem Alike.checkRoutes (h : Alike q p s t) : Alike q p s.checkRoutes t.checkRoutes := by
  subst h
  unfold State.checkRoutes
  rw [work_withQueues]
  split <;> rfl

theorem Alike.checkSignals (h : Alike q p s t) : Alike q p s.checkSignals t.checkSignals := by
  subst h
  unfold State.checkSignals
  rw [work_withQueues]
  split <;> rfl

theorem Alike.checkChannels (h : Alike q p s t) : Alike q p s.checkChannels t.checkChannels := by
  subst h
  unfold State.checkChannels
  rw [work_withQueues, channels_withQueues]
  split
  · dsimp only
    split <;> rfl
  · rfl

theorem Alike.wroteRoute (h : Alike q p s t) : Alike q p s.wroteRoute t.wroteRoute := h.checkRoutes.noticeConditions

theorem Alike.wroteCurve (h : Alike q p s t) : Alike q p s.wroteCurve t.wroteCurve := by
  subst h
  have hchecked : Alike q p s.checkCurves (withQueues s q p).checkCurves := rfl
  exact hchecked.noticeSuspended.evaluate.noticeConditions

theorem Alike.wroteSetting (h : Alike q p s t) (field : Nat) :
    Alike q p (s.wroteSetting field) (t.wroteSetting field) := by
  unfold State.wroteSetting
  split
  · exact h.reworkNotice
  · exact h.payloadMax.evaluate
  iterate 9 exact h.evaluate
  iterate 5 exact h.testHold
  · exact h

theorem Alike.restartChannel (h : Alike q p s t) (c : Chan) : Alike q p (s.restartChannel c) (t.restartChannel c) := by
  subst h
  rfl

theorem Alike.wroteChannel (h : Alike q p s t) (c : Chan) (field : Nat) :
    Alike q p (s.wroteChannel c field) (t.wroteChannel c field) := by
  have hrestarted : Alike q p (if field ≤ 2 then s.restartChannel c else s)
      (if field ≤ 2 then t.restartChannel c else t) := (h.restartChannel c).ite h
  unfold State.wroteChannel
  rw [h.channels]
  exact (hrestarted.checkChannels.rework.noticeSuspended.noticeSet _).noticeConditions

theorem Alike.ageingUnlessLost (h : Alike q p s t) (role : Role) (before after : SampleRecord) : Alike q p
    (if before.age = .lost then s else s.notify role .ageing before after)
    (if before.age = .lost then t else t.notify role .ageing before after) := h.ite (h.ageing role before after)

theorem Alike.evaluateTestIf (h : Alike q p s t) (b : Bool) : Alike q p
    (if b then s.evaluate.testEntry else s) (if b then t.evaluate.testEntry else t) := h.evaluate.testEntry.ite h

/-- R25, R159: a SIGNAL write's resets, check and notices, stage by stage. -/
theorem Alike.wroteSignal (h : Alike q p s t) (k : Fin 20) (old new : Role) :
    Alike q p (s.wroteSignal k old new) (t.wroteSignal k old new) := by
  subst h
  have hreset : Alike q p (s.resetEntry k (old = .grade ∨ new = .grade) (old = .drumSpeed ∨ new = .drumSpeed))
      ((withQueues s q p).resetEntry k (old = .grade ∨ new = .grade) (old = .drumSpeed ∨ new = .drumSpeed)) := rfl
  have hchecked := hreset.checkSignals.rework.trackWheels.noticeSuspended.noticeSet s.channels.derived
  have hgraded := (hchecked.ageingUnlessLost (s.signals.bindings.get k) (s.signals.records.get k)
    SampleRecord.reset).evaluateTestIf (old = .grade ∨ new = .grade)
  unfold State.wroteSignal
  rw [signals_withQueues, channels_withQueues, creep_withQueues]
  exact ((hgraded.evaluate.ite hgraded).tellWheels s.creep).noticeConditions

theorem setWork_withQueues (s : State) (w : Working) : Alike q p (s.setWork w) ((withQueues s q p).setWork w) := rfl

/-- R157, R159: a WRITE. -/
theorem writeField_withQueues (s : State) (g : Group) (index field : Nat) (v : Word32) :
    (withQueues s q p).writeField g index field v = (s.writeField g index field v).map fun t => withQueues t q p := by
  unfold State.writeField
  rw [readField_withQueues, work_withQueues]
  cases g with
  | settings =>
    simp only [Option.map_map]
    exact congrArg (Option.map · _) (funext fun x => (setWork_withQueues s _).wroteSetting field)
  | route =>
    simp only [Option.map_bind, Function.comp_def, Option.map_map]
    exact congrArg _ (funext fun k => congrArg (Option.map · _) (funext fun x => (setWork_withQueues s _).wroteRoute))
  | signal =>
    simp only [Option.map_bind, Function.comp_def, Option.map_map]
    exact congrArg _ (funext fun k => congrArg (Option.map · _) (funext fun x =>
      (setWork_withQueues s _).wroteSignal k _ _))
  | gradeCurve | drumCurve =>
    simp only [Option.map_bind, Function.comp_def, Option.map_map]
    exact congrArg _ (funext fun k => congrArg (Option.map · _) (funext fun x => (setWork_withQueues s _).wroteCurve))
  | channel =>
    simp only [Option.map_bind, Function.comp_def, Option.map_map]
    exact congrArg _ (funext fun c => congrArg (Option.map · _) (funext fun x =>
      (setWork_withQueues s _).wroteChannel c field))
  | status | counters | checkResults => rfl

/-! ### Judging -/

/-- The second judgement is the first, its state with these requests and replies waiting. -/
def JudgedAlike (q : List Frame) (p : List Reply) (d e : Served) : Prop :=
  e = { d with state := withQueues d.state q p }

theorem refuse_alike (s : State) (r : Result) : JudgedAlike q p (s.refuse r) ((withQueues s q p).refuse r) := rfl

theorem Alike.answer (h : Alike q p s t) (v : Word32) : JudgedAlike q p (s.answer v) (t.answer v) := by
  subst h
  rfl

variable (s : State)

theorem judgeRead_alike (g : Group) (index field : Nat) :
    JudgedAlike q p (s.judgeRead g index field) ((withQueues s q p).judgeRead g index field) := by
  have hread : Alike q p (s.afterRead g index field) ((withQueues s q p).afterRead g index field) := by
    unfold State.afterRead
    split
    · split
      · split <;> rfl
      · rfl
    all_goals rfl
  unfold State.judgeRead
  rw [readField_withQueues]
  split
  · exact refuse_alike s _
  · exact hread.answer _

theorem judgeWrite_alike (g : Group) (index field : Nat) (v : Word32) :
    JudgedAlike q p (s.judgeWrite g index field v) ((withQueues s q p).judgeWrite g index field v) := by
  unfold State.judgeWrite
  rw [readField_withQueues, busy_withQueues, writeField_withQueues]
  split
  · exact refuse_alike s _
  · split
    · exact refuse_alike s _
    · split
      · rfl
      · cases s.writeField g index field v with
        | none => rfl
        | some t => exact Alike.answer rfl v

theorem clearField_withQueues (g : Group) (index field : Nat) :
    (withQueues s q p).clearField g index field = (s.clearField g index field).map fun t => withQueues t q p := by
  cases g with
  | counters =>
    simp only [State.clearField, Option.map_map]
    rfl
  | checkResults =>
    simp only [State.clearField, Option.map_bind, Function.comp_def, Option.map_map]
    rfl
  | channel =>
    unfold State.clearField
    dsimp only
    split
    · simp only [Option.map_map]
      rfl
    · rfl
  | settings | route | signal | gradeCurve | drumCurve | status => rfl

theorem judgeReadClear_alike (g : Group) (index field : Nat) :
    JudgedAlike q p (s.judgeReadClear g index field) ((withQueues s q p).judgeReadClear g index field) := by
  unfold State.judgeReadClear
  rw [readField_withQueues, clearField_withQueues]
  split
  · exact refuse_alike s _
  · cases s.clearField g index field with
    | none => rfl
    | some t => exact Alike.answer rfl _

theorem Alike.requestMarker {s t : State} (h : Alike q p s t) (op : CellOp) :
    Alike q p (s.requestMarker op) (t.requestMarker op) := by
  subst h
  unfold State.requestMarker
  rw [store_withQueues]
  dsimp only
  split
  · rfl
  · exact noticeConditions rfl

theorem Alike.beginReload {s t : State} (h : Alike q p s t) : Alike q p s.beginReload t.beginReload := by
  subst h
  exact (noticeConditions rfl).tendSleep

/-- R160, R161: a COMMAND. -/
theorem judgeCommand_alike (c : Command) (v : Word32) :
    JudgedAlike q p (s.judgeCommand c v) ((withQueues s q p).judgeCommand c v) := by
  cases c with
  | startCheck =>
    simp only [State.judgeCommand, State.judgeStartCheck]
    rw [sup_withQueues, checkPreconditions_withQueues]
    split
    iterate 5 exact refuse_alike s _
    iterate 2
      · split
        · exact (Alike.enterChecking rfl).answer v
        · exact refuse_alike s _
  | abortCheck =>
    simp only [State.judgeCommand, State.judgeAbortCheck]
    rw [path_withQueues]
    split
    · exact (Alike.abortCheck rfl _).answer v
    · exact refuse_alike s _
  | clearSafeStart => exact (Alike.requestMarker rfl _).answer v
  | save =>
    simp only [State.judgeCommand, State.judgeSave]
    rw [store_withQueues]
    split
    · exact (Alike.tendSleep rfl).answer v
    · exact refuse_alike s _
  | reload =>
    simp only [State.judgeCommand, State.judgeReload]
    rw [busy_withQueues, parkAppliedFresh_withQueues]
    split
    · exact refuse_alike s _
    · split
      · exact (Alike.beginReload rfl).answer v
      · exact refuse_alike s _
  | restart =>
    simp only [State.judgeCommand, State.judgeRestart]
    rw [restartPending_withQueues]
    split <;> rfl

/-- R157: a request is judged by its content and the part's state, and not by what waits. -/
theorem judgeRequest_alike (r : Request) :
    JudgedAlike q p (s.judgeRequest r) ((withQueues s q p).judgeRequest r) := by
  unfold State.judgeRequest
  split
  · exact refuse_alike s _
  · dsimp only
    split
    · exact judgeRead_alike s _ _ _
    · exact judgeWrite_alike s _ _ _ _
    · exact judgeReadClear_alike s _ _ _
    · exact judgeCommand_alike s _ _
    · exact refuse_alike s _

end

/-! ### Serving -/

/-- The reply to a request as it was judged (R158, section 12.1). -/
def replyTo (d : Served) (r : Request) : Reply :=
  ⟨replyFrame d.state.work.settings.replyId r d.result d.value, d.restart⟩

/-- The state in which a request has been served, with these requests left and its reply behind these replies
(R156). -/
def answered (s : State) (r : Request) (requests : List Frame) (replies : List Reply) : State :=
  withQueues (s.judgeRequest r).state requests (replies ++ [replyTo (s.judgeRequest r) r])

theorem serveHead_of_cons {t : State} {f : Frame} {rest : List Frame} (h : t.resp.requests = f :: rest) :
    t.serveHead = answered t (frameRequest f) rest (t.judgeRequest (frameRequest f)).state.resp.replies := by
  unfold State.serveHead
  rw [h]
  rfl

section
variable (s : State) (f : Frame) {rest : List Frame} {p : List Reply}

theorem serveHead_withQueues : (withQueues s (f :: rest) p).serveHead = answered s (frameRequest f) rest p := by
  have hjudged : (withQueues s (f :: rest) p).judgeRequest (frameRequest f) = _ := judgeRequest_alike s _
  rw [serveHead_of_cons rfl, answered, hjudged]
  rfl

/-- R156: nothing is served while the reply queue has no room. -/
theorem serve_full {t : State} (h : 4 ≤ t.resp.replies.length) : t.serve = t := by
  unfold State.serve
  cases t.resp.requests.length with
  | zero => rfl
  | succ n =>
    have hroom : ¬t.resp.replies.length < 4 := by omega
    have hfull : t.canServe = false := by simp [State.canServe, shortSize, hroom]
    rw [State.serveUpTo, hfull]
    rfl

theorem serve_none {t : State} (h : t.resp.requests = []) : t.serve = t := by
  rw [State.serve, h]
  rfl

/-- R156: the head request is served where the reply queue has room; no other one waits, or its reply fills the queue. -/
theorem serve_head (hp : p.length < 4) (hr : rest = [] ∨ p.length = 3) :
    (withQueues s (f :: rest) p).serve = answered s (frameRequest f) rest p := by
  have hroom : (withQueues s (f :: rest) p).canServe = true := by
    simp [State.canServe, withQueues, shortSize, hp]
  have hserved : (withQueues s (f :: rest) p).serve =
      State.serveUpTo rest.length (withQueues s (f :: rest) p).serveHead := if_pos hroom
  rw [hserved, serveHead_withQueues]
  obtain rfl | hlast := hr
  · rfl
  · refine serve_full (t := answered s (frameRequest f) rest p) ?_
    simp [answered, withQueues, hlast]

end

end Sys2Proof.Machine.ManagementResponder

namespace Sys2Proof.Machine.ManagementResponder

open SignalRecords AxleChannels

/-! Requests: what R157 refuses and how, the rows as frames of their requests, and a request that arrives (R9, R14, R154
to R162). -/

section
variable {s : State} {r : Request} {res : Result} {v : Word32}

/-! ### A refused request -/

theorem busy_iff : s.Busy ↔ s.busy = true := by
  unfold State.Busy State.busy
  cases s.sup.state <;> simp [SupState.isHold]

theorem busy_eq_false (h : ¬s.Busy) : s.busy = false := Bool.eq_false_iff.2 fun hb => h (busy_iff.2 hb)

theorem readOnly_iff {g : Group} : g.readOnly = true ↔ g = .status ∨ g = .counters ∨ g = .checkResults := by
  cases g <;> simp [Group.readOnly]

/-- R158: a field without a clearing part. -/
theorem clearField_eq_none {g : Group} {field : Byte} (index : Nat) (hc : g ≠ .counters) (hr : g ≠ .checkResults)
    (hl : ¬(g = .channel ∧ field = 14#8)) : s.clearField g index field.toNat = none := by
  cases g with
  | counters => exact absurd rfl hc
  | checkResults => exact absurd rfl hr
  | channel => exact if_neg fun h => hl ⟨rfl, BitVec.eq_of_toNat_eq h⟩
  | settings | route | signal | gradeCurve | drumCurve | status => rfl

theorem codeOf_eq_none {code : Byte} (h : code.toNat < 1 ∨ 4 < code.toNat) : Code.ofByte code = none := by
  have hne : ∀ b : Byte, 1 ≤ b.toNat → b.toNat ≤ 4 → code ≠ b := by
    rintro b h1 h4 rfl
    omega
  simp only [Code.ofByte, if_neg (hne codeRead (by decide) (by decide)), if_neg (hne codeWrite (by decide) (by decide)),
    if_neg (hne codeReadClear (by decide) (by decide)), if_neg (hne codeCommand (by decide) (by decide))]

theorem commandOf_eq_none {field : Byte} (h : field.toNat < 1 ∨ 6 < field.toNat) : Command.ofByte field = none := by
  unfold Command.ofByte
  split
  iterate 6 omega
  · rfl

/-- R160: START-CHECK in CHECKING or a hold state. -/
theorem judgeStartCheck_engaged (h : s.sup.state.isHold = true ∨ s.sup.state = .checking) :
    s.judgeStartCheck v = s.refuse .busy := by
  unfold State.judgeStartCheck
  cases hs : s.sup.state with
  | unavailable | standby => simp [hs, SupState.isHold] at h
  | checking | holding | releasing | securing | secured => rfl

/-- R99, R160: START-CHECK with a precondition unmet. -/
theorem judgeStartCheck_unmet (hh : s.sup.state.isHold = false) (hc : s.sup.state ≠ .checking)
    (hp : s.checkPreconditions = false) : s.judgeStartCheck v = s.refuse .denied := by
  unfold State.judgeStartCheck
  rw [hp]
  cases hs : s.sup.state with
  | unavailable | standby => rfl
  | checking => exact absurd hs hc
  | holding | releasing | securing | secured => simp [hs, SupState.isHold] at hh

/-! ### The tests in their order -/

section
variable {g : Group} {c : Command}

theorem judgeRequest_of_short (hw : r.whole = false) : s.judgeRequest r = s.refuse .badItem := by
  simp [State.judgeRequest, hw]

theorem judgeRequest_of_noCode (h : Code.ofByte r.code = none) : s.judgeRequest r = s.refuse .badItem := by
  simp [State.judgeRequest, h]

theorem judgeRequest_of_noGroup (hc : r.code ≠ codeCommand) (h : Group.ofByte r.group = none) :
    s.judgeRequest r = s.refuse .badItem := by
  have hcode : Code.ofByte r.code ≠ some .command := by
    unfold Code.ofByte
    split_ifs <;> simp
  cases hk : Code.ofByte r.code with
  | none => exact judgeRequest_of_noCode hk
  | some k =>
    cases k with
    | command => exact absurd hk hcode
    | read | write | readClear => simp [State.judgeRequest, hk, h]

theorem judgeRequest_read (hw : r.whole = true) (hc : r.code = 1#8) (hg : Group.ofByte r.group = some g) :
    s.judgeRequest r = s.judgeRead g r.index.toNat r.field.toNat := by
  simp [State.judgeRequest, hw, hc, hg, Code.ofByte, codeRead]

theorem judgeRequest_write (hw : r.whole = true) (hc : r.code = 2#8) (hg : Group.ofByte r.group = some g) :
    s.judgeRequest r = s.judgeWrite g r.index.toNat r.field.toNat r.value := by
  simp [State.judgeRequest, hw, hc, hg, Code.ofByte, codeRead, codeWrite]

theorem judgeRequest_readClear (hw : r.whole = true) (hc : r.code = 3#8) (hg : Group.ofByte r.group = some g) :
    s.judgeRequest r = s.judgeReadClear g r.index.toNat r.field.toNat := by
  simp [State.judgeRequest, hw, hc, hg, Code.ofByte, codeRead, codeWrite, codeReadClear]

theorem judgeRequest_noCommand (hc : r.code = 4#8) (hf : Command.ofByte r.field = none) :
    s.judgeRequest r = s.refuse .badItem := by
  simp [State.judgeRequest, hc, hf, Code.ofByte, codeRead, codeWrite, codeReadClear, codeCommand]

theorem judgeRequest_command (hw : r.whole = true) (hc : r.code = 4#8) (hf : Command.ofByte r.field = some c) :
    s.judgeRequest r = s.judgeCommand c r.value := by
  simp [State.judgeRequest, hw, hc, hf, Code.ofByte, codeRead, codeWrite, codeReadClear, codeCommand]

/-- R157 test 1: an item that no group holds. -/
theorem judgeRequest_noItem (h1 : 1 ≤ r.code.toNat) (h3 : r.code.toNat ≤ 3)
    (h : ∀ g, Group.ofByte r.group = some g → s.readField g r.index.toNat r.field.toNat = none) :
    s.judgeRequest r = s.refuse .badItem := by
  cases hw : r.whole with
  | false => exact judgeRequest_of_short hw
  | true =>
    cases hg : Group.ofByte r.group with
    | none =>
      refine judgeRequest_of_noGroup (fun hc => ?_) hg
      rw [hc] at h3
      exact absurd h3 (by decide)
    | some g =>
      have hread := h g hg
      have hcode : r.code = 1#8 ∨ r.code = 2#8 ∨ r.code = 3#8 := by
        simp only [← BitVec.toNat_inj, BitVec.toNat_ofNat]
        omega
      obtain hc | hc | hc := hcode
      · rw [judgeRequest_read hw hc hg, State.judgeRead, hread]
      · rw [judgeRequest_write hw hc hg, State.judgeWrite, hread]
      · rw [judgeRequest_readClear hw hc hg, State.judgeReadClear, hread]

end

/-- R157, R158: a refused request changes nothing, and its reply carries the result and the value named. -/
theorem judgeRequest_of_refuses (h : s.Refuses r res v) : s.judgeRequest r = ⟨s, res, v, false⟩ := by
  cases h with
  | short hw => exact judgeRequest_of_short hw
  | code hc => exact judgeRequest_of_noCode (codeOf_eq_none hc)
  | item h1 h3 hi => exact judgeRequest_noItem h1 h3 hi
  | command hc hf => exact judgeRequest_noCommand hc (commandOf_eq_none hf)
  | readOnly g old hw hc hg ho hr =>
    rw [judgeRequest_write hw hc hg, State.judgeWrite, ho]
    exact if_pos (readOnly_iff.2 hr)
  | noClear g old hw hc hg ho hn hr hl =>
    rw [judgeRequest_readClear hw hc hg, State.judgeReadClear, ho]
    dsimp only
    rw [clearField_eq_none _ hn hr hl]
    rfl
  | busy g old hw hc hg ho hs hn hr hb =>
    have hwritable : ¬g.readOnly = true := fun h => by simp [readOnly_iff, hs, hn, hr] at h
    rw [judgeRequest_write hw hc hg, State.judgeWrite, ho]
    exact (if_neg hwritable).trans (if_pos (busy_iff.1 hb))
  | value g old hw hc hg ho hs hn hr hb hv =>
    have hwritable : ¬g.readOnly = true := fun h => by simp [readOnly_iff, hs, hn, hr] at h
    rw [judgeRequest_write hw hc hg, State.judgeWrite, ho]
    dsimp only
    rw [if_neg hwritable, busy_eq_false hb, hv]
    rfl
  | startBusy hw hc hf hs =>
    rw [judgeRequest_command (c := .startCheck) hw hc (hf ▸ rfl), State.judgeCommand, judgeStartCheck_engaged hs]
    rfl
  | startDenied hw hc hf hh hs hp =>
    rw [judgeRequest_command (c := .startCheck) hw hc (hf ▸ rfl), State.judgeCommand, judgeStartCheck_unmet hh hs hp]
    rfl
  | abortDenied hw hc hf ht =>
    rw [judgeRequest_command (c := .abortCheck) hw hc (hf ▸ rfl), State.judgeCommand, State.judgeAbortCheck, ht]
    rfl
  | saveBusy hw hc hf ho =>
    rw [judgeRequest_command (c := .save) hw hc (hf ▸ rfl), State.judgeCommand, State.judgeSave]
    exact if_neg ho
  | reloadBusy hw hc hf hb =>
    rw [judgeRequest_command (c := .reload) hw hc (hf ▸ rfl), State.judgeCommand, State.judgeReload]
    exact if_pos (busy_iff.1 hb)
  | reloadDenied hw hc hf hb hp =>
    rw [judgeRequest_command (c := .reload) hw hc (hf ▸ rfl), State.judgeCommand, State.judgeReload, busy_eq_false hb, hp]
    rfl

end

end Sys2Proof.Machine.ManagementResponder

namespace Sys2Proof.Machine.ManagementResponder

open SignalRecords AxleChannels

/-! A request that reaches the responder, by a frame or by a row (R9, R11, R14, R154 to R156, R162). -/

section
variable {s : State} {r : Request} {res : Result} {v : Word32} {f : Frame}

/-! ### A frame taken leaves the judgement as it is -/

theorem readField_afterTaking {g : Group} (h : g ≠ .status) (p : Port) (index field : Nat) :
    (s.afterTaking p).readField g index field = s.readField g index field := by
  cases g with
  | status => exact absurd rfl h
  | settings | route | signal | gradeCurve | drumCurve | channel | counters | checkResults => cases p <;> rfl

/-- R174: the fields that STATUS holds are the same in every state; of their values a taken frame changes the port's. -/
theorem isSome_readStatus_afterTaking (p : Port) (index field : Nat) :
    ((s.afterTaking p).readStatus index field).isSome = (s.readStatus index field).isSome := by
  unfold State.readStatus
  split
  case h_11 =>
    rw [Bool.eq_iff_iff, isSome_getElem?, isSome_getElem?]
    rfl
  all_goals cases p <;> rfl

theorem isSome_readField_afterTaking (g : Group) (p : Port) (index field : Nat) :
    ((s.afterTaking p).readField g index field).isSome = (s.readField g index field).isSome := by
  by_cases h : g = .status
  · subst h
    exact isSome_readStatus_afterTaking p index field
  · rw [readField_afterTaking h]

theorem exists_readField_afterTaking {g : Group} {index field : Nat} {old : Word32} (p : Port)
    (h : s.readField g index field = some old) : ∃ new, (s.afterTaking p).readField g index field = some new := by
  rw [← Option.isSome_iff_exists, isSome_readField_afterTaking, h]
  rfl

/-- R157 test 4: the values refused are those of the working copies. -/
theorem writeField_afterTaking_eq_none_iff (g : Group) (p : Port) (index field : Nat) (v : Word32) :
    (s.afterTaking p).writeField g index field v = none ↔ s.writeField g index field v = none := by
  have hread : g ≠ .status → (s.afterTaking p).readField g index field = s.readField g index field :=
    fun h => readField_afterTaking h p index field
  cases g with
  | status | counters | checkResults => exact Iff.rfl
  | settings | route | signal | gradeCurve | drumCurve | channel =>
    simp only [State.writeField, hread (by decide), work_afterTaking, Option.bind_eq_none_iff, Option.map_eq_none_iff]

theorem refuses_afterTaking (p : Port) (h : s.Refuses r res v) : (s.afterTaking p).Refuses r res v := by
  cases h with
  | short hw => exact .short _ hw
  | code hc => exact .code _ hc
  | item h1 h3 hi =>
    refine .item _ h1 h3 fun g hg => ?_
    rw [← Option.not_isSome_iff_eq_none, isSome_readField_afterTaking, hi g hg]
    decide
  | command hc hf => exact .command _ hc hf
  | readOnly g old hw hc hg ho hr =>
    obtain ⟨new, hnew⟩ := exists_readField_afterTaking p ho
    exact .readOnly _ g new hw hc hg hnew hr
  | noClear g old hw hc hg ho hn hr hl =>
    obtain ⟨new, hnew⟩ := exists_readField_afterTaking p ho
    exact .noClear _ g new hw hc hg hnew hn hr hl
  | busy g old hw hc hg ho hs hn hr hb =>
    exact .busy _ g _ hw hc hg ((readField_afterTaking hs p _ _).trans ho) hs hn hr (by cases p <;> exact hb)
  | value g old hw hc hg ho hs hn hr hb hv =>
    exact .value _ g _ hw hc hg ((readField_afterTaking hs p _ _).trans ho) hs hn hr (by cases p <;> exact hb)
      ((writeField_afterTaking_eq_none_iff g p _ _ _).2 hv)
  | startBusy hw hc hf hs => exact .startBusy _ hw hc hf (by cases p <;> exact hs)
  | startDenied hw hc hf hh hs hp =>
    exact .startDenied _ hw hc hf (by cases p <;> exact hh) (by cases p <;> exact hs) (by cases p <;> exact hp)
  | abortDenied hw hc hf ht => exact .abortDenied _ hw hc hf (by cases p <;> exact ht)
  | saveBusy hw hc hf ho => exact .saveBusy _ hw hc hf (by cases p <;> exact ho)
  | reloadBusy hw hc hf hb => exact .reloadBusy _ hw hc hf (by cases p <;> exact hb)
  | reloadDenied hw hc hf hb hp =>
    exact .reloadDenied _ hw hc hf (by cases p <;> exact hb) (by cases p <;> exact hp)

/-! ### A request joins its queue -/

theorem takeRequest_dropped (h : 4 ≤ s.resp.requests.length) : s.takeRequest f = s.count .managementDrops := if_pos h

theorem takeRequest_waits (hq : s.resp.requests.length < 4) (hp : 4 ≤ s.resp.replies.length) : s.takeRequest f =
    { s with resp := { s.resp with requests := s.resp.requests ++ [f] } } :=
  (if_neg (Nat.not_le.2 hq)).trans (serve_full (t := { s with resp := { s.resp with
    requests := s.resp.requests ++ [f] } }) hp)

/-- R155, R156: a request that finds an empty queue and room for its reply is served at once. -/
theorem takeRequest_served (hq : s.resp.requests = []) (hp : s.resp.replies.length < 4) :
    s.takeRequest f = answered s (frameRequest f) [] s.resp.replies := by
  rw [← serve_head s f hp (.inl rfl), State.takeRequest, hq, if_neg (by decide)]
  rfl

theorem answered_of_refuses (h : s.Refuses r res v) (q : List Frame) (p : List Reply) : answered s r q p =
    withQueues s q (p ++ [⟨replyFrame s.work.settings.replyId r res v, false⟩]) := by
  rw [answered, judgeRequest_of_refuses h]
  rfl

/-- R157: a request refused at once. -/
theorem takeRequest_refused (hq : s.resp.requests = []) (hp : s.resp.replies.length < 4)
    (h : s.Refuses (frameRequest f) res v) : s.takeRequest f = { s with resp := { s.resp with
      replies := s.resp.replies ++ [⟨replyFrame s.work.settings.replyId (frameRequest f) res v, false⟩] } } := by
  rw [takeRequest_served hq hp, answered_of_refuses h, withQueues, ← hq]

/-! ### A frame that reaches the responder -/

theorem routesManage_eq_false {routes : Vector RouteEntry 96}
    (h : ∀ k : Fin 96, (routes.get k).valid = true → (routes.get k).action ≠ .manage) : routesManage routes = false := by
  rw [routesManage, List.any_eq_false]
  intro e he
  obtain ⟨i, hi, rfl⟩ := List.mem_iff_getElem.1 he
  have hk := h ⟨i, by simpa using hi⟩
  simpa [Vector.get] using hk

theorem requestFrame_of_data (h : f.remote = false) : s.requestFrame f = s.takeRequest f := by
  simp [State.requestFrame, h]

/-- R14: the request identifier while the route table is SUSPENDED. -/
theorem classify_suspended (hr : s.route.state = .suspended) (hm : s.route.mergeId ≠ some f.id)
    (hid : f.id = s.work.settings.requestId) (hd : f.remote = false) : s.classify .v f = s.takeRequest f := by
  have hreq : s.isRequest .v f = true := by simp [State.isRequest, hid]
  rw [State.classify, hr]
  dsimp only
  rw [State.classifySuspended, if_neg (fun h => hm h.2), if_pos hreq, requestFrame_of_data hd]

/-- R14: the request identifier under a table without a MANAGE entry. -/
theorem classify_unmatched (hr : s.route.state = .inForce) (hm : s.matchEntry .v f = none)
    (hid : f.id = s.work.settings.requestId) (hn : routesManage s.work.routes = false) (hd : f.remote = false) :
    s.classify .v f = s.takeRequest f := by
  have hreq : (s.isRequest .v f && !routesManage s.work.routes) = true := by simp [State.isRequest, hid, hn]
  rw [State.classify, hr, hm]
  dsimp only
  rw [if_pos hreq, requestFrame_of_data hd]

/-- R9, R11: a MANAGE entry that gives no signals. -/
theorem classify_manage {e : RouteEntry} (hr : s.route.state = .inForce) (hm : s.matchEntry .v f = some e)
    (ha : e.action = .manage) (hx : e.extract = []) (hd : f.remote = false) : s.classify .v f = s.takeRequest f := by
  have hextract : s.extractAll f [] = s := by
    unfold State.extractAll
    split <;> rfl
  rw [State.classify, hr, hm]
  simp only [State.matched, hd, State.offerPart, ha, hx, hextract, State.handPart]
  rfl

/-- R1, R14, R154: a frame that the responder hears is taken by Port V and handed over. -/
theorem exec_frameReceived_request (h : s.HearsRequest f) :
    exec (.frameReceived .v f) s = .next ((s.afterTaking .v).takeRequest f) := by
  have hclassified : (s.afterTaking .v).classify .v f = (s.afterTaking .v).takeRequest f := by
    obtain ⟨hr, hm, hid⟩ | ⟨hr, hm, hid, hn⟩ | ⟨hr, e, hm, ha, hx⟩ := h.reaches
    · exact classify_suspended (s := s.afterTaking .v) hr hm hid h.data
    · exact classify_unmatched (s := s.afterTaking .v) hr hm hid (routesManage_eq_false hn) h.data
    · exact classify_manage (s := s.afterTaking .v) hr hm ha hx h.data
  show execFrameReceived .v f s = _
  have htaken : (s.running && (s.port .v).onBus) = true := by rw [h.running, Bool.true_and]; exact h.onBus
  rw [execFrameReceived, if_pos htaken, setPort_taken (p := .v) h.onBus, hclassified]

/-! ### The management rows -/

/-- The row of a request hands that request to the responder (notes/assumptions/6.md). -/
theorem exec_of_requestOf {c : Instr} (h : requestOf c = some r) : r.whole = true ∧ ∀ s : State,
    exec c s = .next (s.requestRow r.code r.group r.index r.field r.value) := by
  cases c with
  | writeCurveBreakpoint curve => cases curve <;> (obtain rfl := Option.some.inj h; exact ⟨rfl, fun _ => rfl⟩)
  | read | readLostSinceRead | readClearCounter | readClearCheckResult | writeRouteEntry | writeSignalEntry
  | writeChannelEntry | writeSetting | startCheck | abortCheck | clearSafeStart | save | reload | restart =>
    obtain rfl := Option.some.inj h
    exact ⟨rfl, fun _ => rfl⟩
  | _ => cases h

/-- The frame of a request on the request identifier (section 12.1). -/
def frameOf (s : State) (r : Request) : Frame :=
  requestFrame s.work.settings.requestId r.code r.group r.index r.field r.value

theorem frameRequest_frameOf (s : State) (hw : r.whole = true) : frameRequest (frameOf s r) = r := by
  rw [frameOf, frameRequest_requestFrame, ← hw]

theorem hearsRequests_of (hr : s.running = true) (hb : s.portV.onBus = true) : s.hearsRequests = true := by
  rw [State.hearsRequests, hr, hb]
  rfl

/-- R162: a row while requests reach the part. -/
theorem exec_row {c : Instr} (h : requestOf c = some r) (hr : s.running = true) (hb : s.portV.onBus = true) :
    exec c s = .next (s.takeRequest (frameOf s r)) := by
  rw [(exec_of_requestOf h).2, State.requestRow, if_pos (hearsRequests_of hr hb)]
  rfl

/-- R162: a row while no request can reach the part. -/
theorem exec_row_unheard {c : Instr} (h : requestOf c = some r) (hn : s.running = false ∨ s.portV.onBus = false) :
    exec c s = .next s := by
  have hunheard : s.hearsRequests = false := by
    rw [State.hearsRequests, Bool.and_eq_false_iff]
    exact hn
  rw [(exec_of_requestOf h).2, State.requestRow_unheard s hunheard]

/-- R4, R5: the port that has taken a frame stays on its bus. -/
theorem onBus_of_ofCounts {c : PortCtl} {tx rx : Nat} (h : c.mode = PortMode.ofCounts tx rx) : c.onBus = true := by
  unfold PortCtl.onBus
  rw [h, PortMode.ofCounts]
  split_ifs <;> rfl

end

/-- Settles O52: a request at each queue length, by its frame; the rows as these frames. -/
theorem requestsAreQueuedAndJudged : Obligations.RequestsAreQueuedAndJudged := by
  refine ⟨fun s f hf => ⟨fun hq => ?_, fun hq hp => ?_, fun r v hq hp hr => ?_⟩,
    fun s c r hc => ⟨exec_row_unheard hc, fun hf => ?_, fun hr hb hq => ?_, fun res v hs hr => ?_⟩⟩
  · rw [exec_frameReceived_request hf, takeRequest_dropped (s := s.afterTaking .v) hq]
    rfl
  · rw [exec_frameReceived_request hf, takeRequest_waits (s := s.afterTaking .v) hq hp]
    rfl
  · rw [exec_frameReceived_request hf,
      takeRequest_refused (s := s.afterTaking .v) hq hp (refuses_afterTaking .v hr)]
    rfl
  · exact ⟨_, exec_frameReceived_request hf, exec_row (s := s.afterTaking .v) hc hf.running (onBus_of_ofCounts rfl)⟩
  · rw [exec_row hc hr hb, takeRequest_dropped hq]
    rfl
  · have hframe : frameRequest (frameOf s r) = r := frameRequest_frameOf s (exec_of_requestOf hc).1
    rw [exec_row hc hs.running hs.onBus, takeRequest_refused hs.requests hs.replies (hframe.symm ▸ hr), hframe]

end Sys2Proof.Machine.ManagementResponder

namespace Sys2Proof.Machine.ManagementResponder

open SignalRecords DemandMerger

/-! The end of an attempt at each source, the cab status frame, and the warm reset (R2, R17, R123, R125, R161 to R164,
R170). -/

section
variable {s : State}

/-! ### The cab status frame -/

theorem makeCab_of_free (h : ∀ f, s.resp.cab ≠ .sending f) : s.makeCab =
    { s with resp := { s.resp with cab := .waiting s.cabStatus, period := s.timer 100 } } := by
  unfold State.makeCab
  cases hc : s.resp.cab with
  | sending f => exact absurd hc (h f)
  | empty | waiting => rfl

theorem makeCab_of_sending {f : Frame} (h : s.resp.cab = .sending f) : s.makeCab =
    { s with resp := { s.resp with renew := true, period := s.timer 100 } } := by
  unfold State.makeCab
  split
  · rfl
  all_goals next hc => exact absurd (h.symm.trans hc) nofun

/-- R72: the target in the frame's unit of 4 kPa. -/
theorem target_div_four (r : HoldResult) : r.target / 4 = (r.pHold + 3) / 4 :=
  Nat.mul_div_cancel _ (by decide)

/-- R163: CAB_STATUS_PERIOD_EXPIRY. -/
theorem exec_cabStatusPeriodExpiry {x : Running} (ha : s.awake = true) (hx : s.resp.period = some x) :
    exec .cabStatusPeriodExpiry s = .next (s.reach x).makeCab := by
  show execCabStatusPeriodExpiry s = _
  simp only [execCabStatusPeriodExpiry, expiring_of_awake ha, hx]

/-- Settles O49: the frame made at the period's end, by the slot's state. -/
theorem cabStatusIsMadeEachPeriod : Obligations.CabStatusIsMadeEachPeriod := by
  intro s x ha hx
  refine ⟨fun hf => ?_, fun f hf => ?_⟩
  · rw [exec_cabStatusPeriodExpiry ha hx, makeCab_of_free (s := s.reach x) hf, State.cabStatus, cabFrame, target_div_four]
    rfl
  · rw [exec_cabStatusPeriodExpiry ha hx, makeCab_of_sending (s := s.reach x) hf]
    rfl

/-! ### A frame sent -/

/-- R2, R3, R4: the controller of a port whose frame has been sent. -/
theorem sent_eq (c : PortCtl) : c.sent = { c with
    txErr := c.txErr - 1, attempt := none
    mode := if c.mode = .offBus then .offBus else PortMode.ofCounts (c.txErr - 1) c.rxErr } := by
  unfold PortCtl.sent PortCtl.restate
  cases hm : c.mode <;> rfl

/-- The state once Port `p` has sent its frame, its source not yet told. -/
def sentOff (s : State) (p : Port) : State := s.setPort p (s.port p).sent

theorem exec_frameSent {p : Port} {src : Source} {f : Frame} (hr : s.running = true)
    (ha : (s.port p).attempt = some ⟨src, f⟩) :
    exec (.frameSent p) s = .next ((sentOff s p).tellSent src) := by
  show execFrameSent p s = _
  rw [execFrameSent, ha]
  dsimp only
  rw [if_pos hr]
  rfl

/-- R16, R17: shedding goes off at or below the low water mark. -/
theorem removeVToB_eq (s : State) : s.removeVToB = { s with
    vToB := s.vToB.tail
    shedding := if s.vToB.tail.length ≤ s.work.settings.lowWater then false else s.shedding } := by
  unfold State.removeVToB
  by_cases h : s.vToB.tail.length ≤ s.work.settings.lowWater
  · simp only [h, decide_true, Bool.not_true, Bool.and_false, if_true]
  · simp only [h, decide_false, Bool.not_false, Bool.and_true, if_false]

theorem cabEnded_of_kept (h : s.resp.renew = false) : s.cabEnded = { s with resp := { s.resp with cab := .empty } } := by
  simp [State.cabEnded, h]

/-- R164: a slot marked for renewal takes a frame made now. -/
theorem cabEnded_of_renew (h : s.resp.renew = true) : s.cabEnded = { s with
    resp := { s.resp with cab := .waiting s.cabStatus, renew := false, period := some ⟨s.now, 100⟩ } } := by
  unfold State.cabEnded
  rw [h]
  exact makeCab_of_free (s := { s with resp := { s.resp with cab := .empty, renew := false } }) nofun

theorem replySent_restart {r : Reply} {rest : List Reply} (h : s.resp.replies = r :: rest) (hr : r.restart = true) :
    s.replySent = s.warmReset := by
  rw [State.replySent, h]
  exact if_pos hr

theorem replySent_served {r : Reply} {rest : List Reply} (h : s.resp.replies = r :: rest) (hr : r.restart = false) :
    s.replySent = (withQueues s s.resp.requests rest).serve := by
  rw [State.replySent, h]
  exact if_neg (by rw [hr]; decide)

theorem powered_of_running (h : s.running = true) : s.powered = true :=
  powered_of_awake (Bool.and_eq_true_iff.1 h).1

/-- R161, R170: WARM_RESET of a part with power. -/
theorem exec_warmReset (h : s.powered = true) : exec .warmReset s = .next s.warmReset := congrArg _ (if_pos h)

theorem sentOff_eq {u : State} (s : State) (p : Port) (h : u = s.setPort p { s.port p with
    txErr := (s.port p).txErr - 1, attempt := none
    mode := if (s.port p).mode = .offBus then .offBus
      else PortMode.ofCounts ((s.port p).txErr - 1) (s.port p).rxErr }) : sentOff s p = u := by
  rw [h, sentOff, sent_eq]

/-- R4, R5: a port that was on its bus stays on it. -/
theorem onBus_of_sent (h : s.portV.mode ≠ .offBus) : (sentOff s .v).portV.onBus = true :=
  onBus_of_ofCounts (c := s.portV.sent) (by rw [sent_eq]; exact if_neg h)

/-- R156: a row that finds no request waiting and room for its reply. -/
theorem exec_row_served {c : Instr} {r : Request} {rest : List Reply} (h : requestOf c = some r)
    (hr : s.running = true) (hb : s.portV.onBus = true) (hp : rest.length < 4) :
    exec c (withQueues s [] rest) = .next (answered s r [] rest) := by
  have hframe := frameRequest_frameOf (withQueues s [] rest) (exec_of_requestOf h).1
  have hjudged : (withQueues s [] rest).judgeRequest r = _ := judgeRequest_alike s r
  rw [exec_row (s := withQueues s [] rest) h hr hb, takeRequest_served rfl hp, hframe, answered, hjudged]
  rfl

/-- Settles O13: the source told SENT, at each port. -/
theorem frameSentReleasesItsSource : Obligations.FrameSentReleasesItsSource := by
  constructor
  · intro s f u hrun hu
    obtain rfl := sentOff_eq s .b hu
    have hsent : ∀ {src}, s.portB.attempt = some ⟨src, f⟩ → exec (.frameSent .b) s = .next ((sentOff s .b).tellSent src) :=
      exec_frameSent (p := .b) hrun
    refine ⟨fun n ha => hsent ha, fun ha => hsent ha, fun ha => ?_⟩
    rw [hsent ha]
    exact congrArg _ (removeVToB_eq _)
  · intro s f u hrun hu
    obtain rfl := sentOff_eq s .v hu
    have hsent : ∀ {src}, s.portV.attempt = some ⟨src, f⟩ → exec (.frameSent .v) s = .next ((sentOff s .v).tellSent src) :=
      exec_frameSent (p := .v) hrun
    refine ⟨fun r rest ha hp hr hq => ?_, fun r rest q waiting ha hp hr hl hq => ?_, fun r rest ha hp hr => ?_,
      fun ha hc => ?_, fun ha hc => ?_, fun ha => hsent ha⟩
    · have hserved := replySent_served (s := sentOff s .v) hp hr
      have hidle := serve_none (t := withQueues (sentOff s .v) s.resp.requests rest) hq
      exact (hsent ha).trans (congrArg _ (hserved.trans hidle))
    · have hserved : (sentOff s .v).replySent = answered (sentOff s .v) (frameRequest q) waiting rest := by
        rw [replySent_served (s := sentOff s .v) hp hr, show (sentOff s .v).resp.requests = q :: waiting from hq]
        exact serve_head _ q (by omega) (.inr hl)
      refine ⟨fun c hc hm => ?_, fun code v hrefuse => ?_⟩
      · refine ⟨answered (sentOff s .v) (frameRequest q) [] rest, ?_, (hsent ha).trans (congrArg _ hserved)⟩
        have hbus : (sentOff s .v).portV.onBus = true := onBus_of_sent hm
        exact exec_row_served hc hrun hbus (by omega)
      · exact (hsent ha).trans (congrArg _ (hserved.trans (answered_of_refuses hrefuse _ _)))
    · have hreset := replySent_restart (s := sentOff s .v) hp hr
      exact ⟨_, (hsent ha).trans (congrArg _ hreset), exec_warmReset (s := sentOff s .v) (powered_of_running hrun)⟩
    · rw [hsent ha]
      exact congrArg _ (cabEnded_of_kept hc)
    · rw [hsent ha]
      exact congrArg _ (cabEnded_of_renew hc)

/-! ### The warm reset -/

/-- R169: the marker's cell after a warm reset. -/
theorem cell_cut (st : Store) : st.cut.cell = if st.op = .saving then st.pendingCell.applied st.cell else st.cell := by
  unfold Store.cut
  cases st.op <;> rfl

/-- R168: the stored image stands. -/
theorem image_cut (st : Store) : st.cut.image = st.image := by
  unfold Store.cut
  cases st.op <;> rfl

theorem lastSave_cut (st : Store) : st.cut.lastSave = if st.op = .saving then .cut else st.lastSave := by
  unfold Store.cut
  cases st.op <;> rfl

/-- R58: what a channel record keeps through a warm reset. -/
theorem record_warmReset (s : State) (c : Chan) : s.warmReset.channels.records.get c =
    (s.channels.records.get c).restart (s.work.channels.get c).expected := by
  cases c <;> rfl

/-- R161: RESTART_TIMER_EXPIRY. -/
theorem exec_restartTimerExpiry {x : Running} (ha : s.awake = true) (hx : s.resp.restartTimer = some x) :
    exec .restartTimerExpiry s = .next (s.reach x).warmReset := by
  show execRestartTimerExpiry s = _
  simp only [execRestartTimerExpiry, expiring_of_awake ha, hx]

/-- Settles O3: the warm reset block by block, and the expiry that brings the same one. -/
theorem warmResetFollowsTheLatchRule : Obligations.WarmResetFollowsTheLatchRule := by
  refine ⟨fun s hp => ⟨s.warmReset, exec_warmReset hp, rfl, rfl, rfl, rfl, rfl, rfl, image_cut s.store, cell_cut s.store, rfl,
    lastSave_cut s.store, rfl, rfl, rfl, rfl, rfl, fun c => ?_, rfl, rfl, rfl, rfl, rfl, rfl, rfl, rfl, rfl, hp⟩,
    fun s r ha hr => ⟨_, exec_restartTimerExpiry ha hr, exec_warmReset (s := s.reach r) (powered_of_awake ha)⟩⟩
  rw [record_warmReset]
  exact ⟨rfl, rfl, rfl, rfl⟩

end

end Sys2Proof.Machine.ManagementResponder

namespace Sys2Proof.Machine.StartAndSleep

open HoldSupervisor

/-! The stored image once a save is complete (R166, R168, R169). -/

section
variable {s : State}

/-- R166, R168: an image made of a copy bears the copy's own length and checksum. -/
theorem good_imageOf (w : Working) : (imageOf w).good = true := by
  simp [Image.good, imageOf]

/-- R166: a load of it takes the copy whole. -/
theorem loaded_imageOf (w : Working) : (imageOf w).loaded = w := if_pos (good_imageOf w)

theorem complete_of_copy {st : Store} {w : Working} (h : st.copy = some w) : st.complete = { st with
    image := imageOf w, copy := none, lastSave := .completed, op := .idle, cell := st.pendingCell.applied st.cell
    pendingCell := .none } := by
  rw [Store.complete, h]

theorem exec_saveComplete (ha : s.awake = true) (ho : s.store.op = .saving) :
    exec .saveComplete s = .next ({ s with store := s.store.complete } : State).tendSleep := by
  show execSaveComplete s = _
  simp [execSaveComplete, ha, ho]

end

/-- Settles O9: the store completed, and the sleep delay timer tended. -/
theorem saveCompleteStoresTheCopy : Obligations.SaveCompleteStoresTheCopy := by
  intro s w ha ho hw
  obtain ⟨x, hx⟩ := tendSleep_eq { s with store := s.store.complete }
  refine ⟨_, exec_saveComplete ha ho, ?_⟩
  rw [hx, complete_of_copy hw]
  exact ⟨good_imageOf w, loaded_imageOf w, rfl, rfl, rfl, rfl, rfl, rfl, rfl, rfl⟩

end Sys2Proof.Machine.StartAndSleep

namespace Sys2Proof.Machine.StartAndSleep

open SignalRecords AxleChannels HoldSupervisor

/-! The edges of KEY in a running part (R85, R88, R90, R91, R100, R102, R150, R171). -/

section
variable {s : State}

/-! ### With KEY high no sleep delay runs -/

/-- R171: the sleep delay waits for KEY to be low. -/
theorem tendSleep_of_keyHigh (h : s.key = true) : s.tendSleep = { s with sleepTimer := none } :=
  if_neg (by simp [State.sleepReady, h])

theorem sleepTimer_makeCab (s : State) : s.makeCab.sleepTimer = s.sleepTimer :=
  congrArg Ruling.sleepTimer (ruling_makeCab s)

theorem sleepTimer_move (h : s.key = true) (st : SupState) (r : Reason) : (s.move st r).sleepTimer = none := by
  unfold State.move
  rw [sleepTimer_makeCab, tendSleep_of_keyHigh]
  exact (State.key_of_calm (State.calm_enterRefresh _)).trans h

/-- R171: a hold mode handed over outside a release handover leaves the sleep delay timer. -/
theorem sleepTimer_handMode (m : HoldMode) (a : Bool) (h : ¬(s.sup.state = .secured ∧ s.sup.handover = true)) :
    (s.handMode m a).sleepTimer = s.sleepTimer := congrArg Ruling.sleepTimer (ruling_handMode m a h)

theorem sleepTimer_enterSecuring (h : s.key = true) (r : Reason) : (s.enterSecuring r).sleepTimer = none := by
  unfold State.enterSecuring
  dsimp only
  rw [sleepTimer_handMode _ _ (by simp)]
  exact sleepTimer_move (by exact h) _ _

theorem sleepTimer_enterHolding (h : s.key = true) : s.enterHolding.sleepTimer = none := by
  unfold State.enterHolding
  dsimp only
  generalize hu : State.evaluateCore _ = u
  have hkey : u.key = true := by rw [← hu]; exact h
  have hns : ¬((u.move .holding .none).sup.state = .secured ∧ (u.move .holding .none).sup.handover = true) := by simp
  have hstate : ((u.move .holding .none).handMode .hold true).sup.state = .holding := by
    rw [State.sup_handMode _ _ _ hns, State.sup_move]
  unfold State.recordInHold
  split
  · rw [securingNotice_of_hold (.inl hstate)]
    refine sleepTimer_enterSecuring ?_ _
    rw [State.key_of_calm (State.calm_handMode _ _ _), State.key_move, hkey]
  · rw [sleepTimer_handMode _ _ hns, sleepTimer_move hkey]

theorem sleepTimer_testHold (h : s.key = true) (ht : s.sleepTimer = none) : s.testHold.sleepTimer = none := by
  unfold State.testHold
  dsimp only
  split
  · split
    · exact sleepTimer_enterHolding (by exact h)
    · exact ht
  · exact ht

theorem sleepTimer_enterUnavailable (h : s.key = true) (r : Reason) : (s.enterUnavailable r).sleepTimer = none := by
  have hm : ∀ u : State, (u.setMode .none).sleepTimer = u.sleepTimer := fun _ => rfl
  unfold State.enterUnavailable
  dsimp only
  split <;> exact (hm _).trans (sleepTimer_move (by exact h) _ _)

theorem sleepTimer_enterStandbyCore (h : s.key = true) (r : Reason) : (s.enterStandbyCore r).sleepTimer = none := by
  have hi : (inStandby s r).sleepTimer = none := sleepTimer_move (by exact h) _ _
  rcases enterStandbyCore_eq_or s r with e | e <;> rw [e] <;> exact hi

theorem sleepTimer_checkReport (h : s.key = true) (ht : s.sleepTimer = none) : s.checkReport.sleepTimer = none := by
  unfold State.checkReport
  split
  · split
    · refine sleepTimer_testHold ?_ (sleepTimer_enterStandbyCore h _)
      rw [State.key_of_calm (State.calm_enterStandbyCore _ _), h]
    · exact sleepTimer_enterUnavailable h _
  · exact ht

theorem sleepTimer_chooseChannel (h : s.key = true) (ht : s.sleepTimer = none) (a : Option Chan) :
    (s.chooseChannel a).sleepTimer = none := by
  unfold State.chooseChannel
  split
  · exact (congrArg Ruling.sleepTimer (ruling_startLevel ..)).trans ht
  · exact sleepTimer_checkReport (by exact h) ht

theorem sleepTimer_begun (h : s.key = true) : (begun s).sleepTimer = none :=
  (sleepTimer_handMode _ _ (by simp)).trans (sleepTimer_move (by exact h) _ _)

theorem sleepTimer_testCheck (h : s.key = true) (ht : s.sleepTimer = none) : s.testCheck.sleepTimer = none := by
  unfold State.testCheck
  split
  · obtain ⟨-, -, -, -, hcalm⟩ := begun_holds s
    rw [enterChecking_eq]
    exact sleepTimer_chooseChannel ((State.key_of_calm hcalm).trans h) (sleepTimer_begun h) _
  · exact ht

/-- R85, R99: no test of STANDBY or UNAVAILABLE starts the sleep delay timer. -/
theorem sleepTimer_testEntry (h : s.key = true) (ht : s.sleepTimer = none) : s.testEntry.sleepTimer = none := by
  unfold State.testEntry
  split
  · refine sleepTimer_testCheck ?_ (sleepTimer_testHold h ht)
    rw [State.key_of_calm (State.calm_testHold _), h]
  · exact sleepTimer_testCheck h ht
  all_goals exact ht

/-! ### KEY rises -/

/-- The state with KEY high and the sleep delay timer stopped. -/
def keyHigh (s : State) : State := { s with key := true, sleepTimer := none }

theorem exec_keyRise (hr : s.running = true) (hk : s.key = false) : exec .keyRise s = .next (keyHigh s).testEntry := by
  have hs : s.asleep = false := by simp_all [State.running, State.awake]
  have ht : s.keyRose = (keyHigh s).testEntry :=
    congrArg State.testEntry (tendSleep_of_keyHigh (s := { s with key := true }) rfl)
  show execKeyRise s = _
  simp [execKeyRise, hk, hs, hr, ht]

/-- R85, R99: outside UNAVAILABLE and STANDBY no test is made. -/
theorem testEntry_of_untested (hu : s.sup.state ≠ .unavailable) (hs : s.sup.state ≠ .standby) : s.testEntry = s := by
  unfold State.testEntry
  split
  next h => exact absurd h hs
  next h => exact absurd h hu
  all_goals rfl

/-! ### KEY falls -/

/-- The state with KEY low. -/
def keyLow (s : State) : State := { s with key := false }

/-- The state that a fall of KEY leaves in a running part (R102, R150, R171). -/
def keyFallen (s : State) : State := (((keyLow s).securingNotice .keyOff).abortCheck .keyOff).tendSleep

theorem exec_keyFall (hr : s.running = true) (hk : s.key = true) :
    exec .keyFall s = .next (keyFallen s) := by
  show execKeyFall s = _
  simp only [execKeyFall, hk, hr, Bool.not_true, Bool.false_eq_true, if_false, if_true]
  rfl

theorem calm_keyFallen (s : State) : (keyFallen s).calm = (keyLow s).calm := by simp [keyFallen]

theorem key_keyFallen (s : State) : (keyFallen s).key = false := State.key_of_calm (calm_keyFallen s)

/-- R100: outside CHECKING an abort ends the run alone. -/
theorem abortCheck_of_ne_checking (h : s.sup.state ≠ .checking) (c : AbortCause) :
    s.abortCheck c = s ∨ s.abortCheck c = s.stopRun (.aborted c) := by
  unfold State.abortCheck
  split
  · exact .inr (if_neg h)
  · exact .inl rfl

/-- R88, R90: KEY falls in a hold. -/
theorem keyFallen_of_hold (hs : s.sup.state = .holding ∨ s.sup.state = .releasing) :
    s.EntersSecuring (keyFallen s) .keyOff := by
  obtain ⟨hstate, hreason, hctx, hhandover, hpark, hmode, hcounted⟩ := securingNotice_enters (s := keyLow s) hs .keyOff
  have hne : ((keyLow s).securingNotice .keyOff).sup.state ≠ .checking := by simp [hstate]
  obtain ⟨x, hx⟩ := tendSleep_eq (((keyLow s).securingNotice .keyOff).abortCheck .keyOff)
  rw [keyFallen, hx]
  rcases abortCheck_of_ne_checking hne .keyOff with e | e <;> rw [e] <;>
    exact ⟨hstate, hreason, hctx, hhandover, hpark, hmode, hcounted⟩

/-- R84, R100: with KEY low the report of a run's end with no unavailable condition leads to STANDBY, where it ends. -/
theorem checkReport_of_keyLow (hs : s.sup.state = .checking) (hk : s.key = false) (hr : s.unavailableReasons = []) :
    s.checkReport.sup.state = .standby ∧ s.checkReport.sup.reason = .none := by
  have he := enterStandbyCore_enters s .none
  have hc : s.checkReport = (s.enterStandbyCore .none).testHold := by
    unfold State.checkReport
    rw [if_pos hs, hr]
  have hkey : (s.enterStandbyCore .none).key = false := (State.key_of_calm he.calm).trans hk
  have hm : ∀ u, (State.workDriveTest (s.enterStandbyCore .none) u).entryMet = false := fun u => by
    have hu : (State.workDriveTest (s.enterStandbyCore .none) u).key = false := hkey
    simp [State.entryMet, hu]
  have hsup : s.checkReport.sup = (s.enterStandbyCore .none).sup := by
    rw [hc, testHold_of_unmet (by rw [he.sup]) (hm _)]
    rfl
  rw [hsup, he.sup]
  exact ⟨rfl, rfl⟩

/-- R100, R102, R150: KEY falls in CHECKING. -/
theorem keyFallen_of_checking (hs : s.sup.state = .checking) (ht : s.path.testing = true) :
    s.AbortsCheck (keyFallen s) .keyOff := by
  let u := (keyLow s).stopRun (.aborted .keyOff)
  have hu : keyFallen s = u.checkReport.tendSleep := by
    have hn : (keyLow s).securingNotice .keyOff = keyLow s := by
      unfold State.securingNotice
      rw [show (keyLow s).sup.state = .checking from hs]
    rw [keyFallen, hn, abortCheck_eq (s := keyLow s) ht]
  have hk := keepsChecks_checkReport u
  have hpath : (keyFallen s).path = u.path := by rw [hu, State.path_tendSleep, hk.path]
  rw [hu] at hpath ⊢
  constructor
  case idle | channel | level | timer | lastRun | results => rw [hpath]; rfl
  case checks =>
    intro c
    rw [State.channels_tendSleep, hk.check]
    rfl
  case clear =>
    intro hr
    rw [State.sup_tendSleep]
    exact checkReport_of_keyLow (s := u) hs rfl hr
  case standing =>
    intro r rest hr
    rw [State.sup_tendSleep]
    exact checkReport_standing (s := u) hs hr

/-- The supervisor states without a hold to secure and without a run of the path check. -/
def Resting (s : State) : Prop :=
  s.sup.state = .unavailable ∨ s.sup.state = .standby ∨ s.sup.state = .securing ∨ s.sup.state = .secured

/-- R94, R95: without a handover to drop no SECURING notice is heeded there. -/
theorem securingNotice_of_resting (hh : s.sup.handover = false) (hs : Resting s) (r : Reason) : s.securingNotice r = s := by
  rcases hs with hs | hs | hs | hs
  case inr.inr.inr =>
    rw [securingNotice_of_secured hs]
    exact if_neg (by simp [hh])
  all_goals
    unfold State.securingNotice
    rw [hs]

theorem tendSleep_of_stopped (h : s.sleepTimer = none) : s.tendSleep = { s with
    sleepTimer := if s.sleepReady then some ⟨s.now, s.work.settings.sleepDelay⟩ else none } := by
  unfold State.tendSleep
  rw [h]
  cases s.sleepReady <;> rfl

theorem sleepReady_of_resting (hr : s.running = true) (hk : s.key = false) (hs : Resting s) :
    s.sleepReady = true ↔ s.store.op = .idle ∧ s.sup.state ≠ .securing := by
  rcases hs with hs | hs | hs | hs <;> simp [State.sleepReady, hr, hk, hs]

/-- R171: the sleep delay timer alone may start. -/
theorem keyFallen_of_resting (hr : s.running = true) (ht : s.path.testing = false) (hh : s.sup.handover = false)
    (hx : s.sleepTimer = none) (hs : Resting s) : keyFallen s = { s with
      key := false
      sleepTimer := if s.store.op = .idle ∧ s.sup.state ≠ .securing
        then some ⟨s.now, s.work.settings.sleepDelay⟩ else none } := by
  rw [keyFallen, securingNotice_of_resting (s := keyLow s) hh hs, abortCheck_of_idle (s := keyLow s) ht,
    tendSleep_of_stopped (s := keyLow s) hx]
  simp only [sleepReady_of_resting (s := keyLow s) hr rfl hs]
  rfl

end

/-- Settles O4: KEY falls in a hold, in CHECKING and where it moves nothing; KEY rises. -/
theorem keyEdgesAreTaken : Obligations.KeyEdgesAreTaken := by
  refine ⟨fun s hr hk hs => ⟨_, exec_keyFall hr hk, key_keyFallen s, keyFallen_of_hold hs, calm_keyFallen s⟩,
    fun s hr hk hs ht => ?_, fun s hr hk ht hh hx hs => ?_, fun s hr hk => ⟨_, exec_keyRise hr hk, ?_, ?_, ?_, ?_⟩⟩
  · have ha := keyFallen_of_checking hs ht
    exact ⟨_, exec_keyFall hr hk, ha.idle, ha.lastRun, ha.results, ha.checks, ha.clear, ha.standing, calm_keyFallen s⟩
  · rw [exec_keyFall hr hk]
    exact congrArg _ (keyFallen_of_resting hr ht hh hx hs)
  · exact State.key_of_calm (State.calm_testEntry (keyHigh s))
  · exact sleepTimer_testEntry rfl rfl
  · exact State.calm_testEntry (keyHigh s)
  · exact fun hu hs => testEntry_of_untested (s := keyHigh s) hu hs

end Sys2Proof.Machine.StartAndSleep

namespace Sys2Proof.Machine.ItemFields

/-! The fields of the item groups: which there are, and what stands at their numbers (R22, R157, R158, R174). -/

section
variable {s : State}

/-! ### Lists read by a number -/

/-- Items of one length, one after the other: a place counts whole items, then places within one. -/
theorem getElem?_flatMap_of_length {α β : Type} {f : α → List β} {n j : Nat} (hf : ∀ x, (f x).length = n) (hj : j < n)
    (l : List α) (k : Nat) : (l.flatMap f)[n * k + j]? = l[k]?.bind fun x => (f x)[j]? := by
  induction l generalizing k with
  | nil => rfl
  | cons x l ih =>
    rw [List.flatMap_cons]
    cases k with
    | zero =>
      rw [List.getElem?_append_left (by simpa [hf x] using hj), Nat.mul_zero, Nat.zero_add]
      rfl
    | succ k =>
      have hk : n * (k + 1) + j - (f x).length = n * k + j := by rw [hf x, Nat.mul_succ]; omega
      rw [List.getElem?_append_right (by rw [hf x, Nat.mul_succ]; omega), hk, ih]
      rfl

theorem isSome_getElem?_iff_of_length {l : List Word32} {n : Nat} (h : l.length = n) (k : Nat) :
    l[k]?.isSome = true ↔ k < n := by
  rw [isSome_getElem?, ← h]

/-- Fields numbered from 0 without a gap. -/
theorem isSome_iff_lt {read : Nat → Option Word32} {n : Nat} (held : ∀ k < n, (read k).isSome = true)
    (beyond : ∀ k, read (k + n) = none) (k : Nat) : (read k).isSome = true ↔ k < n := by
  refine ⟨fun h => Nat.lt_of_not_le fun hk => ?_, held k⟩
  rw [← Nat.sub_add_cancel hk, beyond] at h
  cases h

/-! ### The fields an item holds -/

theorem isSome_read_settings (x : Settings) : ∀ k, (x.read k).isSome = true ↔ k < 45 :=
  isSome_iff_lt (fun k hk => by interval_cases k <;> rfl) fun _ => rfl

theorem isSome_read_route (e : RouteEntry) : ∀ k, (e.read k).isSome = true ↔ k < 8 :=
  isSome_iff_lt (fun k hk => by interval_cases k <;> rfl) fun _ => rfl

theorem isSome_read_signal (e : SigEntry) : ∀ k, (e.read k).isSome = true ↔ k < 11 :=
  isSome_iff_lt (fun k hk => by interval_cases k <;> rfl) fun _ => rfl

theorem isSome_read_breakpoint (p : Breakpoint) : ∀ k, (p.read k).isSome = true ↔ k < 2 :=
  isSome_iff_lt (fun k hk => by interval_cases k <;> rfl) fun _ => rfl

theorem isSome_read_chanEntry (e : ChanEntry) : ∀ k, (e.read k).isSome = true ↔ k < 5 :=
  isSome_iff_lt (fun k hk => by interval_cases k <;> rfl) fun _ => rfl

theorem isSome_counterOf (k : Nat) : (counterOf k).isSome = true ↔ k < 17 := by
  rw [counterOf, isSome_getElem?]
  exact Iff.rfl

theorem levelOf_eq (k : Nat) : levelOf k = [Level.low, .medium, .high][k]? := by
  match k with
  | 0 | 1 | 2 | k + 3 => rfl

theorem isSome_levelOf (k : Nat) : (levelOf k).isSome = true ↔ k < 3 := by
  rw [levelOf_eq, isSome_getElem?]
  exact Iff.rfl

theorem readChannel_of_setting {c : Chan} {k : Nat} (h : k < 5) : s.readChannel c k = (s.work.channels.get c).read k :=
  if_pos h

theorem readChannel_of_record {c : Chan} (k : Nat) : s.readChannel c (k + 5) = (s.recordStatus c)[k]? :=
  if_neg (by omega)

theorem isSome_readChannel (c : Chan) (k : Nat) : (s.readChannel c k).isSome = true ↔ k < 15 := by
  rcases Nat.lt_or_ge k 5 with h | h
  · rw [readChannel_of_setting h, isSome_read_chanEntry]
    omega
  · obtain ⟨j, rfl⟩ := Nat.exists_eq_add_of_le' h
    rw [readChannel_of_record, isSome_getElem?_iff_of_length (n := 10) rfl]
    omega

/-! ### The items a group holds -/

theorem isSome_indexOf_bind {n index m : Nat} {f : Fin n → Option Word32} {field : Nat}
    (h : ∀ k, (f k).isSome = true ↔ field < m) :
    ((indexOf n index).bind f).isSome = true ↔ index < n ∧ field < m := by
  unfold indexOf
  split
  case isTrue hi => exact (h _).trans (and_iff_right hi).symm
  case isFalse hi => exact iff_of_false nofun fun hf => hi hf.1

theorem chanOf_number (c : Chan) : chanOf c.number = some c := by cases c <;> rfl

theorem isSome_chanOf_bind {index m : Nat} {f : Chan → Option Word32} {field : Nat}
    (h : ∀ c, (f c).isSome = true ↔ field < m) :
    ((chanOf index).bind f).isSome = true ↔ 1 ≤ index ∧ index ≤ 4 ∧ field < m := by
  match index with
  | 1 | 2 | 3 | 4 => exact (h _).trans (by omega)
  | 0 | k + 5 => exact iff_of_false nofun (by omega)

theorem isSome_ite_zero {index m : Nat} {o : Option Word32} {field : Nat} (h : o.isSome = true ↔ field < m) :
    (if index = 0 then o else none).isSome = true ↔ index = 0 ∧ field < m := by
  split
  case isTrue hi => exact h.trans (and_iff_right hi).symm
  case isFalse hi => exact iff_of_false nofun fun hf => hi hf.1

/-! ### STATUS -/

/-- Index 0 in a hold context. -/
theorem supStatus_of_context {c : Context} (hc : s.sup.ctx = some c) : s.supStatus =
    [natWord s.sup.state.number, natWord s.sup.reason.number, optWord (c.uphill.map Heading.number), natWord c.step,
      s.leftWord c.holdLimit, natWord c.entryP, optWord (c.release.map (·.pStart)), s.leftWord (c.release.map (·.ramp)),
      optWord (c.release.map (·.dir.number)), flagWord c.reinforced, flagWord s.sup.handover,
      flagWord s.sup.autoPending] := by
  unfold State.supStatus
  rw [hc]
  rfl

theorem length_signalStatus : s.signalStatus.length = 60 := by
  simp [State.signalStatus, List.length_flatMap]

theorem length_lastFrameStatus (f : Option LastFrame) : (lastFrameStatus f).length = 3 := by cases f <;> rfl

theorem length_mergerStatusWords : s.mergerStatusWords.length = 24 := by
  simp [State.mergerStatusWords, length_lastFrameStatus, Slot.status]

theorem isSome_readStatus (index field : Nat) : (s.readStatus index field).isSome = true ↔
    field < [12, 17, 60, 9, 3, 43, 24, 4, 7, 5, 9, 4].getD index 0 := by
  match index with
  | 2 => exact isSome_getElem?_iff_of_length length_signalStatus field
  | 6 => exact isSome_getElem?_iff_of_length length_mergerStatusWords field
  | 0 | 1 | 3 | 4 | 5 | 7 | 8 | 9 | 10 | 11 => exact isSome_getElem?_iff_of_length rfl field
  | k + 12 => exact iff_of_false nofun (Nat.not_lt_zero field)

/-- Index 2: three fields to a signal. -/
theorem readStatus_signal (k : Fin 20) {j : Nat} (hj : j < 3) : s.readStatus 2 (3 * k.val + j) =
    let r := s.signals.records.get k
    [intWord r.value, natWord r.age.number, flagWord r.updated][j]? := by
  have hk : s.signals.records.toList[k.val]? = some (s.signals.records.get k) := by
    simp [Vector.get_eq_getElem]
  show s.signalStatus[3 * k.val + j]? = _
  rw [State.signalStatus, getElem?_flatMap_of_length (n := 3) (fun _ => rfl) hj, hk]
  rfl

/-- Index 5: seven fields to a wheel. -/
theorem readStatus_wheel {k : Nat} {w : Wheel} (hw : Wheel.all[k]? = some w) {j : Nat} (hj : j < 7) :
    s.readStatus 5 (7 * k + j) = (s.wheelStatus w)[j]? := by
  have hk : k < 6 := (List.getElem?_eq_some_iff.1 hw).1
  have hlen : (Wheel.all.flatMap s.wheelStatus).length = 42 := rfl
  show s.creepStatus[7 * k + j]? = _
  rw [State.creepStatus, List.getElem?_append_left (by rw [hlen]; omega),
    getElem?_flatMap_of_length (n := 7) (fun _ => rfl) hj, hw]
  rfl

/-- Index 6: the last driver frame takes three fields whether it is there or not, so field 20 is the control queue's. -/
theorem readStatus_merger_tail (k : Nat) : s.readStatus 6 (k + 20) = [natWord s.merger.control.length,
    natWord s.merger.conf.number, natWord s.merger.confirmLevel, s.leftWord s.merger.stage][k]? := by
  show s.mergerStatusWords[k + 20]? = _
  rw [State.mergerStatusWords, List.getElem?_append_right] <;> simp [length_lastFrameStatus, Slot.status]

/-! ### Values -/

/-- Index 9: the image state's numbers are those of the flag that the image is bad. -/
theorem natWord_imageState (b : Bool) : natWord (if b then 0 else 1) = flagWord (!b) := by cases b <;> rfl

theorem natWord_tableState (t : TableState) : natWord t.number = flagWord (decide (t = .suspended)) := by
  cases t <;> rfl

/-- The saturated marker as bit 8. -/
theorem word_counter (c : Counter) : c.word = natWord (c.count.toNat + if c.saturated then 256 else 0) := by
  unfold Counter.word
  cases c.saturated <;> rfl

/-- R174: the outcome in byte 0, the pressure above it, the updated marker as bit 24. -/
theorem word_checkResult (r : CheckResult) : r.word =
    natWord (r.outcome.number + 2 ^ 8 * r.pressure + if r.updated then 2 ^ 24 else 0) := by
  unfold CheckResult.word
  cases r.updated <;> rfl

theorem readField_counters {k : Nat} {n : CounterName} (h : counterOf k = some n) :
    s.readField .counters 0 k = some (s.counters.get n).word := by
  show (counterOf k).map _ = _
  rw [h]
  rfl

theorem readField_checkResults (c : Chan) {k : Nat} {l : Level} (h : levelOf k = some l) :
    s.readField .checkResults c.number k = some ((s.path.results.get c).get l).word := by
  show (chanOf c.number).bind _ = _
  rw [chanOf_number, h]
  rfl

theorem readField_channel (c : Chan) (k : Nat) : s.readField .channel c.number k = s.readChannel c k := by
  show (chanOf c.number).bind _ = _
  rw [chanOf_number]
  rfl

end

/-- Settles O54: the fields held group by group, then the values, index by index. -/
theorem fieldsAreNumberedInTheirOrder : Obligations.FieldsAreNumberedInTheirOrder := by
  intro s num flag status age left
  have hage (a : Age) : age a = some (natWord a.number) := by cases a <;> rfl
  have hleft (t : Timer) : left t = some (s.leftWord t) := by cases t <;> rfl
  refine ⟨fun g index field => ?fields, ?supervisor, ?calculator, ?signals, ?window, ?channels, ?wheels, rfl, ?merger,
    ?park, ?path, ?store, ?ports, ?tables, ?counters, ?results, ?records, fun _ => rfl⟩
  case fields =>
    cases g with
    | settings => exact isSome_ite_zero (isSome_read_settings _ _)
    | route => exact isSome_indexOf_bind fun _ => isSome_read_route _ _
    | signal => exact isSome_indexOf_bind fun _ => isSome_read_signal _ _
    | gradeCurve | drumCurve => exact isSome_indexOf_bind fun _ => isSome_read_breakpoint _ _
    | channel => exact isSome_chanOf_bind fun c => isSome_readChannel c _
    | status => exact isSome_readStatus index field
    | counters => exact isSome_ite_zero (by rw [Option.isSome_map, isSome_counterOf])
    | checkResults => exact isSome_chanOf_bind fun _ => by rw [Option.isSome_map, isSome_levelOf]
  case supervisor =>
    have hstep : status 0 3 = some (optWord (s.sup.ctx.map (·.step))) := rfl
    refine ⟨rfl, rfl, rfl, rfl, fun c hc => ?_, fun hc => by rw [hstep, hc]; rfl⟩
    have hread (k : Nat) : status 0 k = s.supStatus[k]? := rfl
    simp only [hread, supStatus_of_context hc, hleft]
    refine ⟨rfl, rfl, rfl, rfl, fun r hr => ?_⟩
    rw [hr]
    exact ⟨rfl, rfl⟩
  case calculator =>
    intro r
    exact ⟨fun k => by fin_cases k <;> rfl, rfl, rfl, rfl⟩
  case signals =>
    intro k
    simp only [hage]
    exact ⟨readStatus_signal k (j := 0) (by decide), readStatus_signal k (j := 1) (by decide),
      readStatus_signal k (j := 2) (by decide)⟩
  case window =>
    rw [hleft]
    exact ⟨rfl, rfl, fun g hg => congrArg some (congrArg optIntWord hg)⟩
  case channels =>
    exact ⟨rfl, fun m hm => congrArg some (congrArg optWord hm), fun hm => congrArg some (congrArg optWord hm)⟩
  case wheels =>
    intro k t
    have hw := List.getElem?_eq_getElem (l := Wheel.all) k.isLt
    exact ⟨readStatus_wheel hw (j := 0) (by decide),
      fun n hn => (readStatus_wheel hw (j := 1) (by decide)).trans (congrArg some (congrArg optWord hn)),
      readStatus_wheel hw (j := 3) (by decide)⟩
  case merger =>
    simp only [hage, hleft]
    exact ⟨rfl, rfl, rfl, rfl, rfl, rfl, rfl, readStatus_merger_tail 0, readStatus_merger_tail 2,
      readStatus_merger_tail 3⟩
  case park => exact ⟨rfl, rfl, (hleft _).symm⟩
  case path => exact ⟨rfl, rfl, (hleft _).symm⟩
  case store => exact ⟨rfl, congrArg some (natWord_imageState _)⟩
  case ports => exact ⟨rfl, rfl, rfl, rfl, rfl, rfl, rfl⟩
  case tables =>
    have htable (t : TableState) : some (natWord t.number) = flag (decide (t = .suspended)) :=
      congrArg some (natWord_tableState t)
    exact ⟨htable _, htable _, htable _, htable _⟩
  case counters =>
    intro k n
    exact (readField_counters (List.getElem?_eq_getElem k.isLt)).trans (congrArg some (word_counter n))
  case results =>
    intro c k r outcome
    have hlevel := (levelOf_eq k).trans (List.getElem?_eq_getElem k.isLt)
    exact (readField_checkResults c hlevel).trans (congrArg some (word_checkResult r))
  case records =>
    intro c r field e
    have hfield (k : Nat) : field k = s.readChannel c k := readField_channel c k
    simp only [hfield, hage, hleft]
    exact ⟨rfl, rfl, rfl, rfl, rfl, rfl, rfl, rfl, rfl, rfl⟩

end Sys2Proof.Machine.ItemFields

namespace Sys2Proof.Machine.Queue

/-! ### The command queue: a step in which a command waits -/

/-- Only the front of the queue is read by a step, and what is carried out sees the rest alone. -/
theorem step_of_pending {s : State} {c : Instr} {rest : List Instr} (h : s.pending = c :: rest) :
    step s = exec c { s with pending := rest } := by
  rw [step, h]

/-- Settles O1: the queue put in is the one the step finds, and the rest replaces it. -/
theorem stepRunsTheFrontCommand : Obligations.StepRunsTheFrontCommand := by
  intro c rest s
  exact step_of_pending (s := { s with pending := c :: rest }) rfl

end Sys2Proof.Machine.Queue

namespace Sys2Proof.Machine.TrafficLaws

/-! What the sizes of queues and counts and the laws of the slots speak of (R2, R3, R6, R15, R19, R20, R34, R122, R123,
R125, R146, R155, R156), and the relation of two states that both sets of laws pass along. -/

/-! ### What the laws speak of -/

/-- The part of the state that the sizes and the laws of the slots speak of. -/
structure Traffic where
  powered : Bool
  portV : PortCtl
  portB : PortCtl
  vToB : List Frame
  bToV : List Frame
  slotA : Slot
  slotB : Slot
  control : List Frame
  requests : List Frame
  replies : List Reply
  window : List Int
  settle : Nat

def traffic (s : State) : Traffic :=
  ⟨s.powered, s.portV, s.portB, s.vToB, s.bToV, s.merger.slotA, s.merger.slotB, s.merger.control, s.resp.requests,
    s.resp.replies, s.signals.window, s.path.settle⟩

theorem bounded_congr {s t : State} (he : traffic t = traffic s) (h : s.Bounded) : t.Bounded where
  portV := (show t.portV = s.portV from congrArg Traffic.portV he) ▸ h.portV
  portB := (show t.portB = s.portB from congrArg Traffic.portB he) ▸ h.portB
  vToB := (congrArg (fun x : Traffic => x.vToB.length) he).trans_le h.vToB
  bToV := (congrArg (fun x : Traffic => x.bToV.length) he).trans_le h.bToV
  control := (congrArg (fun x : Traffic => x.control.length) he).trans_le h.control
  requests := (congrArg (fun x : Traffic => x.requests.length) he).trans_le h.requests
  replies := (congrArg (fun x : Traffic => x.replies.length) he).trans_le h.replies
  window := (congrArg (fun x : Traffic => x.window.length) he).trans_le h.window
  settle := (congrArg Traffic.settle he).trans_le h.settle

/-- The laws of one slot's content against Port B's attempt. -/
theorem slotLaw_congr {m m' : Merger} {n : SlotName} {a : Option Attempt} (he : m'.slot n = m.slot n)
    (h : m.SlotLaw n a) : m'.SlotLaw n a where
  held := by rw [he]; exact h.held
  ordered := by rw [he]; exact h.ordered
  sending := by rw [he]; exact h.sending
  same := by rw [he]; exact h.same

/-- The laws of the slots speak of power, the slots and the two attempts alone. -/
theorem slotted_of_slots {s t : State} (hp : t.powered = s.powered) (hv : t.portV.attempt = s.portV.attempt)
    (hb : t.portB.attempt = s.portB.attempt) (hA : t.merger.slotA = s.merger.slotA)
    (hB : t.merger.slotB = s.merger.slotB) (h : s.Slotted) : t.Slotted := by
  constructor
  case slots =>
    intro hpow n
    rw [hb]
    exact slotLaw_congr (by cases n <;> assumption) (h.slots (hp ▸ hpow) n)
  case orders =>
    rw [hp, hA, hB]
    exact h.orders
  case sourceV => rw [hv]; exact h.sourceV
  case sourceB => rw [hb]; exact h.sourceB

theorem slotted_congr {s t : State} (he : traffic t = traffic s) (h : s.Slotted) : t.Slotted :=
  slotted_of_slots (congrArg Traffic.powered he) (congrArg (fun x : Traffic => x.portV.attempt) he)
    (congrArg (fun x : Traffic => x.portB.attempt) he) (congrArg Traffic.slotA he) (congrArg Traffic.slotB he) h

/-- A change of the state that keeps the sizes, and that keeps the laws of the slots. -/
structure Leads (s t : State) : Prop where
  bounded : s.Bounded → t.Bounded
  slotted : s.Slotted → t.Slotted

theorem Leads.refl (s : State) : Leads s s := ⟨id, id⟩

theorem Leads.trans {s t u : State} (h : Leads s t) (h' : Leads t u) : Leads s u :=
  ⟨h'.bounded ∘ h.bounded, h'.slotted ∘ h.slotted⟩

section
variable {s t : State}

/-- What changes nothing that the laws speak of. -/
theorem Leads.congr (h : Leads s t) {u : State} (he : traffic u = traffic t) : Leads s u :=
  ⟨bounded_congr he ∘ h.bounded, slotted_congr he ∘ h.slotted⟩

/-- A change of the settle count alone. -/
theorem Leads.settled (h : Leads s t) {u : State} {n : Nat} (he : traffic u = { traffic t with settle := n })
    (hn : t.path.settle ≤ 3 → n ≤ 3) : Leads s u where
  bounded hs := by
    have hb := h.bounded hs
    refine bounded_congr (s := { t with path := { t.path with settle := n } }) he ?_
    exact { hb with settle := hn hb.settle }
  slotted hs := by
    have hl := h.slotted hs
    refine slotted_congr (s := { t with path := { t.path with settle := n } }) he ?_
    exact { hl with }

end

/-! ### Slots -/

/-- The laws of both slots against Port B's attempt. -/
structure SlotsHold (m : Merger) (a : Option Attempt) : Prop where
  law : ∀ n, m.SlotLaw n a
  orders : ∀ n, (m.slot n).frame.isSome → (m.slot n.other).frame.isSome → (m.slot n).order ≠ (m.slot n.other).order

theorem slotted_iff {s : State} : s.Slotted ↔ (s.powered = true → SlotsHold s.merger s.portB.attempt) ∧
    (∀ a, s.portV.attempt = some a → a.source = .reply ∨ a.source = .cab ∨ a.source = .bToV) ∧
    ∀ a, s.portB.attempt = some a → (∃ n, a.source = .slot n) ∨ a.source = .control ∨ a.source = .vToB := by
  constructor
  · intro h
    refine ⟨fun hp => ⟨h.slots hp, fun n => ?_⟩, h.sourceV, h.sourceB⟩
    cases n with
    | a => exact h.orders hp
    | b => exact fun hb ha => (h.orders hp ha hb).symm
  · rintro ⟨hs, hv, hb⟩
    exact ⟨fun hp => (hs hp).law, fun hp => (hs hp).orders .a, hv, hb⟩

section
variable {m m' : Merger} {a a' : Option Attempt} {n : SlotName}

/-- Both slots' laws from those of one slot and the other. -/
theorem SlotsHold.of_both (hn : m.SlotLaw n a) (ho : m.SlotLaw n.other a)
    (hord : (m.slot n).frame.isSome → (m.slot n.other).frame.isSome → (m.slot n).order ≠ (m.slot n.other).order) :
    SlotsHold m a where
  law k := by rcases DemandMerger.eq_or_eq_other n k with rfl | rfl <;> assumption
  orders k := by
    rcases DemandMerger.eq_or_eq_other n k with rfl | rfl
    · exact hord
    · have he : n.other.other = n := by cases n <;> rfl
      rw [he]
      exact fun ho' hn' => (hord hn' ho').symm

/-- The law of a slot reads the attempt for that slot's frame alone. -/
theorem slotLaw_attempt (h : m.SlotLaw n a) (ha : ∀ f, a' = some ⟨.slot n, f⟩ ↔ a = some ⟨.slot n, f⟩) :
    m.SlotLaw n a' where
  held := h.held
  ordered := h.ordered
  sending := h.sending.trans (exists_congr fun f => (ha f).symm)
  same f hf := h.same f ((ha f).1 hf)

/-- A slot outside SENDING is not Port B's source. -/
theorem attempt_ne_of_slotLaw (h : m.SlotLaw n a) (hs : (m.slot n).state ≠ .sending) (f : Frame) :
    a ≠ some ⟨.slot n, f⟩ := fun ha => hs (h.sending.2 ⟨f, ha⟩)

/-- A slot that holds a frame and is not Port B's source. -/
theorem slotLaw_of_waiting {x : Slot} (he : m.slot n = x) (ha : ∀ f, a ≠ some ⟨.slot n, f⟩) (hf : x.frame.isSome)
    (ho : x.order.isSome) (hempty : x.state ≠ .empty) (hs : x.state ≠ .sending) : m.SlotLaw n a := by
  subst he
  exact ⟨by simp [hf, hempty], fun _ => ho, by simp [hs, ha], fun f hf => absurd hf (ha f)⟩

/-- The discard timers and outcomes are not part of the laws. -/
theorem SlotsHold.congr (h : SlotsHold m a) (hs : ∀ n, (m'.slot n).state = (m.slot n).state)
    (hf : ∀ n, (m'.slot n).frame = (m.slot n).frame) (ho : ∀ n, (m'.slot n).order = (m.slot n).order) :
    SlotsHold m' a where
  law n := by
    have hl := h.law n
    constructor
    case held => rw [hf, hs]; exact hl.held
    case ordered => rw [hf, ho]; exact hl.ordered
    case sending => rw [hs]; exact hl.sending
    case same => rw [hf]; exact hl.same
  orders n := by
    rw [hf, hf, ho, ho]
    exact h.orders n

/-- An attempt of no slot begins or ends. -/
theorem SlotsHold.attempt (h : SlotsHold m a) (ha : ∀ n f, a ≠ some ⟨.slot n, f⟩) (ha' : ∀ n f, a' ≠ some ⟨.slot n, f⟩) :
    SlotsHold m a' :=
  ⟨fun n => slotLaw_attempt (h.law n) fun f => by simp [ha, ha'], h.orders⟩

/-- R122 step 1: a frame loaded into a slot that is EMPTY or DONE. -/
theorem SlotsHold.load (h : SlotsHold m a) (hn : (m.slot n).state ≠ .sending) (f : Frame) (d : Timer) :
    SlotsHold (m.load n f d) a := by
  have ho := h.law n.other
  refine SlotsHold.of_both (n := n) ?_ ?_ ?_
  · exact slotLaw_of_waiting (DemandMerger.slot_load_self f d) (attempt_ne_of_slotLaw (h.law n) hn) rfl rfl nofun nofun
  · constructor <;> rw [DemandMerger.slot_load_other]
    case held => exact ho.held
    case ordered => intro hf; simp only [if_pos hf, Option.isSome_some]
    case sending => exact ho.sending
    case same => exact ho.same
  · rw [DemandMerger.slot_load_self, DemandMerger.slot_load_other]
    intro _ hf
    simp only [if_pos hf]
    decide

/-- R122 step 2: the frame of a LOADED slot is replaced. -/
theorem SlotsHold.replace (h : SlotsHold m a) (hn : (m.slot n).state = .loaded) (f : Frame) (d : Timer) :
    SlotsHold (m.setSlot n { m.slot n with frame := some f, discard := d }) a := by
  have hl := h.law n
  have hframe : (m.slot n).frame.isSome := hl.held.2 (by simp [hn])
  refine SlotsHold.of_both (n := n) ?_ ?_ ?_
  · exact slotLaw_of_waiting (Merger.slot_setSlot_self ..) (attempt_ne_of_slotLaw hl (by simp [hn])) rfl
      (hl.ordered hframe) (by simp [hn]) (by simp [hn])
  · exact slotLaw_congr (Merger.slot_setSlot_other ..) (h.law n.other)
  · rw [Merger.slot_setSlot_self, Merger.slot_setSlot_other]
    exact fun _ => h.orders n hframe

/-- R122 step 1: a free slot is EMPTY or DONE. -/
theorem freeSlot_ne_sending (h : m.freeSlot = some n) : (m.slot n).state ≠ .sending := by
  unfold Merger.freeSlot at h
  split at h
  next ha => cases h; simp [Merger.slot, ha]
  next hb _ => cases h; simp [Merger.slot, hb]
  next ha hb =>
    split at h
    · cases h; simp [Merger.slot, hb]
    · cases h; simp [Merger.slot, ha]
  next ha _ _ => cases h; simp [Merger.slot, ha]
  next hb _ _ => cases h; simp [Merger.slot, hb]
  next => cases h

theorem loaded_of_replaceSlot (h : m.replaceSlot = some n) : (m.slot n).state = .loaded := by
  unfold Merger.replaceSlot at h
  split at h
  next ha hb =>
    split at h
    · cases h; exact ha
    · cases h; exact hb
  next ha _ => cases h; exact ha
  next hb _ => cases h; exact hb
  next => cases h

/-- R19: the slot that Port B's arbiter gives is LOADED. -/
theorem loaded_of_readySlot (h : m.readySlot = some n) : (m.slot n).state = .loaded := by
  unfold Merger.readySlot at h
  split at h
  next ha hb =>
    split at h
    · cases h; exact hb
    · cases h; exact ha
  next ha _ => cases h; exact ha
  next hb _ => cases h; exact hb
  next => cases h

/-- R122: a frame made. -/
theorem SlotsHold.place (h : SlotsHold m a) (f : Frame) (d : Timer) : SlotsHold (m.place f d) a := by
  unfold Merger.place
  split
  next n hn => exact h.load (freeSlot_ne_sending hn) f d
  next =>
    split
    next n hn => exact h.replace (loaded_of_replaceSlot hn) f d
    next => exact h

/-- R124: a LOADED slot is emptied. -/
theorem SlotsHold.discard (h : SlotsHold m a) (hn : (m.slot n).state = .loaded) : SlotsHold (m.setSlot n Slot.start) a := by
  have ha := attempt_ne_of_slotLaw (h.law n) (by simp [hn])
  refine SlotsHold.of_both (n := n) ?_ ?_ ?_
  · constructor <;> simp [Slot.start, ha]
  · exact slotLaw_congr (Merger.slot_setSlot_other ..) (h.law n.other)
  · simp [Slot.start]

/-- R19: Port B's arbiter gives a LOADED slot's frame. -/
theorem SlotsHold.choose (h : SlotsHold m none) {f : Frame} (hs : (m.slot n).state = .loaded)
    (hf : (m.slot n).frame = some f) :
    SlotsHold (m.setSlot n { m.slot n with state := .sending, discard := none }) (some ⟨.slot n, f⟩) := by
  have hl := h.law n
  refine SlotsHold.of_both (n := n) ?_ ?_ ?_
  · constructor <;> rw [Merger.slot_setSlot_self]
    case held => simp [hf]
    case ordered => exact hl.ordered
    case sending => simp
    case same => simp [hf]
  · refine slotLaw_attempt (slotLaw_congr (Merger.slot_setSlot_other ..) (h.law n.other)) ?_
    cases n <;> simp [SlotName.other]
  · rw [Merger.slot_setSlot_self, Merger.slot_setSlot_other]
    exact h.orders n

/-- R123: the attempt of a slot has ended. -/
theorem SlotsHold.finish {f : Frame} (h : SlotsHold m (some ⟨.slot n, f⟩)) (o : SlotOutcome) :
    SlotsHold (m.finishSlot n o) none := by
  have hl := h.law n
  have hs : (m.slot n).state = .sending := hl.sending.2 ⟨f, rfl⟩
  have hframe : (m.slot n).frame.isSome := hl.held.2 (by simp [hs])
  unfold Merger.finishSlot
  refine SlotsHold.of_both (n := n) ?_ ?_ ?_
  · exact slotLaw_of_waiting (Merger.slot_setSlot_self ..) nofun hframe (hl.ordered hframe) nofun nofun
  · refine slotLaw_attempt (slotLaw_congr (Merger.slot_setSlot_other ..) (h.law n.other)) ?_
    cases n <;> simp [SlotName.other]
  · rw [Merger.slot_setSlot_self, Merger.slot_setSlot_other]
    exact h.orders n

end

end Sys2Proof.Machine.TrafficLaws

namespace Sys2Proof.Machine.TrafficLaws

/-! The sizes and the slots' laws through the merger, the supervisor and the path check. -/

/-! ### Operations that leave the traffic alone -/

@[simp] theorem traffic_count (s : State) (n : CounterName) : traffic (s.count n) = traffic s := rfl

@[simp] theorem traffic_restartRefresh (s : State) : traffic s.restartRefresh = traffic s := by
  unfold State.restartRefresh; split <;> rfl

@[simp] theorem traffic_enterRefresh (s : State) : traffic s.enterRefresh = traffic s := by
  unfold State.enterRefresh; split
  · exact traffic_restartRefresh s
  · rfl

@[simp] theorem traffic_tendSleep (s : State) : traffic s.tendSleep = traffic s := by
  unfold State.tendSleep; split <;> rfl

@[simp] theorem traffic_makeCab (s : State) : traffic s.makeCab = traffic s := by
  unfold State.makeCab; dsimp only; split <;> rfl

@[simp] theorem traffic_setMode (s : State) (m : HoldMode) : traffic (s.setMode m) = traffic s := by cases m <;> rfl

@[simp] theorem traffic_move (s : State) (st : SupState) (r : Reason) : traffic (s.move st r) = traffic s := by
  rw [State.move, traffic_makeCab, traffic_tendSleep, traffic_enterRefresh]; rfl

@[simp] theorem traffic_changeReason (s : State) (r : Reason) : traffic (s.changeReason r) = traffic s := by
  unfold State.changeReason; split
  · rfl
  · rw [traffic_makeCab]; rfl

@[simp] theorem traffic_mapContext (s : State) (f : Context → Context) : traffic (s.mapContext f) = traffic s := rfl

@[simp] theorem traffic_deassertPark (s : State) : traffic s.deassertPark = traffic s := rfl

@[simp] theorem traffic_evaluateCore (s : State) : traffic s.evaluateCore = traffic s := rfl

@[simp] theorem traffic_workDriveTest (s : State) (u : Option Heading) : traffic (s.workDriveTest u) = traffic s := rfl

@[simp] theorem traffic_rework (s : State) : traffic s.rework = traffic s := rfl

@[simp] theorem traffic_channelsStandby (s : State) : traffic s.channelsStandby = traffic s := rfl

@[simp] theorem traffic_enterUnavailable (s : State) (r : Reason) : traffic (s.enterUnavailable r) = traffic s := by
  unfold State.enterUnavailable; dsimp only
  split <;> simp <;> rfl

@[simp] theorem traffic_buildConfirmed (s : State) : traffic s.buildConfirmed = traffic s := by
  unfold State.buildConfirmed
  split
  · split
    · simp
    · rw [traffic_move]; rfl
  · rfl

@[simp] theorem traffic_judge (s : State) : traffic s.judge = traffic s := by
  have hb (m : Merger) (ha : m.slotA = s.merger.slotA) (hb : m.slotB = s.merger.slotB)
      (hc : m.control = s.merger.control) : traffic (State.buildConfirmed { s with merger := m }) = traffic s := by
    rw [traffic_buildConfirmed]
    simp [traffic, ha, hb, hc]
  unfold State.judge
  split
  · split
    · exact hb _ rfl rfl rfl
    · rfl
  · split
    · exact hb _ rfl rfl rfl
    · rfl
  · rfl

@[simp] theorem traffic_noticeConfirm (s : State) (a : Bool) : traffic (s.noticeConfirm a) = traffic s := by
  unfold State.noticeConfirm
  split
  · rfl
  · split
    · rw [State.arm, traffic_judge]; rfl
    · rfl

@[simp] theorem traffic_enterStandbyCore (s : State) (r : Reason) : traffic (s.enterStandbyCore r) = traffic s := by
  unfold State.enterStandbyCore
  dsimp only
  split <;> simp <;> rfl

@[simp] theorem traffic_writeResult (s : State) (c : Chan) (l : Level) (o : ResultOutcome) (p : Nat) :
    traffic (s.writeResult c l o p) = traffic s := rfl

@[simp] theorem traffic_stopLevel (s : State) : traffic s.stopLevel = traffic s := rfl

@[simp] theorem traffic_writeCheck (s : State) (c : Chan) (x : CheckState) : traffic (s.writeCheck c x) = traffic s := by
  rcases AxleChannels.writeCheck_eq_or s c x with e | e <;> rw [e] <;> rfl

section
variable {s t : State}

/-! ### The merger -/

/-- A change of the slots that keeps their laws, whatever Port B's attempt. -/
theorem Leads.slots (h : Leads s t) {u : State} {m : Merger}
    (he : traffic u = { traffic t with slotA := m.slotA, slotB := m.slotB, control := m.control })
    (hc : m.control = t.merger.control) (hm : ∀ a, SlotsHold t.merger a → SlotsHold m a) : Leads s u where
  bounded hs := by
    have hb := h.bounded hs
    exact bounded_congr (s := { t with merger := m }) he { hb with control := hc ▸ hb.control }
  slotted hs := by
    obtain ⟨hl, hv, hb⟩ := slotted_iff.1 (h.slotted hs)
    exact slotted_congr (s := { t with merger := m }) he (slotted_iff.2 ⟨fun hp => hm _ (hl hp), hv, hb⟩)

theorem Leads.makeDemand (h : Leads s t) : Leads s t.makeDemand := by
  unfold State.makeDemand
  split
  · exact h.congr (by simp)
  next id _ =>
    let timer := t.timer t.work.settings.slotDiscardTime
    refine h.slots (m := t.merger.place (t.demandFrame id) timer) ?_ (Merger.control_place ..)
      fun a ha => ha.place _ timer
    rw [traffic_restartRefresh]
    rfl

theorem Leads.makeForComponent (h : Leads s t) : Leads s t.makeForComponent := by
  unfold State.makeForComponent
  split
  · exact h
  · exact h
  all_goals exact h.makeDemand

theorem Leads.noticeComponent (h : Leads s t) : Leads s t.noticeComponent := by
  unfold State.noticeComponent
  split
  · exact h
  · exact h.makeForComponent

theorem Leads.noticeConfirm (h : Leads s t) (a : Bool) : Leads s (t.noticeConfirm a) := h.congr (by simp)

theorem Leads.handMode (h : Leads s t) (m : HoldMode) (a : Bool) : Leads s (t.handMode m a) :=
  (Leads.noticeComponent (t := t.setMode m) (h.congr (by simp))).noticeConfirm a

theorem Leads.mergerRecord (h : Leads s t) : Leads s t.mergerRecord := h.noticeComponent.noticeConfirm _

theorem Leads.mergerSet (h : Leads s t) : Leads s t.mergerSet := h.noticeComponent.noticeConfirm _

/-! ### The supervisor -/

theorem Leads.enterSecuring (h : Leads s t) (r : Reason) : Leads s (t.enterSecuring r) := by
  refine Leads.handMode (h.congr ?_) _ _
  rw [traffic_move]
  rfl

theorem Leads.dropHandover (h : Leads s t) : Leads s t.dropHandover := by
  unfold State.dropHandover
  split
  · refine Leads.handMode (h.congr ?_) _ _
    rfl
  · exact h

theorem Leads.securingNotice (h : Leads s t) (r : Reason) : Leads s (t.securingNotice r) := by
  unfold State.securingNotice
  split
  · exact h.enterSecuring r
  · exact h.enterSecuring r
  · exact h.dropHandover
  all_goals exact h

theorem Leads.recordInHold (h : Leads s t) : Leads s t.recordInHold := by
  unfold State.recordInHold
  split
  · exact h.securingNotice _
  · exact h

theorem Leads.evaluateCore (h : Leads s t) : Leads s t.evaluateCore := h.congr rfl

theorem Leads.evaluateHold (h : Leads s t) : Leads s t.evaluateHold := h.evaluateCore.recordInHold.mergerRecord

theorem Leads.enterHolding (h : Leads s t) : Leads s t.enterHolding := by
  refine (Leads.handMode (h.congr ?_) _ _).recordInHold
  rw [traffic_move]
  rfl

theorem Leads.enterReleasing (h : Leads s t) (d : ReleaseDir) : Leads s (t.enterReleasing d) :=
  Leads.handMode (h.congr (by simp)) _ _

theorem Leads.returnToHolding (h : Leads s t) : Leads s t.returnToHolding := Leads.handMode (h.congr (by simp)) _ _

theorem Leads.driveOutcome (h : Leads s t) (o : DriveOutcome) : Leads s (t.driveOutcome o) := by
  unfold State.driveOutcome
  split
  · exact h.enterReleasing _
  · exact h.enterReleasing _
  · exact h.returnToHolding
  all_goals exact h.congr rfl

theorem Leads.raiseStep (h : Leads s t) : Leads s t.raiseStep := h.congr rfl

theorem Leads.count (h : Leads s t) (n : CounterName) : Leads s (t.count n) := h.congr rfl

theorem Leads.creepReport (h : Leads s t) : Leads s t.creepReport := by
  unfold State.creepReport
  split
  · split
    · exact h.raiseStep.evaluateHold
    · exact (h.count _).enterSecuring _
  · split
    · split
      · exact h.raiseStep.returnToHolding.evaluateHold
      · exact (h.count _).enterSecuring _
    · exact h
  · split
    · exact h.raiseStep.evaluateHold
    · exact h.congr (by simp)
  · refine Leads.handMode (h.congr ?_) _ _
    rfl
  all_goals exact h

theorem Leads.springConfirmed (h : Leads s t) : Leads s t.springConfirmed := by
  unfold State.springConfirmed
  split
  · exact Leads.handMode (h.congr (by simp)) _ _
  · exact h

theorem Leads.holdLimitReached (h : Leads s t) : Leads s t.holdLimitReached :=
  Leads.securingNotice (h.congr (traffic_mapContext ..)) _

theorem Leads.testHold (h : Leads s t) : Leads s t.testHold := by
  unfold State.testHold
  dsimp only
  split
  · split
    · exact Leads.enterHolding (h.congr (traffic_workDriveTest ..))
    · exact h.congr (traffic_workDriveTest ..)
  · exact h

theorem Leads.checkReport (h : Leads s t) : Leads s t.checkReport := by
  unfold State.checkReport
  split
  · split
    · exact Leads.testHold (h.congr (by simp))
    · exact h.congr (by simp)
  · exact h

/-! ### The path check -/

theorem Leads.startLevel (h : Leads s t) (c : Chan) (l : Level) : Leads s (t.startLevel c l) :=
  Leads.makeForComponent (h.settled (n := 0) rfl fun _ => by omega)

theorem Leads.stopRun (h : Leads s t) (r : LastRun) : Leads s (t.stopRun r) := h.settled (n := 0) rfl fun _ => by omega

theorem Leads.chooseChannel (h : Leads s t) (a : Option Chan) : Leads s (t.chooseChannel a) := by
  unfold State.chooseChannel
  split
  · exact h.startLevel _ _
  · exact (h.stopRun _).checkReport

theorem Leads.finishPassed (h : Leads s t) (c : Chan) : Leads s (t.finishPassed c) :=
  Leads.chooseChannel (h.congr (by simp)) _

theorem Leads.failLevel (h : Leads s t) (c : Chan) (l : Level) : Leads s (t.failLevel c l) := by
  unfold State.failLevel State.finishFailed
  refine Leads.chooseChannel (h.congr ?_) _
  cases l <;> simp [Level.above]

/-- R146: the third settled status frame ends the level, and the count starts at 0 again at the next. -/
theorem Leads.passLevel {n : Nat} {p : PathCheck} (h : Leads s t) (hp : p = { t.path with settle := n }) (c : Chan)
    (l : Level) : Leads s (State.passLevel { t with path := p } c l) := by
  subst hp
  unfold State.passLevel
  dsimp only
  split
  · exact Leads.makeForComponent (h.settled (n := 0) rfl fun _ => by omega)
  · unfold State.finishPassed State.chooseChannel
    split
    · refine Leads.makeForComponent (h.settled (n := 0) ?_ fun _ => by omega)
      exact congrArg (fun x : Traffic => { x with settle := 0 }) (traffic_writeCheck ..)
    · refine Leads.checkReport (h.settled (n := 0) ?_ fun _ => by omega)
      exact congrArg (fun x : Traffic => { x with settle := 0 }) (traffic_writeCheck ..)

theorem Leads.abandon (h : Leads s t) (c : Chan) : Leads s (t.abandon c) :=
  Leads.chooseChannel (h.congr (traffic_stopLevel _)) _

theorem Leads.judgeLevel (h : Leads s t) (c : Chan) (l : Level) : Leads s (t.judgeLevel c l) := by
  unfold State.judgeLevel
  dsimp only
  split
  · split
    · exact h.passLevel rfl c l
    next hn => exact h.settled (n := t.path.settle + 1) rfl fun _ => by omega
  · exact h.settled (n := 0) rfl fun _ => by omega

theorem Leads.pathStatus (h : Leads s t) (c : Chan) : Leads s (t.pathStatus c) := by
  unfold State.pathStatus
  split
  · split
    · split
      · exact h.judgeLevel _ _
      · exact h.failLevel _ _
      · exact h.abandon _
    · exact h
  · exact h

theorem Leads.pathSet (h : Leads s t) : Leads s t.pathSet := by
  unfold State.pathSet
  split
  · split
    · exact h
    · exact h.failLevel _ _
    · exact h.abandon _
  · exact h

theorem Leads.pathTimeout (h : Leads s t) : Leads s t.pathTimeout := by
  unfold State.pathTimeout
  split
  · split
    · exact h.failLevel _ _
    · exact h.failLevel _ _
    · exact h.abandon _
  · exact h

theorem Leads.abortCheck (h : Leads s t) (c : AbortCause) : Leads s (t.abortCheck c) := by
  unfold State.abortCheck
  split
  · exact (h.stopRun _).checkReport
  · exact h

theorem Leads.pathDemand (h : Leads s t) : Leads s t.pathDemand := by
  unfold State.pathDemand
  split
  · exact h.abortCheck _
  · exact h

theorem Leads.enterChecking (h : Leads s t) : Leads s t.enterChecking := by
  have hm : Leads s ((State.move { t with sup := { t.sup with autoPending := false } } .checking .none).handMode
      .check false) := by
    refine Leads.handMode (h.congr ?_) _ _
    rw [traffic_move]
    rfl
  exact Leads.chooseChannel (hm.settled (n := 0) rfl fun _ => by omega) _

theorem Leads.testCheck (h : Leads s t) : Leads s t.testCheck := by
  unfold State.testCheck
  split
  · exact h.enterChecking
  · exact h

theorem Leads.testEntry (h : Leads s t) : Leads s t.testEntry := by
  unfold State.testEntry
  split
  · exact h.testHold.testCheck
  · exact h.testCheck
  all_goals exact h

theorem Leads.enterStandby (h : Leads s t) (r : Reason) : Leads s (t.enterStandby r) :=
  Leads.testEntry (h.congr (by simp))

/-! ### Notices of the conditions, of the record and of the set -/

theorem Leads.noticeConditions (h : Leads s t) : Leads s t.noticeConditions := by
  unfold State.noticeConditions
  split
  · split
    · exact h.enterStandby _
    · split
      · exact h
      · exact Leads.testCheck (h.congr (by simp))
  · split
    · exact h
    · exact Leads.testCheck (h.congr (by simp))
  all_goals exact h

theorem Leads.noticeSuspended (h : Leads s t) : Leads s t.noticeSuspended := by
  unfold State.noticeSuspended
  split
  · exact h.noticeConditions
  · exact h

theorem Leads.noticeRecord (h : Leads s t) : Leads s t.noticeRecord := h.recordInHold.testEntry.mergerRecord

theorem Leads.evaluate (h : Leads s t) : Leads s t.evaluate := h.evaluateCore.noticeRecord

theorem Leads.supSet (h : Leads s t) : Leads s t.supSet := by
  have hn : Leads s (if t.channels.derived.b = 0 then t.securingNotice .noChannel else t) := by
    split
    · exact h.securingNotice _
    · exact h
  unfold State.supSet
  split
  · exact hn
  · exact hn
  · exact hn
  all_goals exact h

theorem Leads.tellSet (h : Leads s t) : Leads s t.tellSet :=
  h.mergerSet.evaluateCore.noticeConditions.noticeRecord.supSet.pathSet

theorem Leads.noticeSet (h : Leads s t) (d : Derived) : Leads s (t.noticeSet d) := by
  unfold State.noticeSet
  split
  · exact h
  · exact h.tellSet

theorem Leads.reworkNotice (h : Leads s t) : Leads s t.reworkNotice := Leads.noticeSet (h.congr (traffic_rework t)) _

end

end Sys2Proof.Machine.TrafficLaws

namespace Sys2Proof.Machine.TrafficLaws

/-! The sizes and the slots' laws through the channel block, the creep monitor, park control, the signal block, the store
and the demand merger's commands. -/

section
variable {s t : State}

/-! ### The channel block -/

/-- R125: a frame joins a control queue of fewer than four. -/
theorem Leads.offerControl (h : Leads s t) (f : Frame) : Leads s (t.offerControl f) := by
  unfold State.offerControl
  split
  · exact h
  next hn =>
    constructor
    · intro hs
      have hb := h.bounded hs
      refine { hb with control := ?_ }
      rw [List.length_append, List.length_singleton]
      omega
    · exact fun hs => slotted_of_slots (s := t) rfl rfl rfl rfl rfl (h.slotted hs)

theorem traffic_setChannel (s : State) (c : Chan) (r : ChannelRecord) : traffic (s.setChannel c r) = traffic s := rfl

theorem Leads.advertTaken (h : Leads s t) (c : Chan) (a : Advert) : Leads s (t.advertTaken c a) := by
  unfold State.advertTaken
  dsimp only
  split
  · exact Leads.reworkNotice ((h.offerControl _).congr (traffic_setChannel ..))
  · exact Leads.reworkNotice (h.congr (traffic_setChannel ..))

theorem Leads.mergerStatus (h : Leads s t) (c : Chan) : Leads s (t.mergerStatus c) := by
  unfold State.mergerStatus
  split
  · exact h.congr (by simp)
  · exact h

theorem Leads.statusTaken (h : Leads s t) (c : Chan) (f : Frame) : Leads s (t.statusTaken c f) := by
  have hs (r : ChannelRecord) : Leads s (((t.setChannel c r).rework.mergerStatus c).pathStatus c) :=
    Leads.pathStatus (Leads.mergerStatus (h.congr (traffic_rework (t.setChannel c r))) c) c
  unfold State.statusTaken
  dsimp only
  split
  · exact hs _
  · exact (hs _).tellSet

theorem Leads.channelFrame (h : Leads s t) (f : Frame) : Leads s (t.channelFrame f) := by
  unfold State.channelFrame
  split
  · exact h
  · split
    · split
      · exact h
      · unfold State.sortAdvert
        dsimp only
        split
        · exact h.count _
        · split
          · exact h.advertTaken _ _
          · exact h.count _
    · split
      · split
        · exact h
        · unfold State.sortStatus
          split
          · exact h
          · split
            · exact h.statusTaken _ _
            · exact h
      · exact h

/-! ### The creep monitor -/

theorem Leads.recheckRest (h : Leads s t) : Leads s t.recheckRest := by
  unfold State.recheckRest
  dsimp only
  split
  · refine Leads.testEntry (h.congr ?_)
    rfl
  · exact h.congr rfl

theorem Leads.tellWheels (h : Leads s t) (b : Creep) : Leads s (t.tellWheels b) := by
  have hn : Leads s (if t.creep.watchedCount ≠ b.watchedCount ∧ t.creep.watchedCount < 2
      then t.securingNotice .wheelLost else t) := by
    split
    · exact h.securingNotice _
    · exact h
  unfold State.tellWheels
  dsimp only
  split
  · exact hn.testEntry
  · exact hn

theorem traffic_trackWheels (s : State) : traffic s.trackWheels = traffic s := rfl

theorem Leads.watchWheels (h : Leads s t) : Leads s t.watchWheels := Leads.tellWheels (h.congr (traffic_trackWheels t)) _

theorem Leads.accumulate (h : Leads s t) (w : Wheel) (inc : Nat) (code : DirCode) : Leads s (t.accumulate w inc code) := by
  unfold State.accumulate
  split
  · exact h
  · split
    · exact h.congr rfl
    · dsimp only
      split
      · exact Leads.creepReport (h.congr (traffic_mapContext ..))
      · exact h.congr rfl
    · exact h

theorem traffic_setTrack (s : State) (w : Wheel) (x : Track) : traffic (s.setTrack w x) = traffic s := rfl

theorem Leads.movement (h : Leads s t) (w : Wheel) (count inc : Nat) (code : DirCode) :
    Leads s (t.movement w count inc code) := by
  have hm (x : Track) : Leads s ((t.setTrack w x).recheckRest.testEntry.abortCheck .movement) :=
    Leads.abortCheck (Leads.testEntry (Leads.recheckRest (h.congr (traffic_setTrack t w x)))) _
  exact (hm _).accumulate _ _ _

theorem Leads.wheelSample (h : Leads s t) (w : Wheel) (count : Nat) (code : DirCode) :
    Leads s (t.wheelSample w count code) := by
  unfold State.wheelSample
  split
  · exact Leads.recheckRest (h.congr rfl)
  · dsimp only
    split
    · exact h
    · split
      · exact h.movement _ _ _ _
      · exact h.congr rfl

/-! ### Park control -/

theorem Leads.requestMarker (h : Leads s t) (op : CellOp) : Leads s (t.requestMarker op) := by
  unfold State.requestMarker
  dsimp only
  split
  · exact h.congr rfl
  · refine Leads.noticeConditions (h.congr ?_)
    rfl

theorem Leads.springApplied (h : Leads s t) : Leads s t.springApplied := by
  have hs : Leads s (State.springConfirmed { t with park := { t.park with conf := .confirmed, timer := none } }) := by
    refine Leads.springConfirmed (h.congr ?_)
    rfl
  unfold State.springApplied
  split
  · exact hs
  · exact hs
  all_goals exact h

theorem Leads.parkOverdue (h : Leads s t) : Leads s t.parkOverdue := by
  unfold State.parkOverdue
  split
  · refine Leads.requestMarker (h.congr ?_) _
    rfl
  all_goals exact h

theorem Leads.beginHandover (h : Leads s t) : Leads s t.beginHandover := by
  refine Leads.recordInHold (Leads.handMode (h.congr ?_) _ _)
  rfl

theorem Leads.releaseRequest (h : Leads s t) : Leads s t.releaseRequest := by
  unfold State.releaseRequest
  split
  · split
    · exact h.congr (by simp)
    · split
      · unfold State.releaseShallow
        split
        · exact Leads.enterStandby (h.congr (traffic_deassertPark t)) _
        · exact h.congr (by simp)
      · split
        · exact h.beginHandover
        · exact h
  · exact h

/-! ### The signal block -/

theorem length_pushWindow {w : List Int} (h : w.length ≤ windowSize) (x : Int) : (pushWindow w x).length ≤ windowSize := by
  unfold pushWindow
  have hpos : windowSize = 5 := rfl
  split
  · rw [List.length_append, List.length_singleton]
    omega
  · rw [List.length_append, List.length_tail, List.length_singleton]
    omega

/-- R34: the window takes a sample, or is emptied. -/
theorem Leads.window (h : Leads s t) {u : State} {w : List Int} (he : traffic u = { traffic t with window := w })
    (hw : t.signals.window.length ≤ windowSize → w.length ≤ windowSize) : Leads s u where
  bounded hs := by
    have hb := h.bounded hs
    exact bounded_congr (s := { t with signals := { t.signals with window := w } }) he { hb with window := hw hb.window }
  slotted hs := by
    have hl := h.slotted hs
    exact slotted_congr (s := { t with signals := { t.signals with window := w } }) he { hl with }

theorem Leads.gradeSample (h : Leads s t) (x : Int) : Leads s (t.gradeSample x) := by
  have hw : Leads s { t with signals := { t.signals with window := pushWindow t.signals.window x } } :=
    h.window rfl fun hl => length_pushWindow hl x
  refine Leads.testEntry (Leads.evaluate (hw.congr ?_))
  rfl

theorem Leads.drumSample (h : Leads s t) (x : Int) : Leads s (t.drumSample x) := by
  have hr (g : Sign) : Leads s (State.reversal { t with signals := { t.signals with keptSign := g } }) := by
    unfold State.reversal
    dsimp only
    split
    · exact h.congr rfl
    · split
      · exact h.congr rfl
      · refine Leads.evaluate (h.congr ?_)
        rfl
  unfold State.drumSample
  split
  · exact h
  · exact h.congr rfl
  · split
    · exact h
    · exact hr _

theorem Leads.driveNotice (h : Leads s t) : Leads s t.driveNotice := by
  have hd : Leads s ((t.workDriveTest (t.sup.ctx.bind (·.uphill))).driveOutcome
      (t.workDriveTest (t.sup.ctx.bind (·.uphill))).calculator.lastOutcome) :=
    Leads.driveOutcome (h.congr (traffic_workDriveTest ..)) _
  unfold State.driveNotice
  split
  · exact hd
  · exact hd
  all_goals exact h

theorem Leads.parkRenewalHold (h : Leads s t) (x : Int) : Leads s (t.parkRenewalHold x) := by
  have hs : Leads s (if x = 1 then t.enterStandby .parkedByDriver else t) := by
    split
    · exact h.enterStandby _
    · exact h
  unfold State.parkRenewalHold
  split
  · exact hs
  · exact hs
  · split
    · exact h.enterSecuring _
    · exact h
  all_goals exact h

theorem Leads.parkRenewal (h : Leads s t) (x : Int) : Leads s (t.parkRenewal x) := by
  unfold State.parkRenewal
  dsimp only
  split
  · exact (h.parkRenewalHold x).testEntry.springApplied
  · exact (h.parkRenewalHold x).testEntry.abortCheck _

theorem Leads.parkAgeing (h : Leads s t) (a : Age) : Leads s (t.parkAgeing a) := by
  unfold State.parkAgeing
  split
  · exact h.testEntry.abortCheck _
  all_goals exact h.testEntry

theorem traffic_setPayload (s : State) (p : Nat) : traffic (s.setPayload p) = traffic s := rfl

theorem Leads.notify (h : Leads s t) (role : Role) (kind : NoticeKind) (before after : SampleRecord) :
    Leads s (t.notify role kind before after) := by
  unfold State.notify
  dsimp only
  cases role <;> dsimp only
  case none => exact h
  case grade =>
    split
    · exact (h.gradeSample _).evaluate.testEntry
    · exact h.evaluate.testEntry
  case payload =>
    split
    · exact Leads.evaluate (h.congr (traffic_setPayload ..))
    · split
      · exact Leads.evaluate (h.congr (traffic_setPayload ..))
      · exact h.evaluate
  case drumSpeed =>
    split
    · exact (h.drumSample _).evaluate
    · exact h.evaluate
  case engineTorque => exact h.driveNotice
  case gearRatio => exact h.driveNotice
  case reservoir =>
    split
    · exact h.evaluate.testEntry.securingNotice _
    · exact h.evaluate.testEntry
  case parkStatus =>
    split
    · exact h.parkRenewal _
    · exact h.parkAgeing _
  case parkReleaseReq =>
    split
    · exact h.releaseRequest
    · exact h
  case driverPresent =>
    split
    · exact h.testEntry.securingNotice _
    · exact h.testEntry
  case pendantActive =>
    split
    · exact h.testEntry.securingNotice _
    · exact h.testEntry
  case holdInhibit => exact h.testEntry
  case liftAxle => exact h.reworkNotice
  case wheel w =>
    split
    · exact h.watchWheels.wheelSample _ _ _
    · exact h.watchWheels

theorem traffic_setRecord (s : State) (k : Fin 20) (r : SampleRecord) : traffic (s.setRecord k r) = traffic s := rfl

theorem traffic_clearMark (s : State) (k : Fin 20) : traffic (s.clearMark k) = traffic s := rfl

theorem Leads.extract (h : Leads s t) (f : Frame) (k : Fin 20) : Leads s (t.extract f k) := by
  unfold State.extract
  dsimp only
  split
  · exact h
  · split
    · exact h.count _
    · split
      · exact h.count _
      · exact Leads.congr (Leads.notify (h.congr (traffic_setRecord ..)) _ _ _ _) (traffic_clearMark ..)

theorem Leads.extractAll (h : Leads s t) (f : Frame) (l : List (Fin 20)) : Leads s (t.extractAll f l) := by
  have hfold : ∀ (l : List (Fin 20)) (u : State), Leads s u → Leads s (l.foldl (fun v k => v.extract f k) u) := by
    intro l
    induction l with
    | nil => exact fun u hu => hu
    | cons k l ih => exact fun u hu => ih _ (hu.extract f k)
  unfold State.extractAll
  split
  · exact h
  · exact hfold _ _ h

/-! ### The store, loads and starts -/

@[simp] theorem traffic_checkRoutes (s : State) : traffic s.checkRoutes = traffic s := by
  unfold State.checkRoutes; split <;> rfl

@[simp] theorem traffic_checkSignals (s : State) : traffic s.checkSignals = traffic s := by
  unfold State.checkSignals; split <;> rfl

@[simp] theorem traffic_checkChannels (s : State) : traffic s.checkChannels = traffic s := by
  unfold State.checkChannels
  dsimp only
  split
  · split <;> rfl
  · rfl

@[simp] theorem traffic_checkCurves (s : State) : traffic s.checkCurves = traffic s := rfl

theorem Leads.checkTables (h : Leads s t) : Leads s t.checkTables :=
  Leads.watchWheels (h.congr (by simp))

/-- R18, R35: the window is emptied. -/
theorem Leads.startSignals (h : Leads s t) : Leads s t.startSignals := h.window rfl fun _ => Nat.zero_le _

theorem traffic_startChannels (s : State) : traffic s.startChannels = traffic s := rfl

theorem traffic_startCalculator (s : State) : traffic s.startCalculator = traffic s := rfl

theorem Leads.startMeasures (h : Leads s t) : Leads s t.startMeasures :=
  Leads.congr (Leads.congr h.startSignals (traffic_startChannels _)) (traffic_startCalculator _)

/-- R7, R18, R130, R165: ports, queues, slots and the responder start anew. -/
theorem Leads.startTraffic (h : Leads s t) : Leads s t.startTraffic where
  bounded hs := {
    portV := Reset.PortCtl.bounded_start
    portB := Reset.PortCtl.bounded_start
    vToB := Nat.zero_le _
    bToV := Nat.zero_le _
    control := Nat.zero_le _
    requests := Nat.zero_le _
    replies := Nat.zero_le _
    window := (h.bounded hs).window
    settle := (h.bounded hs).settle }
  slotted _ := {
    slots := fun _ n => Reset.Merger.slotLaw_of_start (by cases n <;> rfl)
    orders := fun _ => nofun
    sourceV := nofun
    sourceB := nofun }

theorem Leads.takeStart (h : Leads s t) (r : Reason) : Leads s (t.takeStart r) := by
  unfold State.takeStart
  dsimp only
  split
  · refine Leads.enterSecuring (h.congr ?_) _
    rfl
  · split
    · refine h.congr ?_
      rw [traffic_enterUnavailable]
      rfl
    · refine Leads.enterStandby (h.congr ?_) _
      rfl

theorem traffic_payloadMax (s : State) : traffic s.payloadMax = traffic s := rfl

theorem Leads.endStart (h : Leads s t) : Leads s t.endStart := by
  have he : Leads s { t.endOperation with start := none } := h.congr rfl
  exact Leads.takeStart (Leads.congr he.startMeasures.checkTables (traffic_startChannels _)) _

theorem Leads.endReload (h : Leads s t) : Leads s t.endReload := by
  have he : Leads s t.endOperation := h.congr rfl
  have hp : Leads s t.endOperation.checkTables.startChannels.payloadMax :=
    (he.checkTables.congr (traffic_startChannels _)).congr (traffic_payloadMax _)
  exact (hp.evaluate.noticeSet _).noticeConditions.congr (traffic_tendSleep _)

theorem Leads.beginReload (h : Leads s t) : Leads s t.beginReload := by
  unfold State.beginReload
  dsimp only
  refine Leads.congr (Leads.noticeConditions ?_) (traffic_tendSleep _)
  exact h.window rfl fun _ => Nat.zero_le _

theorem Leads.warmReset (h : Leads s t) : Leads s t.warmReset := by
  refine Leads.startMeasures (Leads.startTraffic ?_)
  exact h.settled (n := 0) rfl fun _ => by omega

theorem leads_powerOn (s : State) : Leads s s.powerOn where
  bounded _ := { Reset.bounded_reset with }
  slotted _ := { Reset.slotted_reset with }

theorem Leads.wakeUp (h : Leads s t) : Leads s t.wakeUp := by
  refine Leads.takeStart (Leads.startMeasures (Leads.startTraffic (h.congr ?_))) _
  rfl

/-! ### The demand merger's commands -/

theorem Leads.noticeDemand (h : Leads s t) : Leads s t.noticeDemand := h.testEntry.pathDemand

theorem traffic_setDriver (s : State) (d : DriverDemand) : traffic (s.setDriver d) = traffic s := rfl

theorem Leads.demandTaken (h : Leads s t) (f : Frame) : Leads s (t.demandTaken f) := by
  unfold State.demandTaken
  split
  · exact (Leads.makeDemand (h.congr (traffic_setDriver ..))).noticeDemand
  · exact h

theorem traffic_makeShort (l : List Chan) (s : State) : traffic (s.makeShort l) = traffic s := by
  unfold State.makeShort
  induction l generalizing s with
  | nil => rfl
  | cons c l ih =>
    rw [List.foldl_cons, ih]
    dsimp only
    split <;> rfl

theorem Leads.leaveLagging (h : Leads s t) (l : List Chan) : Leads s (t.leaveLagging l) := by
  have hr : Leads s (t.makeShort l).rework := h.congr (traffic_makeShort l t)
  unfold State.leaveLagging
  dsimp only
  split
  · have hc : Leads s { (t.makeShort l).rework with choices := (t.makeShort l).rework.choices + 1 } := hr.congr rfl
    split
    · exact (hc.securingNotice _).noticeSet _
    · exact (hc.noticeSet _).securingNotice _
  · exact hr.noticeSet _

theorem Leads.endStage2 (h : Leads s t) : Leads s t.endStage2 := by
  have hm : Leads s { t with merger := { t.merger with conf := .idle, stage := none } } := h.congr rfl
  unfold State.endStage2
  dsimp only
  split
  · exact hm.securingNotice _
  · split
    · exact hm
    · exact hm.leaveLagging _

end

end Sys2Proof.Machine.TrafficLaws

namespace Sys2Proof.Machine.TrafficLaws

/-! The sizes and the slots' laws through the management responder and the frame path. -/

section
variable {s t : State}

/-! ### The management responder -/

theorem traffic_setWork (s : State) (w : Working) : traffic (s.setWork w) = traffic s := rfl

theorem Leads.wroteRoute (h : Leads s t) : Leads s t.wroteRoute := Leads.noticeConditions (h.congr (traffic_checkRoutes t))

/-- R25, R35: the window of a written GRADE entry is emptied. -/
theorem Leads.resetEntry (h : Leads s t) (k : Fin 20) (grade drum : Bool) : Leads s (t.resetEntry k grade drum) := by
  refine h.window (w := if grade then [] else t.signals.window) rfl fun hw => ?_
  split
  · exact Nat.zero_le _
  · exact hw

theorem Leads.ite {c : Prop} [Decidable c] {u : State} (h : Leads s t) (h' : Leads s u) : Leads s (if c then t else u) := by
  split
  · exact h
  · exact h'

theorem traffic_trackedSignals (s : State) : traffic s.checkSignals.rework.trackWheels = traffic s := by
  rw [traffic_trackWheels, traffic_rework, traffic_checkSignals]

theorem Leads.wroteSignal (h : Leads s t) (k : Fin 20) (old new : Role) : Leads s (t.wroteSignal k old new) := by
  have hset (grade drum : Bool) : Leads s
      ((t.resetEntry k grade drum).checkSignals.rework.trackWheels.noticeSuspended.noticeSet t.channels.derived) :=
    Leads.noticeSet (Leads.noticeSuspended (Leads.congr (h.resetEntry k grade drum) (traffic_trackedSignals _))) _
  have hage := (hset (decide (old = .grade ∨ new = .grade)) (decide (old = .drumSpeed ∨ new = .drumSpeed)))
  replace hage := Leads.ite (c := (t.signals.records.get k).age = .lost) hage
    (hage.notify (t.signals.bindings.get k) .ageing (t.signals.records.get k) SampleRecord.reset)
  replace hage := Leads.ite (c := decide (old = .grade ∨ new = .grade) = true) hage.evaluate.testEntry hage
  exact ((Leads.ite hage.evaluate hage).tellWheels _).noticeConditions

theorem Leads.wroteChannel (h : Leads s t) (c : Chan) (field : Nat) : Leads s (t.wroteChannel c field) := by
  unfold State.wroteChannel
  dsimp only
  refine Leads.noticeConditions (Leads.noticeSet (Leads.noticeSuspended (h.congr ?_)) _)
  rw [traffic_rework, traffic_checkChannels]
  split <;> rfl

theorem Leads.wroteCurve (h : Leads s t) : Leads s t.wroteCurve :=
  (Leads.noticeSuspended (h.congr (traffic_checkCurves t))).evaluate.noticeConditions

theorem Leads.wroteSetting (h : Leads s t) (field : Nat) : Leads s (t.wroteSetting field) := by
  unfold State.wroteSetting
  split
  · exact h.reworkNotice
  · exact Leads.evaluate (h.congr (traffic_payloadMax t))
  all_goals first | exact h.evaluate | exact h.testHold | exact h

theorem Leads.writeField (h : Leads s t) {g : Group} {index field : Nat} {v : Word32} {u : State}
    (hu : t.writeField g index field v = some u) : Leads s u := by
  have hw (w : Working) : Leads s (t.setWork w) := h.congr (traffic_setWork t w)
  unfold State.writeField at hu
  dsimp only at hu
  cases g <;> simp only [Option.bind_eq_some_iff, Option.map_eq_some_iff, reduceCtorEq] at hu
  case settings =>
    obtain ⟨x, -, rfl⟩ := hu
    exact (hw _).wroteSetting _
  case route =>
    obtain ⟨k, -, x, -, rfl⟩ := hu
    exact (hw _).wroteRoute
  case signal =>
    obtain ⟨k, -, x, -, rfl⟩ := hu
    exact (hw _).wroteSignal _ _ _
  case gradeCurve =>
    obtain ⟨k, -, x, -, rfl⟩ := hu
    exact (hw _).wroteCurve
  case drumCurve =>
    obtain ⟨k, -, x, -, rfl⟩ := hu
    exact (hw _).wroteCurve
  case channel =>
    obtain ⟨c, -, x, -, rfl⟩ := hu
    exact (hw _).wroteChannel _ _

theorem traffic_afterRead (s : State) (g : Group) (index field : Nat) :
    traffic (s.afterRead g index field) = traffic s := by
  unfold State.afterRead
  split
  · split
    · split <;> rfl
    · rfl
  all_goals rfl

theorem traffic_clearField {g : Group} {index field : Nat} {t : State} (ht : s.clearField g index field = some t) :
    traffic t = traffic s := by
  unfold State.clearField at ht
  cases g <;> simp only [reduceCtorEq] at ht
  case counters =>
    obtain ⟨n, -, rfl⟩ := Option.map_eq_some_iff.1 ht
    rfl
  case checkResults =>
    obtain ⟨c, -, hc⟩ := Option.bind_eq_some_iff.1 ht
    obtain ⟨l, -, rfl⟩ := Option.map_eq_some_iff.1 hc
    rfl
  case channel =>
    split at ht
    · obtain ⟨c, -, rfl⟩ := Option.map_eq_some_iff.1 ht
      rfl
    · cases ht

theorem Leads.judgeCommand (h : Leads s t) (c : Command) (v : Word32) : Leads s (t.judgeCommand c v).state := by
  cases c <;> dsimp only [State.judgeCommand]
  case startCheck =>
    unfold State.judgeStartCheck
    split
    case h_6 | h_7 =>
      split
      · exact h.enterChecking
      · exact h
    all_goals exact h
  case abortCheck =>
    unfold State.judgeAbortCheck
    split
    · exact h.abortCheck _
    · exact h
  case clearSafeStart => exact h.requestMarker _
  case save =>
    unfold State.judgeSave
    split
    · exact h.congr (traffic_tendSleep _)
    · exact h
  case reload =>
    unfold State.judgeReload
    split
    · exact h
    · split
      · exact h.beginReload
      · exact h
  case restart =>
    unfold State.judgeRestart
    split
    · exact h
    · exact h.congr rfl

theorem Leads.judgeRequest (h : Leads s t) (r : Request) : Leads s (t.judgeRequest r).state := by
  unfold State.judgeRequest
  dsimp only
  split
  · exact h
  · split
    · unfold State.judgeRead
      split
      · exact h
      · exact h.congr (traffic_afterRead ..)
    · unfold State.judgeWrite
      split
      · exact h
      · split
        · exact h
        · split
          · exact h
          · split
            · exact h
            next hu => exact h.writeField hu
    · unfold State.judgeReadClear
      split
      · exact h
      · split
        · exact h
        next hu => exact h.congr (traffic_clearField hu)
    · exact h.judgeCommand _ _
    · exact h

/-- R155, R156: the responder's queues change, and stay within four. -/
theorem Leads.responder (h : Leads s t) {r : Responder}
    (hq : s.Bounded → r.requests.length ≤ shortSize ∧ r.replies.length ≤ shortSize) : Leads s { t with resp := r } where
  bounded hs := by
    have hb := h.bounded hs
    obtain ⟨hreq, hrep⟩ := hq hs
    exact { hb with requests := hreq, replies := hrep }
  slotted hs := slotted_of_slots (s := t) rfl rfl rfl rfl rfl (h.slotted hs)

/-- R156: a request is served where the reply queue has room. -/
theorem Leads.serveHead (h : Leads s t) (hc : t.canServe = true) : Leads s t.serveHead := by
  have hroom : t.resp.replies.length < shortSize := by
    unfold State.canServe at hc
    simpa using (Bool.and_eq_true_iff.1 hc).2
  cases hf : t.resp.requests with
  | nil => rw [State.serveHead, hf]; exact h
  | cons f rest =>
    have he : t.serveHead = ManagementResponder.answered t (frameRequest f) rest t.resp.replies := by
      have ht : t = ManagementResponder.withQueues t (f :: rest) t.resp.replies := by
        rw [← hf]; rfl
      conv_lhs => rw [ht]
      exact ManagementResponder.serveHead_withQueues ..
    rw [he]
    refine Leads.responder (h.judgeRequest (frameRequest f)) fun hs => ⟨?_, ?_⟩
    · have hle := (h.bounded hs).requests
      rw [hf, List.length_cons] at hle
      exact (Nat.le_succ _).trans hle
    · rw [List.length_append, List.length_singleton]
      exact hroom

theorem Leads.serveUpTo (h : Leads s t) (n : Nat) : Leads s (State.serveUpTo n t) := by
  induction n generalizing t with
  | zero => exact h
  | succ n ih =>
    rw [State.serveUpTo]
    split
    next hc => exact ih (h.serveHead hc)
    next => exact h

theorem Leads.serve (h : Leads s t) : Leads s t.serve := h.serveUpTo _

/-- R155: a request joins a request queue of fewer than four. -/
theorem Leads.takeRequest (h : Leads s t) (f : Frame) : Leads s (t.takeRequest f) := by
  unfold State.takeRequest
  split
  · exact h.count _
  next hn =>
    refine Leads.serve (h.responder fun hs => ⟨?_, (h.bounded hs).replies⟩)
    rw [List.length_append, List.length_singleton]
    omega

theorem Leads.requestRow (h : Leads s t) (code group index field : Byte) (v : Word32) :
    Leads s (t.requestRow code group index field v) := by
  unfold State.requestRow
  split
  · exact h.takeRequest _
  · exact h

/-! ### The frame path -/

theorem Leads.forward (h : Leads s t) (p : Port) (f : Frame) (shed : Bool) : Leads s (t.forward p f shed) := by
  cases p with
  | v =>
    show Leads s (t.offerVToB f shed)
    unfold State.offerVToB
    split
    · exact h.count _
    · split
      · exact h.count _
      next hn =>
        refine ⟨fun hs => { h.bounded hs with vToB := ?_ }, fun hs =>
          slotted_of_slots (s := t) rfl rfl rfl rfl rfl (h.slotted hs)⟩
        rw [List.length_append, List.length_singleton]
        omega
  | b =>
    show Leads s (t.offerBToV f)
    unfold State.offerBToV
    split
    · exact h.count _
    next hn =>
      refine ⟨fun hs => { h.bounded hs with bToV := ?_ }, fun hs =>
        slotted_of_slots (s := t) rfl rfl rfl rfl rfl (h.slotted hs)⟩
      rw [List.length_append, List.length_singleton]
      omega

theorem Leads.offerPart (h : Leads s t) (e : RouteEntry) (p : Port) (f : Frame) : Leads s (t.offerPart e p f) := by
  unfold State.offerPart
  split
  · exact h.forward _ _ _
  · exact h.forward _ _ _
  · split
    · exact h.forward _ _ _
    · exact h
  all_goals exact h

theorem Leads.defaultFrame (h : Leads s t) (p : Port) (f : Frame) : Leads s (t.defaultFrame p f) := by
  unfold State.defaultFrame
  split
  · exact h.forward _ _ _
  · exact h

theorem Leads.requestFrame (h : Leads s t) (f : Frame) : Leads s (t.requestFrame f) := by
  unfold State.requestFrame
  split
  · exact h
  · exact h.takeRequest _

theorem Leads.handPart (h : Leads s t) (e : RouteEntry) (f : Frame) : Leads s (t.handPart e f) := by
  unfold State.handPart
  split
  · exact h.demandTaken _
  · exact h.channelFrame _
  · exact h.takeRequest _
  all_goals exact h

theorem Leads.matched (h : Leads s t) (e : RouteEntry) (p : Port) (f : Frame) : Leads s (t.matched e p f) := by
  unfold State.matched
  split
  · exact h.offerPart _ _ _
  · exact ((h.offerPart _ _ _).extractAll _ _).handPart _ _

theorem Leads.classify (h : Leads s t) (p : Port) (f : Frame) : Leads s (t.classify p f) := by
  unfold State.classify
  split
  · unfold State.classifySuspended
    split
    · split
      · exact h
      · exact h.demandTaken _
    · split
      · exact h.requestFrame _
      · exact h.defaultFrame _ _
  · split
    · exact h.matched _ _ _
    · split
      · exact h.requestFrame _
      · exact h.defaultFrame _ _

/-- R3, R4, R6: the counts of one port change within their ranges, its attempt standing. -/
theorem Leads.setPort (h : Leads s t) {p : Port} {c : PortCtl} (hc : (t.port p).Bounded → c.Bounded)
    (ha : c.attempt = (t.port p).attempt) : Leads s (t.setPort p c) := by
  cases p with
  | v =>
    exact ⟨fun hs => { h.bounded hs with portV := hc (h.bounded hs).portV },
      fun hs => slotted_of_slots (s := t) rfl ha rfl rfl rfl (h.slotted hs)⟩
  | b =>
    exact ⟨fun hs => { h.bounded hs with portB := hc (h.bounded hs).portB },
      fun hs => slotted_of_slots (s := t) rfl rfl ha rfl rfl (h.slotted hs)⟩

section
variable {c : PortCtl}

theorem attempt_restate (c : PortCtl) : c.restate.attempt = c.attempt := by
  unfold PortCtl.restate; split <;> rfl

theorem bounded_restate (h : c.Bounded) : c.restate.Bounded := by
  unfold PortCtl.restate
  split
  · exact h
  all_goals exact { h with }

theorem bounded_taken (h : c.Bounded) : c.taken.Bounded :=
  bounded_restate { h with rxErr := (Nat.sub_le ..).trans h.rxErr }

theorem bounded_receiveError (h : c.Bounded) : c.receiveError.Bounded :=
  bounded_restate { h with rxErr := Nat.min_le_right .. }

theorem bounded_transmitError (h : c.Bounded) (hc : ¬255 < c.txErr + 8) : c.transmitError.Bounded :=
  bounded_restate { h with txErr := Nat.le_of_not_lt hc }

theorem bounded_sent (h : c.Bounded) : c.sent.Bounded :=
  bounded_restate { h with txErr := (Nat.sub_le ..).trans h.txErr }

theorem bounded_busOff (h : c.Bounded) : c.busOff.Bounded :=
  { h with txErr := Nat.le_refl _, recovery := (by decide : 0 < recoveryLimit) }

end

theorem Leads.cabEnded (h : Leads s t) : Leads s t.cabEnded := by
  unfold State.cabEnded
  dsimp only
  split
  · refine h.congr ?_
    rw [traffic_makeCab]
    rfl
  · exact h.congr rfl

theorem Leads.replySent (h : Leads s t) : Leads s t.replySent := by
  unfold State.replySent
  split
  · exact h
  next r rest hr =>
    split
    · exact h.warmReset
    · refine Leads.serve (h.responder fun hs => ⟨(h.bounded hs).requests, ?_⟩)
      have hle := (h.bounded hs).replies
      rw [hr, List.length_cons] at hle
      exact (Nat.le_succ _).trans hle

theorem Leads.replyFailed (h : Leads s t) : Leads s t.replyFailed := by
  unfold State.replyFailed
  split
  · exact h
  · split
    · exact h.warmReset
    · exact h

end

end Sys2Proof.Machine.TrafficLaws

namespace Sys2Proof.Machine.TrafficLaws

/-! The attempts that begin and end, every command, and the two statements (R2, R17, R19, R20, R123, R125, R162, R171). -/

section
variable {s t : State}

/-! ### The end of an attempt -/

/-- The attempt of a source other than a slot ends. -/
theorem leads_endAttempt {p : Port} {c : PortCtl} (hc : (s.port p).Bounded → c.Bounded) (hn : c.attempt = none)
    (ha : ∀ n f, (s.port p).attempt ≠ some ⟨.slot n, f⟩) : Leads s (s.setPort p c) := by
  constructor
  · intro hs
    cases p with
    | v => exact { hs with portV := hc hs.portV }
    | b => exact { hs with portB := hc hs.portB }
  · intro hs
    obtain ⟨hl, hv, hb⟩ := slotted_iff.1 hs
    cases p with
    | v => exact slotted_iff.2 ⟨hl, fun a h => (by simp [State.setPort, hn] at h), hb⟩
    | b =>
      have hnone : ∀ n f, c.attempt ≠ some ⟨.slot n, f⟩ := fun n f => by simp [hn]
      exact slotted_iff.2 ⟨fun hp => (hl hp).attempt ha hnone, hv, fun a h => (by simp [State.setPort, hn] at h)⟩

theorem control_finishSlot (m : Merger) (n : SlotName) (o : SlotOutcome) : (m.finishSlot n o).control = m.control :=
  Merger.control_setSlot ..

/-- R123: the attempt of a slot ends, and the slot is DONE. Port V has no such attempt (R20). -/
theorem leads_slotDone {p : Port} {c : PortCtl} {n : SlotName} {f : Frame} (hc : (s.port p).Bounded → c.Bounded)
    (hn : c.attempt = none) (ha : (s.port p).attempt = some ⟨.slot n, f⟩) (o : SlotOutcome) :
    Leads s { s.setPort p c with merger := s.merger.finishSlot n o } := by
  constructor
  · intro hs
    have hcontrol := (congrArg List.length (control_finishSlot s.merger n o)).trans_le hs.control
    cases p with
    | v => exact { hs with portV := hc hs.portV, control := hcontrol }
    | b => exact { hs with portB := hc hs.portB, control := hcontrol }
  · intro hs
    obtain ⟨hl, hv, hb⟩ := slotted_iff.1 hs
    cases p with
    | v =>
      rcases hv _ ha with h | h | h <;> cases h
    | b =>
      have hb' : s.portB.attempt = some ⟨.slot n, f⟩ := ha
      refine slotted_iff.2 ⟨fun hp => ?_, hv, fun a h => (by simp [State.setPort, hn] at h)⟩
      have hfin := (hb' ▸ hl hp : SlotsHold s.merger (some ⟨.slot n, f⟩)).finish o
      simpa only [State.setPort, hn] using hfin

theorem Leads.controlTail (h : Leads s t) : Leads s { t with merger := { t.merger with control := t.merger.control.tail } } :=
  ⟨fun hs => { h.bounded hs with control := (List.length_tail ▸ Nat.sub_le ..).trans (h.bounded hs).control },
    fun hs => slotted_of_slots (s := t) rfl rfl rfl rfl rfl (h.slotted hs)⟩

/-- What SENT does at a source other than a slot. -/
theorem Leads.tellSent (h : Leads s t) {src : Source} (hs : ∀ n, src ≠ .slot n) : Leads s (t.tellSent src) := by
  cases src with
  | slot n => exact absurd rfl (hs n)
  | control => exact h.controlTail
  | vToB =>
    exact ⟨fun hs => { h.bounded hs with vToB := (List.length_tail ▸ Nat.sub_le ..).trans (h.bounded hs).vToB },
      fun hs => slotted_of_slots (s := t) rfl rfl rfl rfl rfl (h.slotted hs)⟩
  | reply => exact h.replySent
  | cab => exact h.cabEnded
  | bToV =>
    exact ⟨fun hs => { h.bounded hs with bToV := (List.length_tail ▸ Nat.sub_le ..).trans (h.bounded hs).bToV },
      fun hs => slotted_of_slots (s := t) rfl rfl rfl rfl rfl (h.slotted hs)⟩

/-- What FAILED does at a source other than a slot. -/
theorem Leads.tellFailed (h : Leads s t) {src : Source} (hs : ∀ n, src ≠ .slot n) : Leads s (t.tellFailed src) := by
  cases src with
  | slot n => exact absurd rfl (hs n)
  | control => exact h.controlTail
  | vToB | bToV => exact h
  | reply => exact h.replyFailed
  | cab => exact h.cabEnded

/-- R2: an attempt is told SENT. -/
theorem leads_sent {p : Port} {a : Attempt} (ha : (s.port p).attempt = some a) :
    Leads s ((s.setPort p (s.port p).sent).tellSent a.source) := by
  obtain ⟨src, f⟩ := a
  have hn : (s.port p).sent.attempt = none := attempt_restate _
  by_cases hsrc : ∃ n, src = .slot n
  · obtain ⟨n, rfl⟩ := hsrc
    have hdone := leads_slotDone bounded_sent hn ha .sent
    cases p <;> exact hdone
  · have hne : ∀ n, src ≠ .slot n := fun n h => hsrc ⟨n, h⟩
    refine Leads.tellSent (leads_endAttempt bounded_sent hn fun n f h => ?_) hne
    rw [ha] at h
    cases h
    exact hne n rfl

theorem leads_enterBusOff (s : State) (p : Port) : Leads s (s.enterBusOff p) := by
  have hfailed : Leads s (match (s.port p).attempt with
      | some a => ((s.setPort p (s.port p).busOff).count (busOffCounter p)).tellFailed a.source
      | none => (s.setPort p (s.port p).busOff).count (busOffCounter p)) := by
    split
    next a ha =>
      obtain ⟨src, f⟩ := a
      by_cases hsrc : ∃ n, src = .slot n
      · obtain ⟨n, rfl⟩ := hsrc
        have hdone := (leads_slotDone bounded_busOff rfl ha .failed).count (busOffCounter p)
        cases p <;> exact hdone
      · have hne : ∀ n, src ≠ .slot n := fun n h => hsrc ⟨n, h⟩
        refine Leads.tellFailed (Leads.count (leads_endAttempt bounded_busOff rfl fun n f h => ?_) _) hne
        rw [ha] at h
        cases h
        exact hne n rfl
    next ha => exact (leads_endAttempt bounded_busOff rfl fun n f h => by simp [ha] at h).count _
  unfold State.enterBusOff
  cases p with
  | v => exact hfailed
  | b => exact hfailed.securingNotice _

/-! ### The beginning of an attempt -/

/-- The sources of Port V (R20). -/
theorem source_of_arbiterV {a : Attempt} (h : s.arbiterV = some a) :
    a.source = .reply ∨ a.source = .cab ∨ a.source = .bToV := by
  unfold State.arbiterV at h
  split at h
  · cases h; exact .inl rfl
  · cases h; exact .inr (.inl rfl)
  all_goals
    obtain ⟨f, -, rfl⟩ := Option.map_eq_some_iff.1 h
    exact .inr (.inr rfl)

/-- The sources of Port B: a LOADED slot with its frame, or a queue (R19). -/
theorem source_of_arbiterB {a : Attempt} (h : s.arbiterB = some a) :
    (∃ n, a.source = .slot n ∧ (s.merger.slot n).state = .loaded ∧ (s.merger.slot n).frame = some a.frame) ∨
      a.source = .control ∨ a.source = .vToB := by
  unfold State.arbiterB at h
  split at h
  next n hn =>
    obtain ⟨f, hf, rfl⟩ := Option.map_eq_some_iff.1 h
    exact .inl ⟨n, rfl, loaded_of_readySlot hn, hf⟩
  · split at h
    · cases h; exact .inr (.inl rfl)
    · cases h; exact .inr (.inr rfl)
    · cases h

/-- R20: Port V's arbiter moves no slot. -/
theorem leads_startV (s : State) : Leads s (s.startAttempt .v) := by
  unfold State.startAttempt
  split
  · exact Leads.refl s
  next a ha =>
    have hsrc := source_of_arbiterV ha
    have hset : Leads s (s.setPort .v { s.portV with attempt := some a }) := by
      refine ⟨fun hs => { hs with portV := { hs.portV with } }, fun hs => ?_⟩
      obtain ⟨hl, -, hb⟩ := slotted_iff.1 hs
      refine slotted_iff.2 ⟨hl, fun b hb => ?_, hb⟩
      cases hb
      exact hsrc
    refine hset.congr ?_
    obtain ⟨src, f⟩ := a
    rcases hsrc with h | h | h <;> cases h <;> rfl

/-- R19, R123: Port B's arbiter moves the slot it gives to SENDING. -/
theorem leads_startB (hnone : s.portB.attempt = none) : Leads s (s.startAttempt .b) := by
  unfold State.startAttempt
  split
  · exact Leads.refl s
  next a ha =>
    obtain ⟨src, f⟩ := a
    rcases source_of_arbiterB ha with ⟨n, hsrc, hloaded, hframe⟩ | hsrc
    · cases hsrc
      refine ⟨fun hs => ?_, fun hs => ?_⟩
      · have hcontrol := (congrArg List.length (Merger.control_setSlot s.merger n
          { s.merger.slot n with state := .sending, discard := none })).trans_le hs.control
        exact { hs with portB := { hs.portB with }, control := hcontrol }
      · obtain ⟨hl, hv, -⟩ := slotted_iff.1 hs
        refine slotted_iff.2 ⟨fun hp => ?_, hv, fun b hb => ?_⟩
        · exact (hnone ▸ hl hp : SlotsHold s.merger none).choose hloaded hframe
        · cases hb
          exact .inl ⟨n, rfl⟩
    · have hne : ∀ n, src ≠ .slot n := by
        rintro n rfl
        rcases hsrc with h | h <;> cases h
      have hset : Leads s (s.setPort .b { s.portB with attempt := some ⟨src, f⟩ }) := by
        refine ⟨fun hs => { hs with portB := { hs.portB with } }, fun hs => ?_⟩
        obtain ⟨hl, hv, -⟩ := slotted_iff.1 hs
        refine slotted_iff.2 ⟨fun hp => (hl hp).attempt (by simp [hnone]) ?_, hv, fun b hb => ?_⟩
        · rintro n f h
          cases h
          exact hne n rfl
        · cases hb
          exact .inr hsrc
      refine hset.congr ?_
      rcases hsrc with h | h <;> cases h <;> rfl

/-! ### Sleep and power -/

theorem slot_halt (m : Merger) (n : SlotName) : m.halt.slot n = (m.slot n).halt := by cases n <;> rfl

/-- R130, R171: stopped timers leave the slots' laws. -/
theorem SlotsHold.halt {m : Merger} {a : Option Attempt} (h : SlotsHold m a) : SlotsHold m.halt a :=
  h.congr (fun n => by rw [slot_halt]; rfl) (fun n => by rw [slot_halt]; rfl) (fun n => by rw [slot_halt]; rfl)

theorem traffic_haltTimers (s : State) :
    traffic s.haltTimers = { traffic s with slotA := s.merger.slotA.halt, slotB := s.merger.slotB.halt } := by
  simp only [traffic, State.haltTimers, State.haltRecords, State.mapContext, Merger.halt]

theorem Leads.haltTimers (h : Leads s t) : Leads s t.haltTimers :=
  h.slots (m := t.merger.halt) (traffic_haltTimers t) rfl fun _ ha => ha.halt

theorem length_control_failed (m : Merger) (src : Source) : (m.failed src).control.length ≤ m.control.length := by
  cases src with
  | slot n => exact Nat.le_of_eq (congrArg List.length (control_finishSlot ..))
  | control => exact List.length_tail ▸ Nat.sub_le ..
  | vToB | reply | cab | bToV => exact Nat.le_refl _

/-- R7, R123: Port B's attempt ends FAILED. -/
theorem SlotsHold.failed {m : Merger} {a : Attempt} (h : SlotsHold m (some a)) : SlotsHold (m.failed a.source) none := by
  obtain ⟨src, f⟩ := a
  have hend (hne : ∀ n, src ≠ .slot n) : SlotsHold m none :=
    h.attempt (fun n f h => hne n (by cases h; rfl)) nofun
  cases src with
  | slot n => exact h.finish .failed
  | control =>
    have hslot (n : SlotName) : (m.failed .control).slot n = m.slot n := by cases n <;> rfl
    exact (hend nofun).congr (fun n => by rw [hslot]) (fun n => by rw [hslot]) (fun n => by rw [hslot])
  | vToB | reply | cab | bToV => exact hend nofun

theorem leads_fallAsleep (s : State) : Leads s s.fallAsleep := by
  unfold State.fallAsleep
  refine Leads.haltTimers ⟨fun hs => ?_, fun hs => ?_⟩
  · refine { hs with portV := { hs.portV with }, portB := { hs.portB with }, control := ?_, requests := ?_, replies := ?_ }
    · dsimp only
      split
      · exact (length_control_failed ..).trans hs.control
      · exact hs.control
    · dsimp only
      split <;> exact hs.requests
    · dsimp only
      split <;> exact hs.replies
  · obtain ⟨hl, -, -⟩ := slotted_iff.1 hs
    refine slotted_iff.2 ⟨fun hp => ?_, nofun, nofun⟩
    have hold := hl hp
    dsimp only
    split
    next a ha =>
      rw [ha] at hold
      exact hold.failed
    next ha =>
      rw [ha] at hold
      exact hold

theorem leads_losePower (s : State) : Leads s s.losePower :=
  Leads.haltTimers ⟨fun hs => { hs with portV := { hs.portV with }, portB := { hs.portB with } },
    fun _ => slotted_iff.2 ⟨nofun, nofun, nofun⟩⟩

/-! ### Every command -/

/-- What a command leaves of the sizes and of the slots' laws. -/
def Passes (s : State) (o : Host.Outcome State Fault Refusal) : Prop := ∀ t, o = .next t → Leads s t

theorem passes_next (h : Leads s t) : Passes s (.next t) := fun _ ht => Host.Outcome.next.inj ht ▸ h

theorem passes_ite {c : Prop} [Decidable c] (h : c → Leads s t) : Passes s (.next (if c then t else s)) := by
  refine passes_next ?_
  split
  next hc => exact h hc
  next => exact Leads.refl s

theorem passes_expiry (x : Timer) {u : Running → State} (hu : ∀ r, Leads s (s.reach r) → Leads s (u r)) :
    Passes s (.next (HoldSupervisor.expired s x u)) := by
  refine passes_next ?_
  unfold HoldSupervisor.expired
  split
  · exact Leads.refl s
  · exact hu _ ((Leads.refl s).congr rfl)

theorem passes_row (code group index field : Byte) (v : Word32) : Passes s (.next (s.requestRow code group index field v)) :=
  passes_next ((Leads.refl s).requestRow ..)

theorem passes_keyFall : Passes s (execKeyFall s) := by
  refine passes_next ?_
  split
  · exact Leads.refl s
  · split
    · have hkey : Leads s { s with key := false } := (Leads.refl s).congr rfl
      exact ((hkey.securingNotice _).abortCheck _).congr (traffic_tendSleep _)
    · exact (Leads.refl s).congr rfl

theorem passes_keyRise : Passes s (execKeyRise s) := by
  refine passes_next ?_
  split
  · exact Leads.refl s
  · split
    · exact (Leads.refl s).wakeUp
    · split
      · refine Leads.testEntry ((Leads.refl s).congr ?_)
        rw [traffic_tendSleep]
        rfl
      · exact (Leads.refl s).congr rfl

theorem passes_loadEnd : Passes s (execLoadEnd s) :=
  passes_ite fun _ => (Leads.refl s).endStart.ite (Leads.refl s).endReload

theorem passes_frameReceived (p : Port) (f : Frame) : Passes s (execFrameReceived p f s) :=
  passes_ite fun _ => ((Leads.refl s).setPort bounded_taken (attempt_restate _)).classify p f

theorem passes_transmitError (p : Port) : Passes s (execTransmitError p s) := by
  refine passes_ite fun _ => ?_
  split
  · exact leads_enterBusOff s p
  next hc => exact (Leads.refl s).setPort (fun h => bounded_transmitError h hc) (attempt_restate _)

theorem passes_transmitAttemptStart (p : Port) : Passes s (execTransmitAttemptStart p s) := by
  refine passes_ite fun ha => ?_
  cases p with
  | v => exact leads_startV s
  | b =>
    simp only [Bool.and_eq_true] at ha
    exact leads_startB (Option.isNone_iff_eq_none.1 ha.2)

theorem passes_frameSent (p : Port) : Passes s (execFrameSent p s) := by
  refine passes_next ?_
  split
  · exact Leads.refl s
  next a ha => exact (leads_sent ha).ite (Leads.refl s)

theorem passes_recessiveSequence (p : Port) : Passes s (execRecessiveSequence p s) := by
  refine passes_ite fun _ => ?_
  split
  · have hr : Leads s (s.setPort p { s.port p with txErr := 0, rxErr := 0, recovery := 0, mode := .active }) :=
      (Leads.refl s).setPort (fun _ => ⟨Nat.zero_le _, Nat.zero_le _, (by decide : 0 < recoveryLimit)⟩) rfl
    cases p with
    | v => exact hr
    | b => exact hr.testEntry
  next hc => exact (Leads.refl s).setPort (fun h => { h with recovery := Nat.lt_of_not_le hc }) rfl

theorem passes_staleTimerExpiry (k : Fin 20) : Passes s (execStaleTimerExpiry k s) := by
  refine passes_expiry (s.signals.records.get k).stale fun r hr => ?_
  split
  · exact Leads.notify (hr.congr (traffic_setRecord ..)) _ _ _ _
  all_goals exact hr.congr (traffic_setRecord ..)

theorem passes_lossTimerExpiry (k : Fin 20) : Passes s (execLossTimerExpiry k s) := by
  refine passes_expiry (s.signals.records.get k).loss fun r hr => ?_
  split
  · exact Leads.notify (hr.congr (traffic_setRecord ..)) _ _ _ _
  · exact Leads.notify (hr.congr (traffic_setRecord ..)) _ _ _ _
  · exact hr.congr (traffic_setRecord ..)

theorem passes_driverDemandStaleExpiry : Passes s (execDriverDemandStaleExpiry s) := by
  refine passes_expiry s.merger.driver.stale fun r hr => ?_
  split
  · exact Leads.noticeDemand (hr.congr (traffic_setDriver ..))
  all_goals exact hr.congr (traffic_setDriver ..)

theorem passes_driverDemandLossExpiry : Passes s (execDriverDemandLossExpiry s) := by
  refine passes_expiry s.merger.driver.loss fun r hr => ?_
  split
  · exact Leads.noticeDemand (hr.congr (traffic_setDriver ..))
  · exact Leads.noticeDemand (hr.congr (traffic_setDriver ..))
  · exact hr.congr (traffic_setDriver ..)

theorem passes_refreshTimerExpiry : Passes s (execRefreshTimerExpiry s) := by
  refine passes_expiry s.merger.refresh fun r hr => ?_
  have hs : Leads s { s.reach r with merger := { s.merger with refresh := none } } := hr.congr rfl
  exact hs.makeDemand.ite hs

/-- R124: a LOADED slot is emptied by its discard timer. -/
theorem passes_slotDiscardExpiry (n : SlotName) : Passes s (execSlotDiscardExpiry n s) := by
  refine passes_expiry (s.merger.slot n).discard fun r hr => ?_
  have hslot (x : Slot) (hx : ∀ a, SlotsHold s.merger a → SlotsHold (s.merger.setSlot n x) a) :
      Leads s { s.reach r with merger := s.merger.setSlot n x } :=
    hr.slots (m := s.merger.setSlot n x) rfl (Merger.control_setSlot ..) hx
  have hstop (a : Option Attempt) (h : SlotsHold s.merger a) :
      SlotsHold (s.merger.setSlot n { s.merger.slot n with discard := none }) a := by
    refine h.congr ?_ ?_ ?_ <;> intro k <;> cases n <;> cases k <;> rfl
  split
  next hl => exact (hslot _ fun a h => h.discard hl).count _
  all_goals exact hslot _ hstop

theorem passes_buildStage1Expiry : Passes s (execBuildStage1Expiry s) := by
  refine passes_next ?_
  split
  · exact (Leads.refl s).congr rfl
  · exact Leads.refl s

theorem passes_buildStage2Expiry : Passes s (execBuildStage2Expiry s) := by
  refine passes_next ?_
  split
  next r _ _ =>
    have hr : Leads s (s.reach r) := (Leads.refl s).congr rfl
    exact hr.endStage2
  · exact Leads.refl s

theorem passes_sleepDelayExpiry : Passes s (execSleepDelayExpiry s) := by
  refine passes_expiry s.sleepTimer fun r hr => ?_
  have hs : Leads s { s.reach r with sleepTimer := none } := hr.congr rfl
  exact hs.warmReset.ite (hs.trans (leads_fallAsleep _))

/-- Every command keeps the sizes and the slots' laws. -/
theorem passes_exec (i : Instr) : Passes s (exec i s) := by
  have hs := Leads.refl s
  cases i with
  | powerOnReset => exact passes_next (leads_powerOn s)
  | powerLoss => exact passes_ite fun _ => leads_losePower s
  | warmReset => exact passes_ite fun _ => hs.warmReset
  | keyFall => exact passes_keyFall
  | keyRise => exact passes_keyRise
  | wake => exact passes_ite fun _ => hs.wakeUp
  | frameReceived p f => exact passes_frameReceived p f
  | receiveError p => exact passes_ite fun _ => hs.setPort bounded_receiveError (attempt_restate _)
  | transmitError p => exact passes_transmitError p
  | transmitAttemptStart p => exact passes_transmitAttemptStart p
  | frameSent p => exact passes_frameSent p
  | recessiveSequence p => exact passes_recessiveSequence p
  | staleTimerExpiry k => exact passes_staleTimerExpiry k
  | lossTimerExpiry k => exact passes_lossTimerExpiry k
  | reversalWindowExpiry => exact passes_expiry s.signals.reversal fun r hr => Leads.evaluate (hr.congr rfl)
  | statusStaleExpiry c =>
    exact passes_expiry (s.channels.records.get c).stale fun r hr => Leads.reworkNotice (hr.congr (traffic_setChannel ..))
  | statusLossExpiry c =>
    exact passes_expiry (s.channels.records.get c).loss fun r hr => Leads.reworkNotice (hr.congr (traffic_setChannel ..))
  | restTimerExpiry w =>
    exact passes_expiry (s.creep.wheels.get w).rest.timer fun r hr => Leads.recheckRest (hr.congr (traffic_setTrack ..))
  | holdLimitExpiry => exact passes_expiry s.holdLimitTimerOf fun r hr => hr.holdLimitReached
  | rampTimerExpiry => exact passes_expiry s.rampTimerOf fun r hr => hr.enterStandby _
  | parkConfirmExpiry => exact passes_expiry s.park.timer fun r hr => Leads.parkOverdue (hr.congr rfl)
  | driverDemandStaleExpiry => exact passes_driverDemandStaleExpiry
  | driverDemandLossExpiry => exact passes_driverDemandLossExpiry
  | refreshTimerExpiry => exact passes_refreshTimerExpiry
  | slotDiscardExpiry n => exact passes_slotDiscardExpiry n
  | buildStage1Expiry => exact passes_buildStage1Expiry
  | buildStage2Expiry => exact passes_buildStage2Expiry
  | levelTimerExpiry => exact passes_expiry s.path.timer fun r hr => Leads.pathTimeout (hr.congr rfl)
  | cabStatusPeriodExpiry => exact passes_expiry s.resp.period fun r hr => hr.congr (traffic_makeCab _)
  | restartTimerExpiry => exact passes_expiry s.resp.restartTimer fun r hr => hr.warmReset
  | sleepDelayExpiry => exact passes_sleepDelayExpiry
  | loadEnd => exact passes_loadEnd
  | saveComplete => exact passes_ite fun _ => hs.congr (traffic_tendSleep _)
  | read | readLostSinceRead | readClearCounter | readClearCheckResult | writeRouteEntry | writeSignalEntry
  | writeChannelEntry | writeCurveBreakpoint | writeSetting => exact passes_row _ _ _ _ _
  | startCheck | abortCheck | clearSafeStart | save | reload | restart => exact passes_row _ _ _ _ _

end

/-- A step is one command, or a millisecond of idling. -/
theorem leads_step {s t : State} (h : step s = .next t) : Leads s t := by
  unfold step at h
  split at h
  · exact (Leads.refl s).congr (Host.Outcome.next.inj h ▸ rfl)
  next c rest _ =>
    have hq : Leads s { s with pending := rest } := (Leads.refl s).congr rfl
    exact hq.trans (passes_exec c t h)

/-- Settles O58. -/
theorem boundedIsKept : Obligations.BoundedIsKept := fun _ _ hs h => (leads_step h).bounded hs

/-- Settles O59. -/
theorem slottedIsKept : Obligations.SlottedIsKept := fun _ _ hs h => (leads_step h).slotted hs

end Sys2Proof.Machine.TrafficLaws

namespace Sys2Proof.Machine.FramePath

open AxleChannels ManagementResponder

/-! Errors, recovery and the arbiters of the two ports (R2, R3, R4, R6, R19, R20). -/

section
variable {s : State}

/-! ### Error counts and recovery -/

/-- R3, R4: the controller of a port on its bus, its mode following its counts. -/
theorem restate_of_onBus {c : PortCtl} (h : c.onBus = true) :
    c.restate = { c with mode := PortMode.ofCounts c.txErr c.rxErr } := by
  unfold PortCtl.restate
  cases hm : c.mode with
  | offBus => simp [PortCtl.onBus, hm] at h
  | active | passive => rfl

/-- R3: a receive error count of at most 127 does not make the port PASSIVE. -/
theorem receiveError_eq {c : PortCtl} (h : c.onBus = true) : c.receiveError = { c with
    rxErr := if c.rxErr < 127 then c.rxErr + 1 else 127
    mode := if 128 ≤ c.txErr then .passive else .active } := by
  have hrx : min (c.rxErr + 1) 127 = if c.rxErr < 127 then c.rxErr + 1 else 127 := by split <;> omega
  have hlow : ¬128 ≤ if c.rxErr < 127 then c.rxErr + 1 else 127 := by rw [← hrx]; omega
  rw [PortCtl.receiveError, restate_of_onBus (by exact h)]
  simp only [PortMode.ofCounts, hrx, hlow, or_false]

theorem transmitError_eq {c : PortCtl} (h : c.onBus = true) : c.transmitError = { c with
    txErr := c.txErr + 8
    mode := if 128 ≤ c.txErr + 8 ∨ 128 ≤ c.rxErr then .passive else .active } := by
  rw [PortCtl.transmitError, restate_of_onBus (by exact h)]
  rfl

theorem exec_receiveError {p : Port} (ha : s.awake = true) (hb : (s.port p).onBus = true) :
    exec (.receiveError p) s = .next (s.setPort p (s.port p).receiveError) :=
  congrArg _ (if_pos (by rw [ha, hb]; rfl))

theorem exec_transmitError {p : Port} (ha : s.awake = true) (hb : (s.port p).onBus = true) :
    exec (.transmitError p) s = .next (if 255 < (s.port p).txErr + 8 then s.enterBusOff p
      else s.setPort p (s.port p).transmitError) :=
  congrArg _ (if_pos (by rw [ha, hb]; rfl))

theorem onBus_of_offBus {c : PortCtl} (h : c.mode = .offBus) : c.onBus = false := by simp [PortCtl.onBus, h]

theorem exec_recessiveSequence {p : Port} (ha : s.awake = true) (hm : (s.port p).mode = .offBus) :
    exec (.recessiveSequence p) s = .next (if 128 ≤ (s.port p).recovery + 1 then s.recover p
      else s.setPort p { s.port p with recovery := (s.port p).recovery + 1 }) :=
  congrArg _ (if_pos (by rw [ha, onBus_of_offBus hm]; rfl))

@[simp] theorem port_setPort (s : State) (p : Port) (c : PortCtl) : (s.setPort p c).port p = c := by cases p <;> rfl

/-- R6: the controller of a port that has recovered. -/
def recovered (c : PortCtl) : PortCtl := { c with txErr := 0, rxErr := 0, recovery := 0, mode := .active }

theorem recover_v (s : State) : s.recover .v = s.setPort .v (recovered (s.port .v)) := rfl

theorem calm_recover (s : State) (p : Port) : (s.recover p).calm = (s.setPort p (recovered (s.port p))).calm := by
  cases p with
  | v => rfl
  | b => exact State.calm_testEntry _

theorem port_recover (s : State) (p : Port) : (s.recover p).port p = recovered (s.port p) := by
  cases p with
  | v => rfl
  | b => exact State.portB_of_calm (calm_recover s .b)

end

/-- Settles O10: the counts after an error, and a recovery before and at its last sequence. -/
theorem errorsAndRecoveryMoveTheCounts : Obligations.ErrorsAndRecoveryMoveTheCounts := by
  refine ⟨fun s p ha hb => ⟨?_, fun ht => ?_⟩, fun s p ha hm => ⟨fun hr => ?_, fun hr => ⟨s.recover p, ?_, ?_, ?_, ?_⟩⟩⟩
  · rw [exec_receiveError ha hb, receiveError_eq hb]
  · rw [exec_transmitError ha hb, if_neg (Nat.not_lt.2 ht), transmitError_eq hb]
  · rw [exec_recessiveSequence ha hm, if_neg (by omega)]
  · rw [exec_recessiveSequence ha hm, if_pos (by omega)]
  · exact port_recover s p
  · rintro rfl
    exact recover_v s
  · rw [port_recover]
    exact calm_recover s p

section
variable {s : State}

/-! ### The arbiters -/

theorem exec_transmitAttemptStart {p : Port} (hr : s.running = true) (hb : (s.port p).onBus = true)
    (hn : (s.port p).attempt = none) : exec (.transmitAttemptStart p) s = .next (s.startAttempt p) :=
  congrArg _ (if_pos (by rw [hr, hb, hn]; rfl))

theorem startAttempt_of_arbiter {p : Port} {a : Attempt} (h : s.arbiter p = some a) :
    s.startAttempt p = (s.setPort p { s.port p with attempt := some a }).chosen a := by
  rw [State.startAttempt, h]

/-- R19: the LOADED slot, the OLDER of two. -/
theorem readySlot_of_loaded {m : Merger} {n : SlotName} (h : (m.slot n).state = .loaded)
    (ho : (m.slot n.other).state = .loaded → (m.slot n).order = some .older ∧ (m.slot n.other).order = some .newer) :
    m.readySlot = some n := by
  unfold Merger.readySlot
  cases n with
  | a =>
    have ha : m.slotA.state = .loaded := h
    have hother : m.slotB.state = .loaded → m.slotA.order = some .older ∧ m.slotB.order = some .newer := ho
    rw [ha]
    cases hb : m.slotB.state with
    | loaded => simp [hother hb]
    | empty | sending | done => rfl
  | b =>
    have hb : m.slotB.state = .loaded := h
    have hother : m.slotA.state = .loaded → m.slotB.order = some .older ∧ m.slotA.order = some .newer := ho
    rw [hb]
    cases ha : m.slotA.state with
    | loaded => simp [hother ha]
    | empty | sending | done => rfl

theorem readySlot_eq_none {m : Merger} (ha : m.slotA.state ≠ .loaded) (hb : m.slotB.state ≠ .loaded) :
    m.readySlot = none := by
  unfold Merger.readySlot
  split
  next h _ => exact absurd h ha
  next h _ => exact absurd h ha
  next h _ => exact absurd h hb
  next => rfl

theorem arbiterB_of_slot {n : SlotName} {f : Frame} (h : s.merger.readySlot = some n)
    (hf : (s.merger.slot n).frame = some f) : s.arbiterB = some ⟨.slot n, f⟩ := by
  rw [State.arbiterB, h]
  simp [hf]

theorem arbiterB_of_control {f : Frame} {rest : List Frame} (h : s.merger.readySlot = none)
    (hc : s.merger.control = f :: rest) : s.arbiterB = some ⟨.control, f⟩ := by
  rw [State.arbiterB, h, hc]

theorem arbiterB_of_vToB {f : Frame} {rest : List Frame} (h : s.merger.readySlot = none)
    (hc : s.merger.control = []) (hq : s.vToB = f :: rest) : s.arbiterB = some ⟨.vToB, f⟩ := by
  rw [State.arbiterB, h, hc, hq]

theorem arbiterV_of_reply {r : Reply} {rest : List Reply} (h : s.resp.replies = r :: rest) :
    s.arbiterV = some ⟨.reply, r.frame⟩ := by
  rw [State.arbiterV, h]

theorem arbiterV_of_cab {f : Frame} (h : s.resp.replies = []) (hc : s.resp.cab = .waiting f) :
    s.arbiterV = some ⟨.cab, f⟩ := by
  rw [State.arbiterV, h, hc]

theorem arbiterV_of_bToV {f : Frame} {rest : List Frame} (h : s.resp.replies = []) (hc : s.resp.cab = .empty)
    (hq : s.bToV = f :: rest) : s.arbiterV = some ⟨.bToV, f⟩ := by
  rw [State.arbiterV, h, hc, hq]
  rfl

end

/-- Settles O12: the source that each arbiter gives, and what it does there. -/
theorem arbitersGiveTheFirstReady : Obligations.ArbitersGiveTheFirstReady := by
  refine ⟨fun s hr hb hn => ⟨fun n f hl hf ho => ?_, fun ha hb' => ?_⟩,
    fun s hr hb hn => ⟨fun r rest hp => ?_, fun hp => ⟨fun f hc => ?_, fun f rest hc hq => ?_⟩⟩⟩
  · rw [exec_transmitAttemptStart (p := .b) hr hb hn,
      startAttempt_of_arbiter (p := .b) (arbiterB_of_slot (readySlot_of_loaded hl ho) hf)]
    rfl
  · have hready := readySlot_eq_none ha hb'
    refine ⟨fun f rest hc => ?_, fun f rest hc hq => ?_⟩
    · rw [exec_transmitAttemptStart (p := .b) hr hb hn, startAttempt_of_arbiter (p := .b) (arbiterB_of_control hready hc)]
      rfl
    · rw [exec_transmitAttemptStart (p := .b) hr hb hn, startAttempt_of_arbiter (p := .b) (arbiterB_of_vToB hready hc hq)]
      rfl
  · rw [exec_transmitAttemptStart (p := .v) hr hb hn, startAttempt_of_arbiter (p := .v) (arbiterV_of_reply hp)]
    rfl
  · rw [exec_transmitAttemptStart (p := .v) hr hb hn, startAttempt_of_arbiter (p := .v) (arbiterV_of_cab hp hc)]
    rfl
  · rw [exec_transmitAttemptStart (p := .v) hr hb hn, startAttempt_of_arbiter (p := .v) (arbiterV_of_bToV hp hc hq)]
    rfl

end Sys2Proof.Machine.FramePath

namespace Sys2Proof.Machine.FramePath

open AxleChannels ManagementResponder HoldSupervisor

/-! A frame that arrives: its classification, what it is offered to, and the driver demand record (R1, R3, R8 to R12, R14 to
R16, R115). -/

section
variable {s : State} {p : Port} {f : Frame} {e : RouteEntry}

/-! ### The frame taken and classified -/

theorem exec_frameReceived (hr : s.running = true) (hb : (s.port p).onBus = true) :
    exec (.frameReceived p f) s = .next ((s.afterTaking p).classify p f) := by
  show execFrameReceived p f s = _
  rw [execFrameReceived, if_pos (by rw [hr, hb]; rfl), setPort_taken hb]

@[simp] theorem route_afterTaking (s : State) (p : Port) : (s.afterTaking p).route = s.route := by cases p <;> rfl

@[simp] theorem shedding_afterTaking (s : State) (p : Port) : (s.afterTaking p).shedding = s.shedding := by cases p <;> rfl

@[simp] theorem matchEntry_afterTaking (s : State) (p q : Port) (f : Frame) :
    (s.afterTaking p).matchEntry q f = s.matchEntry q f := by cases p <;> rfl

@[simp] theorem isRequest_afterTaking (s : State) (p q : Port) (f : Frame) :
    (s.afterTaking p).isRequest q f = s.isRequest q f := by cases p <;> rfl

theorem classify_of_match (hr : s.route.state = .inForce) (hm : s.matchEntry p f = some e) :
    s.classify p f = s.matched e p f := by
  rw [State.classify, hr, hm]

theorem classify_of_no_match (hr : s.route.state = .inForce) (hm : s.matchEntry p f = none)
    (hid : p = .b ∨ f.id ≠ s.work.settings.requestId) : s.classify p f = s.defaultFrame p f := by
  have hreq : s.isRequest p f = false := by
    rcases hid with rfl | hid
    · rfl
    · simp [State.isRequest, hid]
  rw [State.classify, hr, hm]
  simp [hreq]

theorem exec_matched (hr : s.running = true) (hb : (s.port p).onBus = true) (hroute : s.route.state = .inForce)
    (hm : s.matchEntry p f = some e) : exec (.frameReceived p f) s = .next ((s.afterTaking p).matched e p f) := by
  rw [exec_frameReceived hr hb, classify_of_match (by simpa using hroute) (by simpa using hm)]

/-! ### The other port's queue -/

/-- R9, R15, R16: a frame offered to the other port's queue. -/
theorem forward_afterTaking (s : State) (p : Port) (f : Frame) (shed : Bool) :
    (s.afterTaking p).forward p f shed = s.offering p f shed := by
  cases p with
  | v =>
    show (s.afterTaking .v).offerVToB f shed = _
    unfold State.offerVToB State.offering
    dsimp only
    rw [vToB_afterTaking, shedding_afterTaking, work_afterTaking]
    by_cases hs : shed = true ∧ s.shedding = true
    · rw [if_pos (by simpa using hs), if_pos hs]
      rfl
    · rw [if_neg (by simpa using hs), if_neg hs]
      by_cases hl : s.vToB.length < 24
      · rw [if_neg (show ¬forwardSize ≤ _ from Nat.not_le.2 hl), if_pos hl, List.length_append]
        rfl
      · rw [if_pos (show forwardSize ≤ _ from Nat.not_lt.1 hl), if_neg hl]
        rfl
  | b =>
    show (s.afterTaking .b).offerBToV f = _
    unfold State.offerBToV State.offering
    dsimp only
    rw [bToV_afterTaking]
    by_cases hl : s.bToV.length < 24
    · rw [if_neg (show ¬forwardSize ≤ _ from Nat.not_le.2 hl), if_pos hl]
    · rw [if_pos (show forwardSize ≤ _ from Nat.not_lt.1 hl), if_neg hl]
      rfl

theorem defaultFrame_drop (h : s.work.settings.defaultAction p = .drop) :
    (s.afterTaking p).defaultFrame p f = s.afterTaking p := by
  rw [State.defaultFrame, work_afterTaking, h]

theorem defaultFrame_pass (h : s.work.settings.defaultAction p = .pass) :
    (s.afterTaking p).defaultFrame p f = s.offering p f false := by
  rw [State.defaultFrame, work_afterTaking, h]
  exact forward_afterTaking s p f false

/-- R9: what an entry forwards of a frame just taken. -/
theorem offerPart_pass (h : e.action = .pass) : (s.afterTaking p).offerPart e p f = s.offering p f false := by
  rw [State.offerPart, h]
  exact forward_afterTaking s p f false

theorem offerPart_passShed (h : e.action = .passShed) : (s.afterTaking p).offerPart e p f = s.offering p f true := by
  rw [State.offerPart, h]
  exact forward_afterTaking s p f true

theorem offerPart_alsoPass (h : e.action = .channel) (ha : e.alsoPass = true) :
    (s.afterTaking p).offerPart e p f = s.offering p f false := by
  rw [State.offerPart, h]
  exact (if_pos ha).trans (forward_afterTaking s p f false)

/-- R9: TAKE, MERGE, MANAGE and CHANNEL without also-pass forward nothing. -/
theorem offerPart_none (h : e.action = .take ∨ e.action = .merge ∨ e.action = .manage ∨
    e.action = .channel ∧ e.alsoPass = false) : s.offerPart e p f = s := by
  unfold State.offerPart
  rcases h with h | h | h | ⟨h, ha⟩ <;> rw [h]
  rw [ha]
  rfl

/-! ### An entry that gives no signals -/

theorem extractAll_nil (s : State) (f : Frame) : s.extractAll f [] = s := by
  unfold State.extractAll
  split <;> rfl

/-- R9: a remote frame is only forwarded. -/
theorem matched_remote (h : f.remote = true) : s.matched e p f = s.offerPart e p f := if_pos h

theorem matched_of_data (h : f.remote = false) :
    s.matched e p f = ((s.offerPart e p f).extractAll f e.extract).handPart e f := by
  rw [State.matched, h]
  rfl

theorem handPart_none (h : e.action = .pass ∨ e.action = .passShed ∨ e.action = .take) : s.handPart e f = s := by
  unfold State.handPart
  rcases h with h | h | h <;> rw [h]

/-- R9, R10: PASS and PASS-SHED of a remote frame, or of an entry that gives no signals. -/
theorem matched_forwarded (h : f.remote = true ∨ e.extract = []) (ha : e.action = .pass ∨ e.action = .passShed) :
    s.matched e p f = s.offerPart e p f := by
  by_cases hr : f.remote = true
  · exact matched_remote hr
  · rw [matched_of_data (Bool.not_eq_true _ ▸ hr), h.resolve_left hr, extractAll_nil,
      handPart_none (ha.elim .inl fun h => .inr (.inl h))]

/-! ### The driver demand record -/

theorem demandTaken_short (h : f.dlc.val ≠ 8) : s.demandTaken f = s := if_neg h

/-- R115: the driver demand record that a frame just taken leaves. -/
theorem driverRecord_eq (s : State) (f : Frame) : s.driverRecord f = {
    demands := ⟨4 * (byteAt f.data 0).toNat, 4 * (byteAt f.data 1).toNat, 4 * (byteAt f.data 2).toNat,
      4 * (byteAt f.data 3).toNat⟩
    age := .fresh
    stale := some ⟨s.now, s.work.settings.demandStale⟩
    loss := some ⟨s.now, s.work.settings.demandLoss⟩
    last := some ⟨f.id, f.data⟩ } := rfl

theorem calm_demandTaken (h : f.dlc.val = 8) : (s.demandTaken f).calm = (s.setDriver (s.driverRecord f)).calm := by
  rw [State.demandTaken, if_pos h, State.calm_noticeDemand, State.calm_makeDemand]

theorem calm_demandTaken_afterTaking (h : f.dlc.val = 8) : ((s.afterTaking p).demandTaken f).calm =
    ({ s.afterTaking p with merger := { s.merger with driver := {
      demands := ⟨4 * (byteAt f.data 0).toNat, 4 * (byteAt f.data 1).toNat, 4 * (byteAt f.data 2).toNat,
        4 * (byteAt f.data 3).toNat⟩
      age := .fresh
      stale := some ⟨s.now, s.work.settings.demandStale⟩
      loss := some ⟨s.now, s.work.settings.demandLoss⟩
      last := some ⟨f.id, f.data⟩ } } } : State).calm := by
  rw [calm_demandTaken h, driverRecord_eq, now_afterTaking, work_afterTaking, State.setDriver, merger_afterTaking]

end

/-! ### The statements -/

theorem exec_default {s : State} {p : Port} {f : Frame} (hr : s.running = true) (hb : (s.port p).onBus = true)
    (hroute : s.route.state = .inForce) (hm : s.matchEntry p f = none)
    (hid : p = .b ∨ f.id ≠ s.work.settings.requestId) :
    exec (.frameReceived p f) s = .next ((s.afterTaking p).defaultFrame p f) := by
  rw [exec_frameReceived hr hb, classify_of_no_match (by simpa using hroute) (by simpa using hm) (by simpa using hid)]

/-- R12, R15, R16: what passing makes of a Port V frame. -/
theorem offering_v (s : State) (f : Frame) : s.offering .v f false = if s.vToB.length < 24
    then { s.afterTaking .v with
      vToB := s.vToB ++ [f]
      shedding := if s.work.settings.highWater ≤ s.vToB.length + 1 then true else s.shedding }
    else { s.afterTaking .v with counters := s.counters.set .vToBDrops s.counters.vToBDrops.bump } := by
  have hshed : (s.shedding || decide (s.work.settings.highWater ≤ s.vToB.length + 1)) =
      if s.work.settings.highWater ≤ s.vToB.length + 1 then true else s.shedding := by
    split <;> simp [*]
  unfold State.offering
  dsimp only
  rw [if_neg (by simp), hshed]

/-- Settles O14: a frame that no entry matches, and one of a PASS-SHED entry. -/
theorem offeredFramesJoinOrAreCounted : Obligations.OfferedFramesJoinOrAreCounted := by
  refine ⟨fun s p f hr hb hroute hm hid => ⟨fun ha => ?_, fun ha hp => ?_, fun ha hp => ?_⟩, fun s f h => ?_⟩
  · rw [exec_default hr hb hroute hm hid, defaultFrame_drop ha]
  · rw [exec_default hr hb hroute hm hid, defaultFrame_pass ha, hp]
    rfl
  · rw [exec_default hr hb hroute hm hid, defaultFrame_pass ha, hp, offering_v]
  · obtain ⟨e, hm, ha, hx, -⟩ := h.entry
    rw [exec_matched h.running h.onBus h.route hm, matched_forwarded (.inr hx) (.inr ha), offerPart_passShed ha]
    unfold State.offering
    dsimp only
    by_cases hs : s.shedding = true
    · rw [if_pos ⟨rfl, hs⟩, if_pos hs]
    · rw [if_neg (fun hc => hs hc.2), if_neg hs]
      simp [Bool.not_eq_true _ ▸ hs]

section
variable {s : State} {p : Port} {f : Frame}

/-- R14: the three ways of a frame while the route table is SUSPENDED. -/
theorem exec_suspended (hr : s.running = true) (hb : (s.port p).onBus = true) (hs : s.route.state = .suspended) :
    exec (.frameReceived p f) s = .next ((s.afterTaking p).classifySuspended p f) := by
  rw [exec_frameReceived hr hb, State.classify, route_afterTaking, hs]

theorem classifySuspended_merge (hm : s.route.mergeId = some f.id) :
    s.classifySuspended .v f = if f.remote then s else s.demandTaken f := if_pos ⟨rfl, hm⟩

theorem classifySuspended_request (hm : s.route.mergeId ≠ some f.id) (hid : f.id = s.work.settings.requestId) :
    s.classifySuspended .v f = s.requestFrame f := by
  rw [State.classifySuspended, if_neg (fun h => hm h.2), if_pos (by simp [State.isRequest, hid])]

theorem classifySuspended_default (h : p = .v → s.route.mergeId ≠ some f.id ∧ s.work.settings.requestId ≠ f.id) :
    s.classifySuspended p f = s.defaultFrame p f := by
  have hreq : s.isRequest p f = false := by
    rw [State.isRequest, Bool.and_eq_false_iff, decide_eq_false_iff_not, decide_eq_false_iff_not]
    by_cases hp : p = .v
    · exact .inr fun he => (h hp).2 he.symm
    · exact .inl hp
  rw [State.classifySuspended, if_neg (fun hc => (h hc.1).1 hc.2), hreq]
  rfl

end

/-- Settles O16: the merge identifier, the request identifier, and any other frame. -/
theorem suspendedTableStillTakesTheDriverDemand : Obligations.SuspendedTableStillTakesTheDriverDemand := by
  intro s p f hr hb hs
  rw [exec_suspended hr hb hs]
  refine ⟨?_, ?_, fun hid => ⟨fun ha => ?_, fun ha => ?_⟩⟩
  · rintro rfl hm
    rw [classifySuspended_merge (by simpa using hm)]
    refine ⟨fun hd hl => ⟨_, rfl, ?_⟩, fun h => ?_⟩
    · rw [hd]
      exact calm_demandTaken_afterTaking hl
    · split
      · rfl
      next hd => rw [demandTaken_short (h.resolve_left hd)]
  · rintro rfl hm hid hd
    rw [classifySuspended_request (by simpa using hm) (by simpa using hid), State.requestFrame, if_pos hd]
  · rw [classifySuspended_default (by simpa using hid), defaultFrame_drop ha]
  · rw [classifySuspended_default (by simpa using hid), defaultFrame_pass ha]

end Sys2Proof.Machine.FramePath

namespace Sys2Proof.Machine.FramePath

open AxleChannels SignalRecords CreepMonitor

/-! The signals a frame gives: what the consumers of a renewed record leave alone, and an extraction (R10, R26, R27, R30,
R32, R33). -/

/-! ### What the consumers of a renewal leave alone -/

/-- The quiet view less the reversal tracker, which a sample of DRUM_SPEED moves (R36, R37). -/
def sampledView (s : State) : State :=
  { s.quiet with signals := { s.quiet.signals with keptSign := .none, reversal := none } }

theorem sampledView_of_quiet {s t : State} (h : s.quiet = t.quiet) : sampledView s = sampledView t := by
  unfold sampledView; rw [h]

theorem sampledView_of_calm {s t : State} (h : s.calm = t.calm) : sampledView s = sampledView t :=
  sampledView_of_quiet (State.quiet_of_calm h)

/-- The grade window has taken a sample, its consumers not yet told (R34). -/
def withSample (s : State) (x : Int) : State :=
  { s with signals := { s.signals with window := pushWindow s.signals.window x } }

section
variable {s : State}

theorem quiet_gradeSample (x : Int) : (s.gradeSample x).quiet = (withSample s x).quiet :=
  (State.quiet_testEntry _).trans
    ((State.quiet_evaluate _).trans (State.quiet_of_calm (State.calm_mapContext (withSample s x) _)))

/-- R37: a reversal moves the tracker alone. -/
theorem sampledView_drumSample (x : Int) : sampledView (s.drumSample x) = sampledView s := by
  have hr (g : Sign) : sampledView (State.reversal { s with signals := { s.signals with keptSign := g } }) =
      sampledView s := by
    unfold State.reversal
    dsimp only
    split
    · rfl
    · split
      · rfl
      · exact (sampledView_of_quiet (State.quiet_evaluate _)).trans rfl
  unfold State.drumSample
  split
  · rfl
  · rfl
  · split
    · rfl
    · exact hr _

/-- R105: a glitch moves the wheel's own record alone. -/
theorem quiet_glitch (w : Wheel) (count : Nat) : (s.glitch w count).quiet = s.quiet := by
  unfold State.glitch State.mapContext State.setTrack State.count
  rfl

theorem quiet_wheelSample (w : Wheel) (count : Nat) (code : DirCode) : (s.wheelSample w count code).quiet = s.quiet := by
  unfold State.wheelSample
  split
  · exact quiet_firstSample
  · dsimp only
    split
    · rfl
    · split
      · exact quiet_movement count
      · exact quiet_glitch w count

/-- R32: the consumers of a renewed signal other than GRADE leave the records, the window, the traffic and the store. -/
theorem sampledView_notify {role : Role} (h : role ≠ .grade) (before after : SampleRecord) :
    sampledView (s.notify role .renewal before after) = sampledView s := by
  unfold State.notify
  dsimp only
  cases role <;> dsimp only
  case grade => exact absurd rfl h
  case payload => exact sampledView_of_quiet (State.quiet_evaluate _)
  case drumSpeed => exact (sampledView_of_quiet (State.quiet_evaluate _)).trans (sampledView_drumSample _)
  case engineTorque => exact sampledView_of_calm (State.calm_driveNotice s)
  case gearRatio => exact sampledView_of_calm (State.calm_driveNotice s)
  case reservoir => split <;> exact sampledView_of_calm (by simp)
  case parkStatus => exact sampledView_of_calm (State.calm_parkRenewal s _)
  case parkReleaseReq =>
    split
    · exact sampledView_of_calm (State.calm_releaseRequest s)
    · rfl
  case driverPresent => split <;> exact sampledView_of_calm (by simp)
  case pendantActive => split <;> exact sampledView_of_calm (by simp)
  case holdInhibit => exact sampledView_of_calm (State.calm_testEntry s)
  case liftAxle => exact sampledView_of_calm (State.calm_reworkNotice s)
  case wheel w => exact sampledView_of_quiet ((quiet_wheelSample w _ _).trans (State.quiet_watchWheels s))

/-- R34: the consumers of a renewed GRADE take the sample into the window. -/
theorem sampledView_notify_grade (before after : SampleRecord) :
    sampledView (s.notify .grade .renewal before after) = sampledView (withSample s after.value) := by
  refine sampledView_of_quiet (Eq.trans ?_ (quiet_gradeSample after.value))
  exact (State.quiet_testEntry _).trans (State.quiet_evaluate _)

/-! ### One view's fields -/

variable {t : State}

theorem records_of_sampledView (h : sampledView s = sampledView t) : s.signals.records = t.signals.records := by
  have e := congrArg (fun x : State => x.signals.records) h
  exact e

theorem window_of_sampledView (h : sampledView s = sampledView t) : s.signals.window = t.signals.window := by
  have e := congrArg (fun x : State => x.signals.window) h
  exact e

theorem portV_of_sampledView (h : sampledView s = sampledView t) : s.portV = t.portV := by
  have e := congrArg (fun x : State => x.portV) h
  exact e

theorem portB_of_sampledView (h : sampledView s = sampledView t) : s.portB = t.portB := by
  have e := congrArg (fun x : State => x.portB) h
  exact e

theorem vToB_of_sampledView (h : sampledView s = sampledView t) : s.vToB = t.vToB := by
  have e := congrArg (fun x : State => x.vToB) h
  exact e

theorem bToV_of_sampledView (h : sampledView s = sampledView t) : s.bToV = t.bToV := by
  have e := congrArg (fun x : State => x.bToV) h
  exact e

theorem shedding_of_sampledView (h : sampledView s = sampledView t) : s.shedding = t.shedding := by
  have e := congrArg (fun x : State => x.shedding) h
  exact e

theorem work_of_sampledView (h : sampledView s = sampledView t) : s.work = t.work := by
  have e := congrArg (fun x : State => x.work) h
  exact e

theorem store_of_sampledView (h : sampledView s = sampledView t) : s.store = t.store := by
  have e := congrArg (fun x : State => x.store) h
  exact e

/-! ### The forward queues -/

/-- Both forward queues stand, and shedding with them (R15). -/
structure QueuesStand (s t : State) : Prop where
  vToB : t.vToB = s.vToB
  bToV : t.bToV = s.bToV
  shedding : t.shedding = s.shedding

theorem QueuesStand.refl (s : State) : QueuesStand s s := ⟨rfl, rfl, rfl⟩

theorem QueuesStand.trans {u : State} (h : QueuesStand s t) (h' : QueuesStand t u) : QueuesStand s u :=
  ⟨h'.vToB.trans h.vToB, h'.bToV.trans h.bToV, h'.shedding.trans h.shedding⟩

theorem queuesStand_of_sampledView (h : sampledView t = sampledView s) : QueuesStand s t :=
  ⟨vToB_of_sampledView h, bToV_of_sampledView h, shedding_of_sampledView h⟩

theorem queuesStand_of_calm (h : t.calm = s.calm) : QueuesStand s t := queuesStand_of_sampledView (sampledView_of_calm h)

theorem queuesStand_notify (role : Role) (before after : SampleRecord) :
    QueuesStand s (s.notify role .renewal before after) := by
  by_cases h : role = .grade
  · subst h
    obtain ⟨hv, hb, hs⟩ := queuesStand_of_sampledView (sampledView_notify_grade (s := s) before after)
    exact ⟨hv, hb, hs⟩
  · exact queuesStand_of_sampledView (sampledView_notify h before after)

/-- R10: extractions leave the forward queues. -/
theorem queuesStand_extract (f : Frame) (k : Fin 20) : QueuesStand s (s.extract f k) := by
  unfold State.extract
  dsimp only
  split
  · exact QueuesStand.refl s
  · split
    · exact ⟨rfl, rfl, rfl⟩
    · split
      · exact ⟨rfl, rfl, rfl⟩
      · have hn := queuesStand_notify (s := s.setRecord k ((s.signals.records.get k).renew (s.work.signals.get k) f.data
          (s.timer (s.work.signals.get k).stale) (s.timer (s.work.signals.get k).loss))) (s.work.signals.get k).role
          (s.signals.records.get k) ((s.signals.records.get k).renew (s.work.signals.get k) f.data
          (s.timer (s.work.signals.get k).stale) (s.timer (s.work.signals.get k).loss))
        exact ⟨hn.vToB, hn.bToV, hn.shedding⟩

theorem queuesStand_extractAll (f : Frame) (l : List (Fin 20)) : QueuesStand s (s.extractAll f l) := by
  have hfold (l : List (Fin 20)) (u : State) : QueuesStand u (l.foldl (fun v k => v.extract f k) u) := by
    induction l generalizing u with
    | nil => exact QueuesStand.refl u
    | cons k l ih => exact (queuesStand_extract f k).trans (ih _)
  unfold State.extractAll
  split
  · exact QueuesStand.refl s
  · exact hfold _ s

/-- R42: the channel block's taking of a frame leaves the forward queues. -/
theorem queuesStand_channelFrame (f : Frame) : QueuesStand s (s.channelFrame f) := by
  have hrework {u : State} (h : QueuesStand s u) : QueuesStand s u.reworkNotice :=
    h.trans (queuesStand_of_calm (State.calm_reworkNotice u))
  have hadvert (c : Chan) (a : Advert) : QueuesStand s (s.advertTaken c a) := by
    unfold State.advertTaken
    dsimp only
    split
    · rw [offerControl_eq]
      exact hrework ⟨rfl, rfl, rfl⟩
    · exact hrework ⟨rfl, rfl, rfl⟩
  have hstatus (c : Chan) : QueuesStand s (s.statusTaken c f) :=
    (show QueuesStand s (s.setChannel c (renewed s c f)) from ⟨rfl, rfl, rfl⟩).trans
      (queuesStand_of_calm (calm_statusTaken s c f))
  unfold State.channelFrame
  split
  · exact QueuesStand.refl s
  · split
    · split
      · exact QueuesStand.refl s
      · unfold State.sortAdvert
        dsimp only
        split
        · exact ⟨rfl, rfl, rfl⟩
        · split
          · exact hadvert _ _
          · exact ⟨rfl, rfl, rfl⟩
    · split
      · split
        · exact QueuesStand.refl s
        · unfold State.sortStatus
          split
          · exact QueuesStand.refl s
          · split
            · exact hstatus _
            · exact QueuesStand.refl s
      · exact QueuesStand.refl s

/-! ### The entry that acts -/

/-- R8: what a match asks of an entry. -/
theorem matches_iff (e : RouteEntry) (p : Port) (f : Frame) : e.matches p f = true ↔ e.valid = true ∧ e.port = p ∧
    e.ext = f.id.isExt ∧ ∀ i : Nat, i < 29 → e.mask.getLsbD i = true → f.id.bits.getLsbD i = e.id.getLsbD i := by
  have hbits : (f.id.bits ^^^ e.id) &&& e.mask = 0#29 ↔
      ∀ i : Nat, i < 29 → e.mask.getLsbD i = true → f.id.bits.getLsbD i = e.id.getLsbD i := by
    constructor
    · intro h i hi hm
      have hbit := congrArg (fun b : BitVec 29 => b.getLsbD i) h
      simpa [hm] using hbit
    · intro h
      refine BitVec.eq_of_getLsbD_eq fun i hi => ?_
      by_cases hm : e.mask.getLsbD i = true
      · simp [h i hi hm]
      · simp [hm]
  unfold RouteEntry.matches
  simp only [Bool.and_eq_true, decide_eq_true_eq, beq_iff_eq, hbits, and_assoc]

/-- R8: the entry that acts is the matching one of lowest index. -/
theorem lowest_of_matchEntry {p : Port} {f : Frame} {e : RouteEntry} (h : s.matchEntry p f = some e) :
    ∃ k : Fin 96, s.work.routes.get k = e ∧ e.matches p f = true ∧
      ∀ j : Fin 96, j < k → (s.work.routes.get j).matches p f = false := by
  obtain ⟨hm, i, hi, he, hlow⟩ := List.find?_eq_some_iff_getElem.1 h
  have hlen : i < 96 := by simpa using hi
  refine ⟨⟨i, hlen⟩, by simpa [Vector.get_eq_getElem] using he, hm, fun j hj => ?_⟩
  simpa [Vector.get_eq_getElem] using hlow j.1 hj

theorem unmatched_of_matchEntry {p : Port} {f : Frame} (h : s.matchEntry p f = none) (k : Fin 96) :
    (s.work.routes.get k).matches p f = false := by
  have hk := List.find?_eq_none.1 h (s.work.routes.get k) (by simp [Vector.get_eq_getElem])
  simpa using hk

/-- R9: what the entry forwards, whatever it does besides. -/
theorem queuesStand_matched {p : Port} {f : Frame} {e : RouteEntry}
    (ha : e.action = .pass ∨ e.action = .passShed ∨ e.action = .channel ∧ e.alsoPass = true) :
    QueuesStand (s.offerPart e p f) (s.matched e p f) := by
  by_cases hr : f.remote = true
  · rw [matched_remote hr]
    exact QueuesStand.refl _
  · rw [matched_of_data (Bool.not_eq_true _ ▸ hr)]
    refine (queuesStand_extractAll f e.extract).trans ?_
    rcases ha with ha | ha | ⟨ha, -⟩
    · rw [handPart_none (.inl ha)]
      exact QueuesStand.refl _
    · rw [handPart_none (.inr (.inl ha))]
      exact QueuesStand.refl _
    · rw [State.handPart, ha]
      exact queuesStand_channelFrame f

/-- R9: what PASS, PASS-SHED and CHANNEL with also-pass forward of a frame just taken. -/
theorem offerPart_offering {p : Port} {f : Frame} {e : RouteEntry}
    (ha : e.action = .pass ∨ e.action = .passShed ∨ e.action = .channel ∧ e.alsoPass = true) :
    (s.afterTaking p).offerPart e p f = s.offering p f (decide (e.action = .passShed)) := by
  rcases ha with ha | ha | ⟨ha, hp⟩
  · rw [offerPart_pass ha, ha]; rfl
  · rw [offerPart_passShed ha, ha]; rfl
  · rw [offerPart_alsoPass ha hp, ha]; rfl

end

/-- Settles O15: the lowest matching entry, and what it does with the frame. -/
theorem lowestMatchingEntryActs : Obligations.LowestMatchingEntryActs := by
  refine ⟨fun s p f => ⟨fun e => matches_iff e p f, fun e => lowest_of_matchEntry, unmatched_of_matchEntry⟩,
    fun s p f e hr hb hroute hm => ?_⟩
  rw [exec_matched hr hb hroute hm]
  refine ⟨fun hx => ⟨fun ha => ?_, fun ha => ?_⟩, fun ha => ?_, fun hrem => ⟨fun ha hp => ?_, fun ha => ?_⟩,
    fun hrem hx => ⟨fun ha => ?_, fun ha hl => ?_, fun ha hl => ?_⟩⟩
  · rw [matched_forwarded hx (.inl ha), offerPart_pass ha]
  · rw [matched_forwarded hx (.inr ha), offerPart_passShed ha]
  · obtain ⟨hv, hbv, hs⟩ := queuesStand_matched (s := s.afterTaking p) (p := p) (f := f) ha
    rw [offerPart_offering ha] at hv hbv hs
    exact ⟨_, rfl, hv, hbv, hs⟩
  · rw [matched_remote hrem, offerPart_alsoPass ha hp]
  · rw [matched_remote hrem, offerPart_none ha]
  · rw [matched_of_data hrem, offerPart_none (.inl ha), hx, extractAll_nil, handPart_none (.inr (.inr ha))]
  · rw [matched_of_data hrem, offerPart_none (.inr (.inl ha)), hx, extractAll_nil, State.handPart, ha,
      demandTaken_short hl]
  · refine ⟨_, rfl, ?_⟩
    rw [matched_of_data hrem, offerPart_none (.inr (.inl ha)), hx, extractAll_nil, State.handPart, ha]
    exact calm_demandTaken_afterTaking hl

end Sys2Proof.Machine.FramePath

namespace Sys2Proof.Machine.FramePath

open AxleChannels SignalRecords

/-! One signal extracted from a frame (R10, R27, R30 to R33). -/

section
variable {s : State} {f : Frame} {k : Fin 20}

/-- R10: a list that names one signal is worked through as that signal alone. -/
theorem onceEach_eq_singleton {l : List (Fin 20)} (hne : l ≠ []) (h : ∀ j ∈ l, j = k) : onceEach l = [k] := by
  have hmem (j : Fin 20) (hj : j ∈ onceEach l) : j = k := h j ((mem_onceEach j l).1 hj)
  have hnodup := nodup_onceEach l
  obtain ⟨a, ha⟩ := List.exists_mem_of_ne_nil l hne
  have hk : k ∈ onceEach l := (mem_onceEach k l).2 (h a ha ▸ ha)
  cases hl : onceEach l with
  | nil => simp [hl] at hk
  | cons b rest =>
    rw [hl] at hmem hnodup
    have hb := hmem b List.mem_cons_self
    cases rest with
    | nil => rw [hb]
    | cons c rest =>
      have hc := hmem c (List.mem_cons_of_mem b List.mem_cons_self)
      exact absurd (hb.trans hc.symm) (by simp at hnodup; exact hnodup.1.1)

theorem extractAll_single {l : List (Fin 20)} (hs : s.signals.state = .inForce) (hne : l ≠ []) (h : ∀ j ∈ l, j = k) :
    s.extractAll f l = s.extract f k := by
  rw [State.extractAll, hs, onceEach_eq_singleton hne h]
  rfl

/-- R30: the record that an extraction of a frame leaves, its marker not yet taken. -/
def renewal (s : State) (k : Fin 20) (f : Frame) : SampleRecord :=
  (s.signals.records.get k).renew (s.work.signals.get k) f.data (s.timer (s.work.signals.get k).stale)
    (s.timer (s.work.signals.get k).loss)

theorem extract_short (hr : (s.work.signals.get k).role ≠ .none)
    (hs : (s.work.signals.get k).short f.dlc.val = true) : s.extract f k = s.count .shortFrames := by
  simp only [State.extract, if_neg hr, if_pos hs]

theorem extract_noData (hr : (s.work.signals.get k).role ≠ .none)
    (hs : (s.work.signals.get k).short f.dlc.val = false) (hn : (s.work.signals.get k).noData f.data = true) :
    s.extract f k = s.count .noDataFields := by
  simp only [State.extract, if_neg hr, hs, hn]
  rfl

theorem extract_renewal (hr : (s.work.signals.get k).role ≠ .none)
    (hs : (s.work.signals.get k).short f.dlc.val = false) (hn : (s.work.signals.get k).noData f.data = false) :
    s.extract f k = ((s.setRecord k (renewal s k f)).notify (s.work.signals.get k).role .renewal
      (s.signals.records.get k) (renewal s k f)).clearMark k := by
  simp only [State.extract, if_neg hr, hs, hn, renewal]
  rfl

/-- R9, R10: a frame of a TAKE entry that names one signal. -/
theorem exec_take {p : Port} {r : RouteEntry} (hr : s.running = true) (hb : (s.port p).onBus = true)
    (hroute : s.route.state = .inForce) (hs : s.signals.state = .inForce) (hd : f.remote = false)
    (hm : s.matchEntry p f = some r) (ha : r.action = .take) (hne : r.extract ≠ []) (hk : ∀ j ∈ r.extract, j = k) :
    exec (.frameReceived p f) s = .next ((s.afterTaking p).extract f k) := by
  rw [exec_matched hr hb hroute hm, matched_of_data hd, offerPart_none (.inl ha), handPart_none (.inr (.inr ha)),
    extractAll_single (by rw [signals_afterTaking]; exact hs) hne hk]

/-! ### What a renewal's notices leave -/

theorem records_notify_renewal (role : Role) (before after : SampleRecord) :
    (s.notify role .renewal before after).signals.records = s.signals.records := by
  by_cases h : role = .grade
  · subst h
    exact (records_of_sampledView (sampledView_notify_grade before after)).trans rfl
  · exact records_of_sampledView (sampledView_notify h before after)

theorem window_notify_renewal {role : Role} (h : role ≠ .grade) (before after : SampleRecord) :
    (s.notify role .renewal before after).signals.window = s.signals.window :=
  window_of_sampledView (sampledView_notify h before after)

theorem window_notify_renewal_grade (before after : SampleRecord) :
    (s.notify .grade .renewal before after).signals.window = pushWindow s.signals.window after.value :=
  (window_of_sampledView (sampledView_notify_grade before after)).trans rfl

/-- R32: what no consumer of a renewal touches. -/
structure Apart (s t : State) : Prop where
  portV : t.portV = s.portV
  portB : t.portB = s.portB
  vToB : t.vToB = s.vToB
  bToV : t.bToV = s.bToV
  work : t.work = s.work
  store : t.store = s.store

theorem apart_of_sampledView {t : State} (h : sampledView t = sampledView s) : Apart s t :=
  ⟨portV_of_sampledView h, portB_of_sampledView h, vToB_of_sampledView h, bToV_of_sampledView h, work_of_sampledView h,
    store_of_sampledView h⟩

theorem apart_notify_renewal (role : Role) (before after : SampleRecord) :
    Apart s (s.notify role .renewal before after) := by
  by_cases h : role = .grade
  · subst h
    obtain ⟨hv, hb, hvb, hbv, hw, hst⟩ := apart_of_sampledView (s := withSample s after.value)
      (sampledView_notify_grade before after)
    exact ⟨hv, hb, hvb, hbv, hw, hst⟩
  · exact apart_of_sampledView (sampledView_notify h before after)

end

/-- R31: a record shows the value 1 exactly when it is not LOST and holds 1. -/
theorem flag_effective (r : SampleRecord) (unbound : Bool) :
    r.effective.flag unbound false = true ↔ r.age ≠ .lost ∧ r.value = 1 := by
  cases h : r.age <;> simp [SampleRecord.effective, Effective.flag, h]

/-- R30: a renewed record shows the value 1 exactly when it holds 1. -/
theorem flag_renewal (s : State) (k : Fin 20) (f : Frame) (unbound : Bool) :
    (renewal s k f).effective.flag unbound false = true ↔ (s.work.signals.get k).value f.data = 1 := by
  rw [flag_effective]
  exact ⟨fun h => h.2, fun h => ⟨by simp [renewal, SampleRecord.renew], h⟩⟩

/-- R30: the renewal from a frame just taken, in its fields. -/
theorem renewal_afterTaking (s : State) (p : Port) (k : Fin 20) (f : Frame) :
    renewal (s.afterTaking p) k f = ⟨(s.work.signals.get k).value f.data, .fresh, true,
      some ⟨s.now, (s.work.signals.get k).stale⟩, some ⟨s.now, (s.work.signals.get k).loss⟩,
      if (s.work.signals.get k).role.isWheel then (s.work.signals.get k).dirCode f.data
        else (s.signals.records.get k).dir⟩ := by
  simp only [renewal, SampleRecord.renew, State.timer, work_afterTaking, signals_afterTaking, now_afterTaking]

/-- R32: what the renewal of a frame just taken becomes, its consumers told and its marker taken. -/
def told (s : State) (p : Port) (k : Fin 20) (f : Frame) : State :=
  ((s.afterTaking p).setRecord k (renewal (s.afterTaking p) k f)).notify (s.work.signals.get k).role .renewal
    (s.signals.records.get k) (renewal (s.afterTaking p) k f)

section
variable {s : State} {p : Port} {f : Frame} {k : Fin 20}

/-- R30, R33: the records after a renewal. -/
theorem get_records_told_self : ((told s p k f).clearMark k).signals.records.get k =
    { renewal (s.afterTaking p) k f with updated := false } := by
  rw [State.clearMark, get_setRecord_self, told, records_notify_renewal, get_setRecord_self]

theorem get_records_told_of_ne {j : Fin 20} (h : j ≠ k) : ((told s p k f).clearMark k).signals.records.get j =
    s.signals.records.get j := by
  rw [State.clearMark, get_setRecord_of_ne _ _ h, told, records_notify_renewal, get_setRecord_of_ne _ _ h,
    signals_afterTaking]

/-- R34: the window after a renewal. -/
theorem window_told (h : (s.work.signals.get k).role ≠ .grade) :
    ((told s p k f).clearMark k).signals.window = s.signals.window :=
  (window_notify_renewal h _ _).trans (by rw [← signals_afterTaking s p]; rfl)

theorem window_told_grade (h : (s.work.signals.get k).role = .grade) :
    ((told s p k f).clearMark k).signals.window =
      pushWindow s.signals.window ((s.work.signals.get k).value f.data) := by
  have ht : (told s p k f).signals.window =
      pushWindow (s.afterTaking p).signals.window (renewal (s.afterTaking p) k f).value := by
    rw [told, h]
    exact window_notify_renewal_grade _ _
  rw [signals_afterTaking, renewal_afterTaking] at ht
  exact ht

end

/-- Settles O20: a short frame, a no-data field, a renewal, and the renewal's consumers by role. -/
theorem extractionRenewsOrCounts : Obligations.ExtractionRenewsOrCounts := by
  intro s p f r k e hr hb hroute hs hd hm ha hne hk he hrole
  subst he
  have hex := exec_take hr hb hroute hs hd hm ha hne hk
  refine ⟨fun hshort => ?_, fun hshort hno => ?_, fun hshort hno => ?_, fun hshort hno => ?_⟩
  · rw [hex, extract_short (by simpa using hrole) (by simpa using hshort)]
    simp [State.count, Counters.get]
  · rw [hex, extract_noData (by simpa using hrole) (by simpa using hshort) (by simpa using hno)]
    simp [State.count, Counters.get]
  · have ht : exec (.frameReceived p f) s = .next ((told s p k f).clearMark k) := by
      rw [hex, extract_renewal (by simpa using hrole) (by simpa using hshort) (by simpa using hno), work_afterTaking,
        signals_afterTaking]
      rfl
    obtain ⟨hv, hb', hvb, hbv, hw, hst⟩ := apart_notify_renewal
      (s := (s.afterTaking p).setRecord k (renewal (s.afterTaking p) k f)) (s.work.signals.get k).role
      (s.signals.records.get k) (renewal (s.afterTaking p) k f)
    refine ⟨_, ht, ?_, fun j hj => get_records_told_of_ne hj, window_told, window_told_grade, hv, hb',
      hvb.trans (vToB_afterTaking s p), hbv.trans (bToV_afterTaking s p), hw.trans (work_afterTaking s p),
      hst.trans (store_afterTaking s p)⟩
    rw [get_records_told_self, renewal_afterTaking]
  · have ht : exec (.frameReceived p f) s = .next ((told s p k f).clearMark k) := by
      rw [hex, extract_renewal (by simpa using hrole) (by simpa using hshort) (by simpa using hno), work_afterTaking,
        signals_afterTaking]
      rfl
    intro before value code u wasOne answers
    have hu : (s.afterTaking p).setRecord k (renewal (s.afterTaking p) k f) = u := by rw [renewal_afterTaking]
    have hval : (renewal (s.afterTaking p) k f).value = value := by rw [renewal_afterTaking]
    have hdir : (renewal (s.afterTaking p) k f).dir = code := by rw [renewal_afterTaking]
    have hwork : u.work = s.work := work_afterTaking s p
    have hchan : u.channels = s.channels := channels_afterTaking s p
    have hcalc : u.calculator = s.calculator := by cases p <;> rfl
    have hnotify {t : State} (h : told s p k f = t) : answers t := by rw [← h]; exact ht
    have htold {role : Role} (h : (s.work.signals.get k).role = role) :
        told s p k f = u.notify role .renewal before (renewal (s.afterTaking p) k f) := by rw [told, hu, h]
    have hone (unbound : Bool) : (renewal (s.afterTaking p) k f).effective.flag unbound false = decide (value = 1) := by
      rw [Bool.eq_iff_iff, flag_renewal, work_afterTaking, decide_eq_true_iff]
    have hwas (unbound : Bool) : before.effective.flag unbound false = decide wasOne := by
      rw [Bool.eq_iff_iff, flag_effective, decide_eq_true_iff]
    refine ⟨fun h => hnotify ?_, fun h => hnotify ?_, fun h => hnotify ?_, fun h => hnotify ?_, fun h => hnotify ?_,
      fun h => hnotify ?_, fun h h1 h2 => hnotify ?_, fun h h1 => hnotify ?_, fun h h1 h2 => hnotify ?_,
      fun h h1 => hnotify ?_, fun h h1 h2 => hnotify ?_, fun h h1 => hnotify ?_, fun h => hnotify ?_, fun h => hnotify ?_,
      fun w h => hnotify ?_⟩
    · rw [htold h, ← hval]; rfl
    · rw [htold h, ← hval, ← hwork, ← hcalc]; rfl
    · rw [htold h, ← hval]; rfl
    · rcases h with h | h <;> rw [htold h] <;> rfl
    · have hfresh : (renewal (s.afterTaking p) k f).age ≠ .lost := by simp [renewal, SampleRecord.renew]
      rw [htold h]
      unfold State.notify
      dsimp only
      rw [if_neg fun hc => hfresh hc.1]
    · rw [htold h, ← hval]; rfl
    · rw [htold h]
      exact if_pos (by rw [hone, hwas]; simp [h1, h2])
    · rw [htold h]
      exact if_neg (by rw [hone, hwas]; simpa [imp_iff_not_or] using h1)
    · rw [htold h]
      exact if_pos (by rw [hone, hwas]; simp [h1, h2])
    · rw [htold h]
      exact if_neg (by rw [hone, hwas]; simpa [imp_iff_not_or, or_comm] using h1)
    · rw [htold h]
      exact if_pos (by rw [hone, hwas]; simp [h1, h2])
    · rw [htold h]
      exact if_neg (by rw [hone, hwas]; simpa [imp_iff_not_or] using h1)
    · rw [htold h]; rfl
    · rw [htold h, ← hchan]; rfl
    · rw [htold h, ← hval, ← hdir]; rfl

end Sys2Proof.Machine.FramePath

namespace Sys2Proof.Machine.StartAndSleep

open HoldSupervisor SignalRecords DemandMerger ManagementResponder

/-! Power on, loss of power, and the entry to sleep (R7, R39, R123, R140, R161, R165, R168 to R171). -/

/-! ### Every timer stops -/

/-- R171: what stopping every timer changes. -/
theorem haltTimers_eq (s : State) : s.haltTimers = { s with
    signals := s.haltRecords.signals, channels := s.haltRecords.channels, creep := s.haltRecords.creep
    merger := s.merger.halt, park := { s.park with timer := none }, path := { s.path with timer := none }
    resp := { s.resp with restartTimer := none, period := none }, sleepTimer := none
    sup := { s.sup with ctx := s.sup.ctx.map fun c => { c with holdLimit := none } } } := by
  simp only [State.haltTimers, State.haltRecords, State.mapContext]

section
variable {s : State}

theorem get_haltRecords (s : State) (k : Fin 20) : s.haltRecords.signals.records.get k =
    { s.signals.records.get k with stale := none, loss := none } := by
  simp only [State.haltRecords, Vector.get_eq_getElem, Vector.getElem_ofFn]

theorem channel_haltRecords (s : State) (c : Chan) : s.haltRecords.channels.records.get c =
    { s.channels.records.get c with stale := none, loss := none } := by
  simp only [State.haltRecords, PerChan.get_build]

theorem wheel_haltRecords (s : State) (w : Wheel) : s.haltRecords.creep.wheels.get w = (s.creep.wheels.get w).halt := by
  simp only [State.haltRecords]
  cases w <;> rfl

theorem window_haltRecords (s : State) : s.haltRecords.signals.window = s.signals.window := by
  simp only [State.haltRecords]

theorem rest_halt (t : Track) (x : Running) : t.halt.rest ≠ .running x := by
  unfold Track.halt
  cases h : t.rest <;> simp

/-! ### Power -/

theorem exec_powerLoss (h : s.powered = true) : exec .powerLoss s = .next s.losePower := congrArg _ (if_pos h)

/-- R168, R169: what is kept of the part as power is lost. -/
theorem losePower_kept (s : State) : s.losePower.powered = false ∧ s.losePower.store = s.store.losePower ∧
    s.losePower.portV = { s.portV with attempt := none } ∧ s.losePower.portB = { s.portB with attempt := none } ∧
    s.losePower.key = s.key ∧ s.losePower.pending = s.pending := by
  rw [State.losePower, haltTimers_eq]
  exact ⟨rfl, rfl, rfl, rfl, rfl, rfl⟩

/-- R168: outside a save the last save stands. -/
theorem losePower_of_not_saving {st : Store} (h : st.op ≠ .saving) :
    st.losePower = { st with op := .idle, pendingCell := .none, copy := none } := by
  cases ho : st.op
  case saving => exact absurd ho h
  all_goals simp only [Store.losePower, ho]

end

/-- Settles O2: the values at power-on, and the cut of a save. -/
theorem powerIsLostAndComesBack : Obligations.PowerIsLostAndComesBack := by
  refine ⟨fun s => ⟨s.powerOn, rfl, ?_⟩, fun s hp _ => ⟨s.losePower, s.losePower.powerOn, exec_powerLoss hp, ?_⟩,
    fun s hp hop => ⟨s.losePower, exec_powerLoss hp, ?_⟩⟩
  · exact ⟨rfl, rfl, rfl, rfl, rfl, rfl, rfl, rfl, rfl, fun n => by cases n <;> rfl, rfl, rfl, rfl, rfl,
      fun c l => by cases c <;> cases l <;> rfl, fun c => by cases c <;> exact ⟨rfl, rfl, rfl⟩, rfl, rfl, rfl, rfl, rfl,
      rfl, rfl⟩
  · obtain ⟨hpow, hst, hv, hb, -, -⟩ := losePower_kept s
    refine ⟨hpow, ?_, ?_, ?_, ?_, ?_, rfl, ?_, ?_, rfl⟩
    · rw [hst]; rfl
    · rw [hst]; rfl
    · rw [hst]; rfl
    · rw [hv]
    · rw [hb]
    · show s.losePower.store.image = _
      rw [hst]; rfl
    · show s.losePower.store.cell = _
      rw [hst]; rfl
  · obtain ⟨hpow, hst, hv, hb, hk, hpend⟩ := losePower_kept s
    exact ⟨hpow, hst.trans (losePower_of_not_saving hop), hv, hb, hk, hpend⟩

end Sys2Proof.Machine.StartAndSleep

namespace Sys2Proof.Machine.StartAndSleep

open HoldSupervisor SignalRecords DemandMerger ManagementResponder

/-! The entry to sleep (R7, R39, R123, R161, R165, R171). -/

/-- R7, R123: the merger once Port B's source has been told FAILED. -/
def attemptFailed (s : State) : Merger :=
  match s.portB.attempt with
  | some a => s.merger.failed a.source
  | none => s.merger

/-- R165: the responder once the cab status slot has lost its attempt. -/
def cabAsleep (r : Responder) : Responder :=
  match r.cab with
  | .sending _ => { r with cab := .empty, renew := false }
  | .empty | .waiting _ => r

/-- R171: both attempts ended, the timers still as they stand. -/
def attemptsEnded (s : State) : State :=
  { s with portV := { s.portV with attempt := none }, portB := { s.portB with attempt := none }
           merger := attemptFailed s, resp := cabAsleep s.resp, asleep := true }

theorem fallAsleep_eq (s : State) : s.fallAsleep = (attemptsEnded s).haltTimers := rfl

section
variable {s : State} {r : Running}

theorem exec_sleepDelayExpiry (ha : s.awake = true) (hr : s.sleepTimer = some r) :
    exec .sleepDelayExpiry s = .next ({ s.reach r with sleepTimer := none } : State).enterSleep := by
  show execSleepDelayExpiry s = _
  simp only [execSleepDelayExpiry, expiring_of_awake ha, hr]

/-- R161: no reply of a pending RESTART is in attempt. -/
theorem restartInAttempt_false (h : ∀ f p rest, s.portV.attempt = some ⟨.reply, f⟩ → s.resp.replies = p :: rest →
    p.restart = false) : s.restartInAttempt = false := by
  unfold State.restartInAttempt
  split
  next f p rest ha hr => exact h f p rest ha hr
  · rfl

theorem restartInAttempt_of_reply {f : Frame} {p : Reply} {rest : List Reply} (ha : s.portV.attempt = some ⟨.reply, f⟩)
    (hr : s.resp.replies = p :: rest) : s.restartInAttempt = p.restart := by
  unfold State.restartInAttempt
  rw [ha, hr]

/-- R171: an expiry of the sleep delay that no reply of a RESTART meets. -/
theorem exec_sleep (ha : s.awake = true) (hr : s.sleepTimer = some r)
    (h : ∀ f p rest, s.portV.attempt = some ⟨.reply, f⟩ → s.resp.replies = p :: rest → p.restart = false) :
    exec .sleepDelayExpiry s = .next ({ s.reach r with sleepTimer := none } : State).fallAsleep := by
  rw [exec_sleepDelayExpiry ha hr, State.enterSleep, if_neg]
  rw [restartInAttempt_false (s := { s.reach r with sleepTimer := none }) h]
  exact Bool.false_ne_true

/-- R161: one that meets it begins the warm reset. -/
theorem exec_sleep_restart {f : Frame} {p : Reply} {rest : List Reply} (ha : s.awake = true)
    (hr : s.sleepTimer = some r) (hat : s.portV.attempt = some ⟨.reply, f⟩) (hp : s.resp.replies = p :: rest)
    (hre : p.restart = true) : exec .sleepDelayExpiry s = .next (s.reach r).warmReset := by
  rw [exec_sleepDelayExpiry ha hr, State.enterSleep, if_pos]
  · rfl
  · exact (restartInAttempt_of_reply (s := { s.reach r with sleepTimer := none }) hat hp).trans hre

/-! ### The merger and the responder in sleep -/

/-- R123: the slot whose frame was in attempt is DONE. -/
theorem slot_halted_attemptFailed {n : SlotName} {f : Frame} (h : s.portB.attempt = some ⟨.slot n, f⟩) :
    (attemptFailed s).halt.slot n =
      { s.merger.slot n with state := .done, outcome := some .failed, discard := none } := by
  unfold attemptFailed
  rw [h]
  cases n <;> rfl

/-- R125: a control queue whose head was not in attempt stands. -/
theorem control_attemptFailed (h : ∀ f, s.portB.attempt ≠ some ⟨.control, f⟩) :
    (attemptFailed s).control = s.merger.control := by
  unfold attemptFailed
  split
  next a ha =>
    obtain ⟨src, f⟩ := a
    cases src with
    | slot n => cases n <;> rfl
    | control => exact absurd ha (h f)
    | _ => rfl
  · rfl

theorem cabAsleep_of_not_sending {r : Responder} (h : ∀ f, r.cab ≠ .sending f) : cabAsleep r = r := by
  unfold cabAsleep
  split
  next f hf => exact absurd hf (h f)
  all_goals rfl

theorem cabAsleep_of_sending {r : Responder} {f : Frame} (h : r.cab = .sending f) :
    cabAsleep r = { r with cab := .empty, renew := false } := by
  unfold cabAsleep
  rw [h]

/-- R156: the queues of requests and replies stand. -/
theorem queues_cabAsleep (r : Responder) : (cabAsleep r).requests = r.requests ∧ (cabAsleep r).replies = r.replies := by
  unfold cabAsleep
  split <;> exact ⟨rfl, rfl⟩

end

/-- Settles O5: the sleep, and the warm reset that takes its place. -/
theorem sleepDelayExpiryEntersSleep : Obligations.SleepDelayExpiryEntersSleep := by
  refine ⟨fun s r ha hr h => ⟨_, exec_sleep ha hr h, ?_⟩, fun s r f p rest ha hr hat hp hre =>
    ⟨_, exec_sleep_restart ha hr hat hp hre, rfl, rfl, exec_warmReset (s := s.reach r) (powered_of_awake ha)⟩⟩
  obtain ⟨hreq, hrep⟩ := queues_cabAsleep s.resp
  rw [fallAsleep_eq, haltTimers_eq]
  refine ⟨rfl, rfl, rfl, rfl, rfl, rfl, rfl, rfl, rfl, rfl, rfl, rfl, rfl, rfl, rfl, get_haltRecords _,
    channel_haltRecords _, fun w x => ?_, ?_, fun n f hn => ?_, control_attemptFailed, fun hc => ?_, fun f hf hren => ?_,
    rfl, rfl, rfl, rfl, rfl, hreq, hrep, window_haltRecords _, rfl, rfl, rfl, rfl, rfl⟩
  · rw [wheel_haltRecords]
    exact rest_halt _ x
  · intro c hc
    obtain ⟨d, -, rfl⟩ := Option.map_eq_some_iff.1 hc
    rfl
  · show (((attemptFailed s).halt).slot n).state = _ ∧ (((attemptFailed s).halt).slot n).outcome = _ ∧
      (((attemptFailed s).halt).slot n).frame = _
    rw [slot_halted_attemptFailed hn]
    exact ⟨rfl, rfl, rfl⟩
  · show (cabAsleep s.resp).cab = _ ∧ (cabAsleep s.resp).renew = _
    rw [cabAsleep_of_not_sending hc]
    exact ⟨rfl, rfl⟩
  · show (cabAsleep s.resp).cab = _ ∧ (cabAsleep s.resp).renew = _
    rw [cabAsleep_of_sending hf]
    exact ⟨rfl, rfl⟩

end Sys2Proof.Machine.StartAndSleep

namespace Sys2Proof.Machine.StartAndSleep

open HoldSupervisor AxleChannels SignalRecords

/-! The four tables as a check leaves them (R13, R24, R41, R62, R166). -/

section
variable {s t u : State}

/-! ### The merge identifier -/

/-- R13: a valid table holds one valid MERGE entry at most, so the first is the one. -/
theorem routesMergeId_of_entry {table : Vector RouteEntry 96} (h : routesValid table = true) {k : Fin 96}
    (hv : (table.get k).valid = true) (ha : (table.get k).action = .merge) :
    routesMergeId table = some (table.get k).canId := by
  have hk : table.get k ∈ table.toList := by simp [Vector.get_eq_getElem]
  have hone : ((table.toList.filter (·.valid)).filter fun e => decide (e.action = .merge)).length ≤ 1 := by
    simp only [routesValid, Bool.and_eq_true, decide_eq_true_eq] at h
    exact h.1.1
  have hmem {e : RouteEntry} (he : e ∈ table.toList) (hev : e.valid = true) (hea : e.action = .merge) :
      e ∈ (table.toList.filter (·.valid)).filter fun e => decide (e.action = .merge) := by
    simp [List.mem_filter, he, hev, hea]
  cases hf : table.toList.find? fun e => e.valid && decide (e.action = .merge) with
  | none =>
    have hno := List.find?_eq_none.1 hf _ hk
    simp [hv, ha] at hno
  | some e =>
    have hp := List.find?_some hf
    simp only [Bool.and_eq_true, decide_eq_true_eq] at hp
    have he := hmem (List.mem_of_find?_eq_some hf) hp.1 hp.2
    have hke := hmem hk hv ha
    obtain ⟨x, hx⟩ | hnil : (∃ x, _ = [x]) ∨ _ = [] := by
      rcases hl : (table.toList.filter (·.valid)).filter (fun e => decide (e.action = .merge)) with _ | ⟨x, _ | ⟨y, l⟩⟩
      · exact .inr hl
      · exact .inl ⟨x, hl⟩
      · simp [hl] at hone
    · rw [hx, List.mem_singleton] at he hke
      rw [routesMergeId, hf, he, hke]
      rfl
    · rw [hnil] at he
      exact absurd he List.not_mem_nil

/-- R13: with no valid MERGE entry there is no merge identifier. -/
theorem routesMergeId_of_no_entry {table : Vector RouteEntry 96}
    (h : ∀ k : Fin 96, (table.get k).valid = true → (table.get k).action ≠ .merge) : routesMergeId table = none := by
  have hf : (table.toList.find? fun e => e.valid && decide (e.action = .merge)) = none := by
    refine List.find?_eq_none.2 fun e he hp => ?_
    obtain ⟨i, hi, rfl⟩ := List.getElem_of_mem he
    have hlen : i < 96 := by simpa using hi
    have hk := h ⟨i, hlen⟩
    simp only [Vector.get_eq_getElem, Bool.and_eq_true, decide_eq_true_eq] at hk hp
    exact hk (by simpa using hp.1) (by simpa using hp.2)
  rw [routesMergeId, hf]
  rfl

/-! ### What each check leaves alone -/

theorem checkRoutes_eq (s : State) : s.checkRoutes = { s with route := s.checkRoutes.route } := by
  unfold State.checkRoutes; split <;> rfl

theorem checkSignals_eq (s : State) : s.checkSignals = { s with signals := s.checkSignals.signals } := by
  unfold State.checkSignals; split <;> rfl

theorem checkChannels_eq (s : State) : s.checkChannels = { s with channels := s.checkChannels.channels } := by
  unfold State.checkChannels; dsimp only; (repeat' split) <;> rfl

/-! ### What each check finds -/

theorem route_state_checkRoutes (s : State) : s.checkRoutes.route.state = .inForce ↔ routesValid s.work.routes = true := by
  unfold State.checkRoutes
  split <;> simp_all

theorem signals_state_checkSignals (s : State) :
    s.checkSignals.signals.state = .inForce ↔ signalsValid s.work.signals = true := by
  unfold State.checkSignals
  split <;> simp_all

theorem channels_state_checkChannels (s : State) :
    s.checkChannels.channels.state = .inForce ↔ channelsValid s.work.channels = true := by
  unfold State.checkChannels
  dsimp only
  split
  · split <;> simp_all [State.restartChannels]
  · simp_all

theorem calculator_state_checkCurves (s : State) :
    s.checkCurves.calculator.state = .inForce ↔ curvesValid s.work.gradeCurve s.work.drumCurve = true := by
  unfold State.checkCurves
  dsimp only
  split <;> simp_all

/-- R13: the merge identifier that a check of the route table leaves in force. -/
theorem mergeIdAfterCheck_of_checkRoutes (hw : t.work.routes = s.work.routes) (hr : t.route = s.checkRoutes.route) :
    State.MergeIdAfterCheck s.route.mergeId t := by
  have hin (h : routesValid t.work.routes = true) : t.route.mergeId = routesMergeId t.work.routes := by
    rw [hr, State.checkRoutes, hw, if_pos (hw ▸ h)]
  refine ⟨fun h => ?_, fun h k hv ha => (hin h).trans (routesMergeId_of_entry h hv ha),
    fun h hno => (hin h).trans (routesMergeId_of_no_entry hno)⟩
  rw [hr, State.checkRoutes, if_neg (by rw [← hw, h]; exact Bool.false_ne_true)]

/-! ### All four -/

/-- The tables of a state are those of its working copies; `before` is the merge identifier that was in force. -/
structure TablesTaken (before : Option CanId) (t : State) : Prop where
  route : t.route.state = .inForce ↔ routesValid t.work.routes = true
  signals : t.signals.state = .inForce ↔ signalsValid t.work.signals = true
  channels : t.channels.state = .inForce ↔ channelsValid t.work.channels = true
  calculator : t.calculator.state = .inForce ↔ curvesValid t.work.gradeCurve t.work.drumCurve = true
  mergeId : State.MergeIdAfterCheck before t

theorem TablesTaken.congr {before : Option CanId} (h : TablesTaken before s) (hw : t.work = s.work) (hr : t.route = s.route)
    (hs : t.signals.state = s.signals.state) (hc : t.channels.state = s.channels.state)
    (hk : t.calculator.state = s.calculator.state) : TablesTaken before t where
  route := by rw [hr, hw]; exact h.route
  signals := by rw [hs, hw]; exact h.signals
  channels := by rw [hc, hw]; exact h.channels
  calculator := by rw [hk, hw]; exact h.calculator
  mergeId := by
    obtain ⟨hi, he, ha⟩ := h.mergeId
    rw [← hw, ← hr] at hi he ha
    exact ⟨hi, he, ha⟩

theorem TablesTaken.of_calm {before : Option CanId} (h : TablesTaken before s) (hc : t.calm = s.calm) :
    TablesTaken before t :=
  h.congr (State.work_of_calm hc) (State.route_of_calm hc) (congrArg Signals.state (State.signals_of_calm hc))
    (State.channels_state_of_calm hc) (State.calculator_state_of_calm hc)

/-- R166: what the four checks change. -/
theorem tablesChecked_eq (s : State) : tablesChecked s = { s with
    route := (tablesChecked s).route, signals := (tablesChecked s).signals, channels := (tablesChecked s).channels
    calculator := (tablesChecked s).calculator } := by
  unfold tablesChecked
  rw [State.checkCurves, checkChannels_eq, checkSignals_eq, checkRoutes_eq]

theorem work_tablesChecked (s : State) : (tablesChecked s).work = s.work := by rw [tablesChecked_eq]

theorem route_tablesChecked (s : State) : (tablesChecked s).route = s.checkRoutes.route := by
  unfold tablesChecked
  rw [State.checkCurves, checkChannels_eq, checkSignals_eq]

theorem channels_state_of_quiet (h : s.quiet = t.quiet) : s.channels.state = t.channels.state := by
  have e := congrArg (fun x : State => x.channels.state) h
  exact e

theorem calculator_state_of_quiet (h : s.quiet = t.quiet) : s.calculator.state = t.calculator.state := by
  have e := congrArg (fun x : State => x.calculator.state) h
  exact e

/-- R58: a channel record but for what notices may change. -/
theorem record_of_quiet (h : s.quiet = t.quiet) (c : Chan) :
    (s.channels.records.get c).calm = (t.channels.records.get c).calm := by
  have e := congrArg (fun x : State => x.channels.records.get c) h
  cases c <;> exact e

/-- R166: the four tables checked. -/
theorem tablesTaken_tablesChecked (s : State) : TablesTaken s.route.mergeId (tablesChecked s) := by
  have hroutes : s.checkRoutes.work = s.work := by rw [checkRoutes_eq]
  have hsignals : s.checkRoutes.checkSignals.work = s.work := by rw [checkSignals_eq]; exact hroutes
  have hchannels : s.checkRoutes.checkSignals.checkChannels.work = s.work := by rw [checkChannels_eq]; exact hsignals
  refine ⟨?_, ?_, ?_, ?_, mergeIdAfterCheck_of_checkRoutes (by rw [work_tablesChecked]) (route_tablesChecked s)⟩
  · rw [work_tablesChecked, route_tablesChecked]
    exact route_state_checkRoutes s
  · rw [work_tablesChecked, ← hroutes, ← signals_state_checkSignals]
    simp [tablesChecked]
  · rw [work_tablesChecked, ← hsignals]
    exact channels_state_checkChannels _
  · rw [work_tablesChecked, ← hchannels]
    exact calculator_state_checkCurves _

/-- R104: the watching of wheels leaves the tables. -/
theorem tablesTaken_checkTables (s : State) : TablesTaken s.route.mergeId s.checkTables := by
  have hq := State.quiet_watchWheels (tablesChecked s)
  exact (tablesTaken_tablesChecked s).congr (State.work_of_quiet hq) (State.route_of_quiet hq)
    (congrArg Signals.state (State.signals_of_quiet hq))
    (channels_state_of_quiet hq) (calculator_state_of_quiet hq)

end

end Sys2Proof.Machine.StartAndSleep

namespace Sys2Proof.Machine.StartAndSleep

open HoldSupervisor AxleChannels SignalRecords

/-! The end of a load: of a RELOAD and of a start (R13, R58, R77, R80, R91, R101, R166, R167, R170). -/

section
variable {s t u : State} {c : Chan}

theorem exec_loadEnd_reload (ha : s.awake = true) (ho : s.store.op = .loading) (hs : s.start = none) :
    exec .loadEnd s = .next s.endReload := by
  show execLoadEnd s = _
  simp [execLoadEnd, ha, ho, hs]

theorem exec_loadEnd_start {k : StartKind} (ha : s.awake = true) (ho : s.store.op = .loading) (hs : s.start = some k) :
    exec .loadEnd s = .next s.endStart := by
  show execLoadEnd s = _
  simp [execLoadEnd, ha, ho, hs]

/-! ### Every handshake restarts -/

/-- R58: a channel's record once every handshake has restarted. -/
theorem record_startChannels (s : State) (c : Chan) : s.startChannels.channels.records.get c =
    (s.channels.records.get c).restart (s.work.channels.get c).expected := by
  show (PerChan.build fun c => (s.channels.records.get c).restart (s.work.channels.get c).expected).get c = _
  rw [PerChan.get_build]

/-- R54: with every status LOST the usable set is empty. -/
theorem b_startChannels (s : State) : s.startChannels.channels.derived.b = 0 :=
  b_deriveChannels_of_unusable (s := s.restartChannels) fun c => channelUsable_of_lost (record_startChannels s c ▸ rfl)

/-- R41: a check of the channel table keeps every advert copy. -/
theorem advert_tablesChecked (s : State) (c : Chan) :
    ((tablesChecked s).channels.records.get c).advert = (s.channels.records.get c).advert := by
  have hc (v : State) : (v.checkChannels.channels.records.get c).advert = (v.channels.records.get c).advert := by
    unfold State.checkChannels
    dsimp only
    split
    · split
      · simp [State.restartChannels, PerChan.get_build, ChannelRecord.restart]
      · rfl
    · rfl
  show ((s.checkRoutes.checkSignals.checkChannels).channels.records.get c).advert = _
  rw [hc, checkSignals_eq, checkRoutes_eq]

/-! ### A RELOAD -/

/-- R167: the working copies, the tables and the channels as a RELOAD takes them, no notice of it told. -/
def reloaded (s : State) : State := s.endOperation.checkTables.startChannels.payloadMax

theorem endReload_calm (s : State) : s.endReload.calm = (reloaded s).calm := by
  unfold State.endReload reloaded
  simp

/-- R58: what a restart of the handshake leaves stands through the notices. -/
theorem restarted_of_calm {r n : ChannelRecord} {expected : Bool} (h : r.calm = (n.restart expected).calm) :
    r.handshake = (if expected then .listening else .absent) ∧ r.age = .lost ∧ r.advert = n.advert := by
  have hk := kept_of_calm h
  have hh : (n.restart expected).handshake = if expected then .listening else .absent := rfl
  refine ⟨?_, hk.age, hk.advert⟩
  rw [← hh]
  cases expected <;> exact handshake_of_calm h rfl (by simp [ChannelRecord.restart])

theorem quiet_checkTables (s : State) : s.checkTables.quiet = (tablesChecked s).quiet := State.quiet_watchWheels _

/-- R166, R167: what the reload leaves, `u` being the part with the operation ended. -/
structure Reloads (u t : State) : Prop where
  work : t.work = u.work
  store : t.store = u.store
  portV : t.portV = u.portV
  portB : t.portB = u.portB
  vToB : t.vToB = u.vToB
  bToV : t.bToV = u.bToV
  shedding : t.shedding = u.shedding
  driver : t.merger.driver = u.merger.driver
  control : t.merger.control = u.merger.control
  requests : t.resp.requests = u.resp.requests
  replies : t.resp.replies = u.resp.replies
  pending : t.pending = u.pending
  key : t.key = u.key

theorem Reloads.of_quiet (h : t.quiet = u.quiet) : Reloads u t where
  work := State.work_of_quiet h
  store := State.store_of_quiet h
  portV := State.portV_of_quiet h
  portB := State.portB_of_quiet h
  vToB := State.vToB_of_quiet h
  bToV := State.bToV_of_quiet h
  shedding := State.shedding_of_quiet h
  driver := by have e := congrArg (fun x : State => x.merger.driver) h; exact e
  control := by have e := congrArg (fun x : State => x.merger.control) h; exact e
  requests := by have e := congrArg (fun x : State => x.resp.requests) h; exact e
  replies := by have e := congrArg (fun x : State => x.resp.replies) h; exact e
  pending := State.pending_of_quiet h
  key := State.key_of_quiet h

theorem Reloads.trans (h : Reloads s t) (h' : Reloads t u) : Reloads s u :=
  ⟨h'.work.trans h.work, h'.store.trans h.store, h'.portV.trans h.portV, h'.portB.trans h.portB, h'.vToB.trans h.vToB,
    h'.bToV.trans h.bToV, h'.shedding.trans h.shedding, h'.driver.trans h.driver, h'.control.trans h.control,
    h'.requests.trans h.requests, h'.replies.trans h.replies, h'.pending.trans h.pending, h'.key.trans h.key⟩

theorem reloads_checkTables (s : State) : Reloads s s.checkTables := by
  refine Reloads.trans ?_ (Reloads.of_quiet (quiet_checkTables s))
  rw [tablesChecked_eq]
  exact ⟨rfl, rfl, rfl, rfl, rfl, rfl, rfl, rfl, rfl, rfl, rfl, rfl, rfl⟩

/-- R58, R64: the restart of the handshakes and the maximum payload change the channel block and the calculator. -/
theorem reloads_startChannels (v : State) : Reloads v v.startChannels.payloadMax :=
  ⟨rfl, rfl, rfl, rfl, rfl, rfl, rfl, rfl, rfl, rfl, rfl, rfl, rfl⟩

theorem reloads_reloaded (s : State) : Reloads s.endOperation (reloaded s) :=
  (reloads_checkTables s.endOperation).trans (reloads_startChannels _)

theorem TablesTaken.startChannels {before : Option CanId} (h : TablesTaken before s) :
    TablesTaken before s.startChannels.payloadMax := h.congr rfl rfl rfl rfl rfl

theorem tablesTaken_reloaded (s : State) : TablesTaken s.route.mergeId (reloaded s) :=
  (tablesTaken_checkTables s.endOperation).startChannels

theorem payloadUsed_payloadMax (v : State) : v.payloadMax.calculator.payloadUsed = v.payloadMax.work.settings.maxPayload := rfl

theorem payloadUsed_reloaded (s : State) : (reloaded s).calculator.payloadUsed = (reloaded s).work.settings.maxPayload := by
  unfold reloaded
  rw [payloadUsed_payloadMax]

theorem record_payloadMax (v : State) (c : Chan) : v.startChannels.payloadMax.channels.records.get c =
    (v.channels.records.get c).restart (v.startChannels.payloadMax.work.channels.get c).expected := record_startChannels v c

/-- R58: a channel's record after the reload. -/
theorem record_reloaded (s : State) (c : Chan) : ∃ n : ChannelRecord, n.advert = (s.channels.records.get c).advert ∧
    (reloaded s).channels.records.get c = n.restart ((reloaded s).work.channels.get c).expected := by
  refine ⟨s.endOperation.checkTables.channels.records.get c, ?_, record_payloadMax _ c⟩
  rw [(kept_of_calm (record_of_quiet (quiet_checkTables s.endOperation) c)).advert, advert_tablesChecked]
  rfl

end

/-- Settles O8: the state taken afresh, seen through the notices of its change. -/
theorem loadEndOfAReloadTakesTheImage : Obligations.LoadEndOfAReloadTakesTheImage := by
  intro s ha ho hs
  refine ⟨_, exec_loadEnd_reload ha ho hs, ?_⟩
  have hc := endReload_calm s
  have hk := (reloads_reloaded s).trans (Reloads.of_quiet (State.quiet_of_calm hc))
  obtain ⟨hroute, hsignals, hchannels, hcalculator, hmerge⟩ := (tablesTaken_reloaded s).of_calm hc
  refine ⟨hk.store, hk.work, hroute, hsignals, hchannels, hcalculator, hmerge, fun c => ?_, ?_, hk.portV, hk.portB, hk.vToB,
    hk.bToV, hk.shedding, hk.driver, hk.control, hk.requests, hk.replies, hk.pending, hk.key⟩
  · obtain ⟨n, hn, hr⟩ := record_reloaded s c
    have hrec := State.record_of_calm hc c
    rw [hr] at hrec
    obtain ⟨hh, hage, hadvert⟩ := restarted_of_calm hrec
    rw [State.work_of_calm hc]
    exact ⟨hh, hage, hadvert.trans hn⟩
  · rw [State.calculator_payloadUsed_of_calm hc, State.work_of_calm hc]
    exact payloadUsed_reloaded s

end Sys2Proof.Machine.StartAndSleep

namespace Sys2Proof.Machine.StartAndSleep

open HoldSupervisor AxleChannels SignalRecords

/-! The end of the load of a start: the values of every block, and the supervisor's starting state (R80, R91, R101, R166,
R170). -/

section
variable {s t u : State}

/-- R166: the load ended, the start no longer under way, and the blocks at their values, the tables not yet checked. -/
def measured (s : State) : State := ({ s.endOperation with start := none } : State).startMeasures

/-- R104: the wheels watched afresh where no notice of it is heeded, and the handshakes restarted by the tables loaded. -/
def loaded (s : State) : State := (tablesChecked (measured s)).trackWheels.startChannels

/-- R104, R170: at a start the watching of wheels tells nothing. -/
theorem endStart_eq (h : s.sup.state = .unavailable) : s.endStart = (loaded s).takeStart .resetInHold := by
  have hlost (k : Fin 20) : ((tablesChecked (measured s)).signals.records.get k).age = .lost := by
    rw [record_tablesChecked]
    exact (record_startMeasures _ k).1
  have hstate : (tablesChecked (measured s)).sup.state = .unavailable := by
    rw [tablesChecked_eq]
    exact h
  unfold State.endStart loaded
  rw [← watchWheels_of_lost hlost hstate]
  rfl

/-- R166, R170: what the load of a start leaves, `u` being the part with the operation ended. -/
structure Loads (u t : State) : Prop where
  start : t.start = u.start
  work : t.work = u.work
  store : t.store = u.store
  portV : t.portV = u.portV
  portB : t.portB = u.portB
  path : t.path = u.path
  park : t.park = u.park
  pending : t.pending = u.pending
  key : t.key = u.key

theorem Loads.trans (h : Loads s t) (h' : Loads t u) : Loads s u :=
  ⟨h'.start.trans h.start, h'.work.trans h.work, h'.store.trans h.store, h'.portV.trans h.portV, h'.portB.trans h.portB,
    h'.path.trans h.path, h'.park.trans h.park, h'.pending.trans h.pending, h'.key.trans h.key⟩

theorem loads_tablesChecked (s : State) : Loads s (tablesChecked s) := by
  rw [tablesChecked_eq]
  exact ⟨rfl, rfl, rfl, rfl, rfl, rfl, rfl, rfl, rfl⟩

theorem loads_trackWheels (s : State) : Loads s s.trackWheels := ⟨rfl, rfl, rfl, rfl, rfl, rfl, rfl, rfl, rfl⟩

theorem loads_startChannels (s : State) : Loads s s.startChannels := ⟨rfl, rfl, rfl, rfl, rfl, rfl, rfl, rfl, rfl⟩

theorem loads_startSignals (s : State) : Loads s s.startSignals := by
  unfold State.startSignals
  exact ⟨rfl, rfl, rfl, rfl, rfl, rfl, rfl, rfl, rfl⟩

theorem loads_startCalculator (s : State) : Loads s s.startCalculator := ⟨rfl, rfl, rfl, rfl, rfl, rfl, rfl, rfl, rfl⟩

theorem loads_startMeasures (s : State) : Loads s s.startMeasures :=
  ((loads_startSignals s).trans (loads_startChannels _)).trans (loads_startCalculator _)

theorem loads_loaded (s : State) : Loads { s.endOperation with start := none } (loaded s) :=
  (((loads_startMeasures _).trans (loads_tablesChecked _)).trans (loads_trackWheels _)).trans (loads_startChannels _)

/-- R64, R77: payload used is the maximum at a start. -/
theorem payloadUsed_startMeasures (s : State) :
    s.startMeasures.calculator.payloadUsed = s.work.settings.maxPayload := rfl

theorem payloadUsed_tablesChecked (s : State) : (tablesChecked s).calculator.payloadUsed = s.calculator.payloadUsed := by
  unfold tablesChecked
  rw [State.checkCurves, checkChannels_eq, checkSignals_eq, checkRoutes_eq]

theorem payloadUsed_startChannels (s : State) :
    s.trackWheels.startChannels.calculator.payloadUsed = s.calculator.payloadUsed := rfl

theorem payloadUsed_loaded (s : State) : (loaded s).calculator.payloadUsed = s.endOperation.work.settings.maxPayload := by
  rw [loaded, payloadUsed_startChannels, payloadUsed_tablesChecked, measured, payloadUsed_startMeasures]

theorem TablesTaken.trackWheels {before : Option CanId} (h : TablesTaken before s) :
    TablesTaken before s.trackWheels.startChannels := h.congr rfl rfl rfl rfl rfl

theorem route_measured (s : State) : (measured s).route = s.route := rfl

theorem tablesTaken_loaded (s : State) : TablesTaken s.route.mergeId (loaded s) := by
  rw [← route_measured]
  exact (tablesTaken_tablesChecked (measured s)).trackWheels

theorem record_loaded (s : State) (c : Chan) : ∃ n : ChannelRecord,
    (loaded s).channels.records.get c = n.restart ((loaded s).work.channels.get c).expected :=
  ⟨_, record_startChannels _ c⟩

/-- R82: with B at 0 NO-CHANNEL stands at the least. -/
theorem reasons_of_b_zero (h : s.channels.derived.b = 0) : ∃ x rest, s.unavailableReasons = x :: rest := by
  cases hr : s.unavailableReasons with
  | cons x rest => exact ⟨x, rest, rfl⟩
  | nil =>
    obtain ⟨-, -, -, -, hnil⟩ := head_unavailableReasons s
    exact absurd h (hnil.1 hr).2.2.2

theorem reasons_loaded (s : State) : ∃ x rest, (loaded s).unavailableReasons = x :: rest :=
  reasons_of_b_zero (b_startChannels _)

/-- R80, R101: the hold context of a start from an asserted latch. -/
theorem ctx_takeStart_latched (h : s.park.prq = true) (r : Reason) :
    ∃ c, (s.takeStart r).sup.ctx = some c ∧ c.step = 0 ∧ c.uphill = none ∧ c.holdLimit = none := by
  unfold State.takeStart
  dsimp only
  rw [if_pos h, sup_enterSecuring, State.sup_evaluateCore]
  exact ⟨_, rfl, rfl, rfl, rfl⟩

end

/-- Settles O7: the tables of the load, and the start by the latch. -/
theorem loadEndOfAStartGivesTheStartingState : Obligations.LoadEndOfAStartGivesTheStartingState := by
  intro s k ha ho hs hstate
  obtain ⟨x, rest, hx⟩ := reasons_loaded s
  have hk := loads_loaded s
  have hprq : (loaded s).park.prq = s.park.prq := congrArg Park.prq hk.park
  have hstart : Starts (loaded s) ((loaded s).takeStart .resetInHold) := by
    cases hq : (loaded s).park.prq with
    | true => exact (takeStart_latched hq _).1
    | false => exact (takeStart_unlatched hq hx _).1
  have hlatched := fun hq => (takeStart_latched (s := loaded s) hq .resetInHold).2
  have hctx := fun hq => ctx_takeStart_latched (s := loaded s) hq .resetInHold
  have hunlatched := fun hq => (takeStart_unlatched (s := loaded s) hq hx .resetInHold).2
  refine ⟨(loaded s).takeStart .resetInHold, by rw [exec_loadEnd_start ha ho hs, endStart_eq hstate], ?_⟩
  generalize (loaded s).takeStart .resetInHold = t at hstart hlatched hctx hunlatched
  have hc := hstart.calm
  obtain ⟨hroute, hsignals, hchannels, hcalculator, hmerge⟩ := (tablesTaken_loaded s).of_calm hc
  have hstore := (State.store_of_calm hc).trans hk.store
  have hwork := (State.work_of_calm hc).trans hk.work
  refine ⟨(State.start_of_calm hc).trans hk.start, ?_, ?_, ?_, ?_, ?_, hwork, hroute, hsignals, hchannels, hcalculator,
    hmerge, fun c => ?_, ?_, hstart.autoPending, hstart.prq.trans hprq, fun hq => ?_, fun hq => ?_,
    (State.portV_of_calm hc).trans hk.portV, (State.portB_of_calm hc).trans hk.portB, hstart.path.trans hk.path,
    (State.pending_of_calm hc).trans hk.pending, (State.key_of_calm hc).trans hk.key⟩
  · rw [hstore]; rfl
  · rw [hstore]; rfl
  · rw [hstore]; rfl
  · rw [hstore]; rfl
  · rw [hstore]; rfl
  · obtain ⟨n, hn⟩ := record_loaded s c
    rw [hstart.channels, hn, State.work_of_calm hc]
    rfl
  · rw [State.calculator_payloadUsed_of_calm hc, payloadUsed_loaded, hwork]
  · obtain ⟨hst, hr, hconf, hmode⟩ := hlatched (hprq.trans hq)
    exact ⟨hst, hr, hconf, hmode, hctx (hprq.trans hq)⟩
  · obtain ⟨hsup, -⟩ := hunlatched (hprq.trans hq)
    rw [unavailableReasons_of_sameTables (sameTables_of_calm hc) (by rw [hstart.channels]), hx, hsup]
    exact ⟨rfl, rfl, rfl⟩

end Sys2Proof.Machine.StartAndSleep

namespace Sys2Proof.Machine.FramePath

open AxleChannels SignalRecords HoldSupervisor ManagementResponder DemandMerger StartAndSleep

/-! A port enters OFF-BUS: its source is told FAILED, and the supervisor takes Port B's report (R5, R17, R88, R91, R98, R123,
R125, R161, R162, R164). -/

/-- R5: the port OFF-BUS and the event counted, no block told of it. -/
def offBus (s : State) (p : Port) : State := (s.setPort p (s.port p).busOff).count (busOffCounter p)

/-- R123, R125: Port B's source told FAILED. -/
def failedB (s : State) : State :=
  match s.portB.attempt with
  | some a => (offBus s .b).tellFailed a.source
  | none => offBus s .b

section
variable {s : State}

theorem exec_busOff_b (ha : s.awake = true) (hb : s.portB.onBus = true) (he : 255 < s.portB.txErr + 8) :
    exec (.transmitError .b) s = .next ((failedB s).securingNotice .portBOff) := by
  rw [exec_transmitError (p := .b) ha hb, if_pos (show 255 < (s.port .b).txErr + 8 from he)]
  rfl

/-- R123, R125: FAILED reaches a slot or the control queue in the merger, and no one at the V-to-B queue. -/
theorem tellFailed_b {src : Source} (h : (∃ n, src = .slot n) ∨ src = .control ∨ src = .vToB) (t : State) :
    t.tellFailed src = { t with merger := match (generalizing := false) src with
      | .slot n => t.merger.setSlot n { t.merger.slot n with state := .done, outcome := some .failed }
      | .control => { t.merger with control := t.merger.control.tail }
      | _ => t.merger } := by
  obtain ⟨n, rfl⟩ | rfl | rfl := h <;> rfl

theorem failedB_of_source {a : Attempt} (ha : s.portB.attempt = some a)
    (h : (∃ n, a.source = .slot n) ∨ a.source = .control ∨ a.source = .vToB) :
    failedB s = { offBus s .b with merger := match (generalizing := false) a.source with
      | .slot n => s.merger.setSlot n { s.merger.slot n with state := .done, outcome := some .failed }
      | .control => { s.merger with control := s.merger.control.tail }
      | _ => s.merger } := by
  rw [failedB, ha]
  exact tellFailed_b h (offBus s .b)

/-- R5: what Port B's entry to OFF-BUS leaves once its source has been told, the merger aside. -/
theorem failedB_eq (h : s.Slotted) : ∃ m, failedB s = { offBus s .b with merger := m } := by
  unfold failedB
  split
  next a ha => exact ⟨_, tellFailed_b (h.sourceB a ha) _⟩
  · exact ⟨_, rfl⟩

/-- R91, R94, R98: the states that heed no SECURING notice. -/
theorem securingNotice_unheeded (h : s.sup.state = .unavailable ∨ s.sup.state = .standby ∨ s.sup.state = .checking ∨
    s.sup.state = .securing ∨ s.sup.state = .secured ∧ s.sup.handover = false) (r : Reason) : s.securingNotice r = s := by
  rcases h with h | h | h | h | ⟨h, hh⟩
  case inr.inr.inr.inr =>
    rw [securingNotice_of_secured h]
    exact if_neg (by simp [hh])
  all_goals
    unfold State.securingNotice
    rw [h]

/-! ### Port V -/

/-- R17, R162, R164: Port V's source told FAILED. -/
def failedV (s : State) : State :=
  match s.portV.attempt with
  | some a => (offBus s .v).tellFailed a.source
  | none => offBus s .v

theorem exec_busOff_v (ha : s.awake = true) (hb : s.portV.onBus = true) (he : 255 < s.portV.txErr + 8) :
    exec (.transmitError .v) s = .next (failedV s) := by
  rw [exec_transmitError (p := .v) ha hb, if_pos (show 255 < (s.port .v).txErr + 8 from he)]
  rfl

theorem failedV_of_attempt {a : Attempt} (h : s.portV.attempt = some a) :
    failedV s = (offBus s .v).tellFailed a.source := by rw [failedV, h]

/-- R162: a reply that is not a RESTART's stays. -/
theorem replyFailed_of_cons {r : Reply} {rest : List Reply} (h : s.resp.replies = r :: rest) :
    s.replyFailed = if r.restart then s.warmReset else s := by rw [State.replyFailed, h]

end

/-- Settles O11: Port B by the supervisor's state, Port V by the source. -/
theorem busOffFailsItsSource : Obligations.BusOffFailsItsSource := by
  refine ⟨fun s a ha hb he hat hsrc hst => ?_, fun s ha hb he hsl hst hh => ?_, fun s ha hb he hsl hst => ?_,
    fun s u ha hb he hu => ?_⟩
  · have hf := failedB_of_source hat hsrc
    rw [exec_busOff_b ha hb he, securingNotice_unheeded (by rw [hf]; exact hst), hf]
    obtain ⟨n, hn⟩ | hn | hn := hsrc <;> rw [hn] <;> rfl
  · obtain ⟨m, hm⟩ := failedB_eq hsl
    refine ⟨_, exec_busOff_b ha hb he, ?_⟩
    have hstate : (failedB s).sup.state = .secured := by rw [hm]; exact hst
    have hhand : (failedB s).sup.handover = true := by rw [hm]; exact hh
    obtain ⟨hsup, hpark, hmode, hcount, -, -⟩ := dropHandover_of_pending hstate hhand
    have hc := State.calm_dropHandover (failedB s)
    rw [securingNotice_of_secured hstate]
    generalize (failedB s).dropHandover = t at *
    rw [hm] at hsup hpark hmode hcount hc
    exact ⟨(State.portB_of_calm hc :), hsup, hpark, hmode, hcount, (State.portV_of_calm hc :), (State.vToB_of_calm hc :),
      (State.bToV_of_calm hc :), (State.signals_of_calm hc :), (State.store_of_calm hc :), (State.work_of_calm hc :)⟩
  · obtain ⟨m, hm⟩ := failedB_eq hsl
    refine ⟨_, exec_busOff_b ha hb he, ?_⟩
    have hent := securingNotice_enters (s := failedB s) (by rw [hm]; exact hst) .portBOff
    have hc := State.calm_securingNotice (failedB s) .portBOff
    generalize (failedB s).securingNotice .portBOff = t at *
    rw [hm] at hent hc
    obtain ⟨hstate, hreason, -, -, hpark, hmode, hcount⟩ := hent
    have hport := State.portB_of_calm hc
    refine ⟨?_, ?_, ?_, ?_, hstate, hreason, by rw [hpark], by rw [hpark], hmode, hcount, (State.portV_of_calm hc :),
      (State.vToB_of_calm hc :), (State.bToV_of_calm hc :), (State.signals_of_calm hc :), (State.store_of_calm hc :),
      (State.work_of_calm hc :)⟩ <;> rw [hport] <;> rfl
  · have hoff : offBus s .v = u := hu.symm
    have hex := exec_busOff_v ha hb he
    refine ⟨fun hn => ?_, fun f hf => ?_, fun f r rest hf hr hre => ?_, fun f r rest hf hr hre => ?_, fun f hf hren => ?_,
      fun f hf hren => ?_⟩
    · rw [hex, failedV, hn, hoff]
    · rw [hex, failedV_of_attempt hf, hoff]; rfl
    · rw [hex, failedV_of_attempt hf, hoff]
      exact congrArg _ ((replyFailed_of_cons (s := u) (by rw [hu]; exact hr)).trans (by simp [hre]))
    · refine ⟨u.warmReset, ?_, exec_warmReset (by rw [hu]; exact powered_of_awake ha)⟩
      rw [hex, failedV_of_attempt hf, hoff]
      exact congrArg _ ((replyFailed_of_cons (s := u) (by rw [hu]; exact hr)).trans (by simp [hre]))
    · rw [hex, failedV_of_attempt hf, hoff]
      have hc := cabEnded_of_kept (s := u) (by rw [hu]; exact hren)
      subst hu
      exact congrArg _ hc
    · rw [hex, failedV_of_attempt hf, hoff]
      have hc := cabEnded_of_renew (s := u) (by rw [hu]; exact hren)
      subst hu
      exact congrArg _ hc

end Sys2Proof.Machine.FramePath

namespace Sys2Proof.Machine.ManagementResponder

open ItemFields

/-! Reads and clearing reads that are served at once (R21, R50, R151, R156 to R158). -/

section
variable {s t : State} {r : Request} {c : Instr} {v : Word32}

/-- R155, R156: a row that the responder can serve. -/
theorem exec_row_serves (h : requestOf c = some r) (hs : s.Serves) :
    exec c s = .next (answered s r [] s.resp.replies) := by
  rw [exec_row h hs.running hs.onBus, takeRequest_served hs.requests hs.replies,
    frameRequest_frameOf s (exec_of_requestOf h).1]

/-- R156, R158: a request answered OK. -/
theorem exec_row_answer (h : requestOf c = some r) (hs : s.Serves) (hj : s.judgeRequest r = t.answer v) :
    exec c s = .next (withQueues t [] (s.resp.replies ++ [⟨replyFrame t.work.settings.replyId r .ok v, false⟩])) := by
  rw [exec_row_serves h hs, answered, hj]
  rfl

/-- R156, R158: the change that the request makes lies outside the responder. -/
theorem exec_row_ok (h : requestOf c = some r) (hs : s.Serves) (hj : s.judgeRequest r = t.answer v)
    (hresp : t.resp = s.resp) (hwork : t.work = s.work) : exec c s = .next { t with resp := { s.resp with
      replies := s.resp.replies ++ [⟨replyFrame s.work.settings.replyId r .ok v, false⟩] } } := by
  rw [exec_row_answer h hs hj, withQueues, hresp, hwork, ← hs.requests]

theorem ofByte_byte (g : Group) : Group.ofByte g.byte = some g := by cases g <;> rfl

/-! ### What is judged -/

theorem judgeRead_of_field {g : Group} {index field : Nat} (h : s.readField g index field = some v) :
    s.judgeRead g index field = (s.afterRead g index field).answer v := by
  rw [State.judgeRead, h]

/-- R158: a READ of another field than the lost-since-read marker changes nothing. -/
theorem afterRead_of_ne {g : Group} {index field : Nat} (h : g = .channel → field ≠ 14) :
    s.afterRead g index field = s := by
  cases g with
  | channel => exact if_neg (h rfl)
  | _ => rfl

theorem judgeReadClear_of_field {g : Group} {index field : Nat} (h : s.readField g index field = some v)
    (hc : s.clearField g index field = some t) : s.judgeReadClear g index field = t.answer v := by
  rw [State.judgeReadClear, h, hc]

end

/-- Settles O50: the field read, and its clearing part. -/
theorem readsAnswerTheFieldAsItStands : Obligations.ReadsAnswerTheFieldAsItStands := by
  intro s hs
  refine ⟨fun g index field v hv hne => ?_, fun index c hc => ?_, fun field n hn => ?_, fun index field c l hc hl => ?_⟩
  · refine exec_row_ok (t := s) rfl hs ?_ rfl rfl
    rw [judgeRequest_read rfl rfl (ofByte_byte g), judgeRead_of_field hv, afterRead_of_ne hne]
  · have hfield : s.readField .channel index.toNat 14 = some (flagWord (s.channels.records.get c).lostSinceRead) := by
      rw [hc, readField_channel]
      exact readChannel_of_record 9
    have hread : s.afterRead .channel index.toNat 14 = s.clearLost c := by
      rw [hc]
      simp only [State.afterRead, chanOf_number]
      rfl
    refine (exec_row_ok (t := s.clearLost c) rfl hs ?_ rfl rfl).trans rfl
    rw [judgeRequest_read (g := .channel) rfl rfl rfl]
    exact (judgeRead_of_field hfield).trans (by rw [hread]; rfl)
  · refine exec_row_ok (t := s.clearCounter n) rfl hs ?_ rfl rfl
    rw [judgeRequest_readClear (g := .counters) rfl rfl rfl]
    exact judgeReadClear_of_field (readField_counters hn) (by rw [State.clearField, hn]; rfl)
  · refine exec_row_ok (t := s.clearResult c l) rfl hs ?_ rfl rfl
    rw [judgeRequest_readClear (g := .checkResults) rfl rfl rfl]
    refine judgeReadClear_of_field ?_ ?_
    · show s.readField .checkResults index.toNat field.toNat = _
      rw [hc]
      exact readField_checkResults c hl
    · show s.clearField .checkResults index.toNat field.toNat = _
      rw [hc, State.clearField, chanOf_number, hl]
      rfl

end Sys2Proof.Machine.ManagementResponder

namespace Sys2Proof.Machine.ItemFields

/-! The settings: what each field takes, and what a value taken leaves (R16, R40, R65, R129, R152, R157, R159, R174). -/

section
variable {v : Word32}

/-! ### Values as they are written -/

theorem natWord_toNat (v : Word32) : natWord v.toNat = v := by
  rw [natWord, BitVec.ofNat_toNat, BitVec.setWidth_eq]

@[simp] theorem isSome_ranged (lo hi : Nat) (v : Word32) :
    (ranged lo hi v).isSome = true ↔ lo ≤ v.toNat ∧ v.toNat ≤ hi := by
  unfold ranged
  split <;> simp_all

theorem eq_natWord_of_ranged {lo hi n : Nat} (h : ranged lo hi v = some n) : v = natWord n := by
  unfold ranged at h
  split at h
  · rw [← Option.some.inj h, natWord_toNat]
  · cases h

@[simp] theorem isSome_flagOf (v : Word32) : (flagOf v).isSome = true ↔ v.toNat ≤ 1 := by
  have h0 : v = 0#32 ↔ v.toNat = 0 := BitVec.toNat_inj.symm
  have h1 : v = 1#32 ↔ v.toNat = 1 := BitVec.toNat_inj.symm
  unfold flagOf
  simp only [h0, h1]
  split
  · simp_all
  · split <;> simp <;> omega

theorem eq_flagWord_of_flagOf {b : Bool} (h : flagOf v = some b) : v = flagWord b := by
  unfold flagOf at h
  split at h
  next h0 => rw [h0, ← Option.some.inj h]; rfl
  · split at h
    next h1 => rw [h1, ← Option.some.inj h]; rfl
    · cases h

/-- R12, section 12.3: a default action is PASS 0 or DROP 6. -/
@[simp] theorem isSome_ofNumber (n : Nat) : (DefaultAction.ofNumber n).isSome = true ↔ n = 0 ∨ n = 6 := by
  unfold DefaultAction.ofNumber
  split <;> simp_all

theorem eq_natWord_of_ofNumber {a : DefaultAction} (h : DefaultAction.ofNumber v.toNat = some a) : v = natWord a.number := by
  have hn : v.toNat = a.number := by
    unfold DefaultAction.ofNumber at h
    split at h
    next h0 => rw [h0, ← Option.some.inj h]; rfl
    next h6 => rw [h6, ← Option.some.inj h]; rfl
    · cases h
  rw [← hn, natWord_toNat]

/-! ### The compound form of an identifier -/

/-- A mask of `k` ones from bit `j` on leaves the bits it covers. -/
theorem and_mask_eq (x j k : Nat) : x &&& (2 ^ k - 1) * 2 ^ j = x / 2 ^ j % 2 ^ k * 2 ^ j := by
  refine Nat.eq_of_testBit_eq fun i => ?_
  simp only [Nat.testBit_and, Nat.testBit_mul_two_pow, Nat.testBit_mod_two_pow, Nat.testBit_div_two_pow,
    Nat.testBit_two_pow_sub_one]
  by_cases h : j ≤ i
  · simp [h, Bool.and_comm]
  · simp [h]

/-- The two bits between the format and the identifier are clear. -/
theorem and_reserved_eq_zero : v &&& 0x60000000#32 = 0#32 ↔ v.toNat / 2 ^ 29 % 4 = 0 := by
  rw [← BitVec.toNat_inj, BitVec.toNat_and]
  show v.toNat &&& (2 ^ 2 - 1) * 2 ^ 29 = 0 ↔ _
  rw [and_mask_eq]
  omega

/-- The bits above an 11-bit identifier are clear. -/
theorem and_wide_eq_zero : v &&& 0x1FFFF800#32 = 0#32 ↔ v.toNat / 2 ^ 11 % 2 ^ 18 = 0 := by
  rw [← BitVec.toNat_inj, BitVec.toNat_and]
  show v.toNat &&& (2 ^ 18 - 1) * 2 ^ 11 = 0 ↔ _
  rw [and_mask_eq]
  omega

theorem format_bit : v.getLsbD 31 = true ↔ 2 ^ 31 ≤ v.toNat := by
  have hlt := v.isLt
  rw [BitVec.getLsbD, Nat.testBit_eq_decide_div_mod_eq, decide_eq_true_eq]
  omega

/-- R174: the values that name an identifier. -/
@[simp] theorem isSome_ofWord (v : Word32) :
    (CanId.ofWord v).isSome = true ↔ v.toNat < 2 ^ 11 ∨ 2 ^ 31 ≤ v.toNat ∧ v.toNat < 2 ^ 31 + 2 ^ 29 := by
  have hlt := v.isLt
  unfold CanId.ofWord
  simp only [ne_eq, and_reserved_eq_zero, and_wide_eq_zero]
  split
  · simp
    omega
  · simp only [format_bit]
    split
    · simp
      omega
    · split <;> simp <;> omega

/-- R174: an identifier's compound form gives the value back. -/
theorem eq_word_of_ofWord {i : CanId} (h : CanId.ofWord v = some i) : v = i.word := by
  have hlt := v.isLt
  have hrange := (isSome_ofWord v).1 (by rw [h]; rfl)
  unfold CanId.ofWord at h
  split at h
  · cases h
  · split at h
    next hb =>
      rw [← Option.some.inj h]
      rw [format_bit] at hb
      refine BitVec.eq_of_toNat_eq ?_
      have hor := Nat.two_pow_add_eq_or_of_lt (i := 31) (b := v.toNat % 2 ^ 29) (by omega) 1
      have hlow : v.toNat % 2 ^ 29 % 2 ^ 32 = v.toNat % 2 ^ 29 := by omega
      simp only [CanId.word, BitVec.toNat_or, BitVec.extractLsb'_toNat, BitVec.truncate_eq_setWidth,
        BitVec.toNat_setWidth, BitVec.toNat_ofNat, Nat.shiftRight_zero, hlow]
      exact (by omega : v.toNat = 2 ^ 31 * 1 + v.toNat % 2 ^ 29).trans hor
    next hb =>
      split at h
      · cases h
      · rw [← Option.some.inj h]
        rw [format_bit] at hb
        refine BitVec.eq_of_toNat_eq ?_
        simp only [CanId.word, BitVec.extractLsb'_toNat, BitVec.truncate_eq_setWidth, BitVec.toNat_setWidth,
          Nat.shiftRight_zero]
        omega

end

end Sys2Proof.Machine.ItemFields

namespace Sys2Proof.Machine.ItemFields

/-! The settings as a list of values in the order of their numbers (section 12.3, R174). -/

/-- R174: the settings' values, by number. -/
def settingWords (set : Settings) : List Word32 :=
  [natWord set.portVDefault.number, natWord set.portBDefault.number, natWord set.highWater, natWord set.lowWater,
   natWord set.reversalWindow, natWord set.statusStale, natWord set.statusLoss, flagWord set.checkRequired,
   natWord set.chassisMass, natWord set.maxPayload, natWord set.maxGross, natWord set.payloadFallStep,
   natWord set.reversalAllowance, natWord set.baseMargin, natWord set.stepMargin, natWord set.maxServicePressure,
   natWord set.reservoirReserve, natWord set.holdFloor, natWord set.drivelineFactor, natWord set.releaseMargin,
   natWord set.downhillTorque, natWord set.entryGrade, natWord set.entryDemand, natWord set.holdLimit,
   natWord set.rampTime, flagWord set.autoCheck, natWord set.restTime, natWord set.creepThreshold,
   natWord set.demandStale, natWord set.demandLoss, natWord set.refreshInterval, natWord set.slotDiscardTime,
   natWord set.buildStage1, natWord set.buildStage2, natWord set.buildTolerance, natWord set.parkConfirmTime,
   natWord set.lowLevel, natWord set.mediumLevel, natWord set.highLevel, natWord set.levelTimeout,
   natWord set.checkTolerance, set.requestId.word, set.replyId.word, set.cabStatusId.word, natWord set.sleepDelay]

theorem read_eq_settingWords (set : Settings) (k : Nat) : set.read k = (settingWords set)[k]? := by
  by_cases hk : k < 45
  · interval_cases k <;> rfl
  · have hbeyond : (settingWords set)[k]? = none := List.getElem?_eq_none (Nat.le_of_not_lt hk)
    rw [hbeyond, ← Option.not_isSome_iff_eq_none, isSome_read_settings]
    exact hk

section
variable {set x : Settings} {v : Word32} {field : Nat}

/-- R159: a field's value as it is written stands in the field's place, where the value written is that of the field. -/
theorem settingWords_of_map {α : Type} {o : Option α} {make : α → Settings} {code : α → Word32} (h : o.map make = some x)
    (hv : ∀ a, o = some a → v = code a) (hw : ∀ a, settingWords (make a) = (settingWords set).set field (code a)) :
    settingWords x = (settingWords set).set field v := by
  obtain ⟨a, ha, rfl⟩ := Option.map_eq_some_iff.1 h
  rw [hw, ← hv a ha]

theorem ifLevelsRise_eq_some {set x : Settings} : set.ifLevelsRise = some x ↔ set.levelsRise = true ∧ set = x := by
  unfold Settings.ifLevelsRise
  split <;> simp_all

/-- R152, R159: a check level written. -/
theorem settingWords_of_level {lo hi : Nat} {make : Nat → Settings}
    (h : ((ranged lo hi v).bind fun n => (make n).ifLevelsRise) = some x)
    (hw : ∀ n, settingWords (make n) = (settingWords set).set field (natWord n)) :
    settingWords x = (settingWords set).set field v := by
  obtain ⟨n, hn, hx⟩ := Option.bind_eq_some_iff.1 h
  rw [← (ifLevelsRise_eq_some.1 hx).2, hw, ← eq_natWord_of_ranged hn]

/-- R159: a value taken stands in its field's place, and every other value in its own. -/
theorem settingWords_write (h : set.write field v = some x) : settingWords x = (settingWords set).set field v := by
  match field with
  | 0 | 1 => exact settingWords_of_map h (fun _ => eq_natWord_of_ofNumber) fun _ => rfl
  | 7 | 25 => exact settingWords_of_map h (fun _ => eq_flagWord_of_flagOf) fun _ => rfl
  | 36 | 37 | 38 => exact settingWords_of_level h fun _ => rfl
  | 41 | 42 | 43 => exact settingWords_of_map h (fun _ => eq_word_of_ofWord) fun _ => rfl
  | 2 | 3 | 4 | 5 | 6 | 8 | 9 | 10 | 11 | 12 | 13 | 14 | 15 | 16 | 17 | 18 | 19 | 20 | 21 | 22 | 23 | 24 | 26 | 27 | 28
  | 29 | 30 | 31 | 32 | 33 | 34 | 35 | 39 | 40 | 44 =>
    exact settingWords_of_map h (fun _ => eq_natWord_of_ranged) fun _ => rfl
  | k + 45 => cases h

/-- R174: there is no setting from number 45 on. -/
theorem write_beyond (hk : 45 ≤ field) : set.write field v = none := by
  obtain ⟨k, rfl⟩ := Nat.exists_eq_add_of_le' hk
  rfl

theorem lt_of_write (h : set.write field v = some x) : field < 45 := by
  by_contra hk
  rw [write_beyond (Nat.le_of_not_lt hk)] at h
  cases h

/-- R159: a value taken reads back. -/
theorem read_of_write (h : set.write field v = some x) : x.read field = some v := by
  rw [read_eq_settingWords, settingWords_write h]
  exact List.getElem?_set_self (lt_of_write h)

/-- R159: and leaves the other settings as they were. -/
theorem read_of_write_of_ne {other : Nat} (h : set.write field v = some x) (hne : other ≠ field) :
    x.read other = set.read other := by
  rw [read_eq_settingWords, settingWords_write h, List.getElem?_set_ne hne.symm, ← read_eq_settingWords]

/-- R152: a check level is taken in its range where the levels then rise. -/
theorem isSome_level {lo hi : Nat} {make : Nat → Settings} {p : Nat → Prop}
    (hp : ∀ n, (make n).levelsRise = true ↔ p n) :
    ((ranged lo hi v).bind fun n => (make n).ifLevelsRise).isSome = true ↔ lo ≤ v.toNat ∧ v.toNat ≤ hi ∧ p v.toNat := by
  unfold ranged Settings.ifLevelsRise
  split
  next h =>
    simp only [Option.bind_some, ← hp]
    split <;> simp_all
  next h => simp; omega

end

/-- Settles O53: each field's range, the value taken, and the defaults. -/
theorem settingsTakeTheirRanges : Obligations.SettingsTakeTheirRanges := by
  refine ⟨fun set v => ⟨?_, ?_, ?_, fun _ => ?_, ?_, ?_, ?_, ?_, ?_, ?_, ?_, ?_, ?_, ?_, fun field hk => ?_,
    fun field x h => ⟨read_of_write h, fun other => read_of_write_of_ne h⟩⟩, fun k => by fin_cases k <;> rfl⟩
  · intro row hrow
    fin_cases hrow <;> simp [Settings.write]
  · intro field hfield
    fin_cases hfield <;> simp [Settings.write]
  · simp [Settings.write]; omega
  · simp [Settings.write]; omega
  · simp [Settings.write]
  · simp [Settings.write]
  · simp [Settings.write]
  · simp [Settings.write]; omega
  · simp [Settings.write]
  · simp [Settings.write]
  · exact isSome_level (make := fun n => { set with lowLevel := n })
      (p := fun n => n < set.mediumLevel ∧ set.mediumLevel < set.highLevel) fun n => by simp [Settings.levelsRise]
  · exact isSome_level (make := fun n => { set with mediumLevel := n })
      (p := fun n => set.lowLevel < n ∧ n < set.highLevel) fun n => by simp [Settings.levelsRise]
  · exact isSome_level (make := fun n => { set with highLevel := n })
      (p := fun n => set.lowLevel < set.mediumLevel ∧ set.mediumLevel < n) fun n => by simp [Settings.levelsRise]
  · intro field hfield
    fin_cases hfield <;> simp [Settings.write]
  · simp [write_beyond hk]

end Sys2Proof.Machine.ItemFields

namespace Sys2Proof.Machine.TableWrites

open AxleChannels

/-! What the derived values of the channel block and a channel whose handshake begins again do through the notices of a write
(R40, R54, R55, R56, R57, R159). -/

/-! ### What the derived values are worked from -/

/-- The blocks that the derived values are worked from, and the derived values. -/
def tables (s : State) : Channels × Signals × Working := (s.channels, s.signals, s.work)

/-- R54, R55: nothing else is read. -/
theorem deriveChannels_congr {s t : State} (h : tables t = tables s) : t.deriveChannels = s.deriveChannels := by
  have hread (u : State) : u.deriveChannels = State.deriveChannels { State.reset with
      channels := (tables u).1, signals := (tables u).2.1, work := (tables u).2.2 } := rfl
  rw [hread t, hread s, h]

/-- A channel whose handshake has not begun or begins again: no check state is written for it, and STANDBY changes nothing
of it. -/
def Waits (r : ChannelRecord) : Prop := r.handshake = .listening ∨ r.handshake = .absent

/-- A change of the state after which the derived values are those of the records where they were before it, and the record
of a waiting channel is the one before it. -/
structure Follows (s t : State) : Prop where
  derived : s.channels.derived = s.deriveChannels → t.channels.derived = t.deriveChannels
  record : ∀ c, Waits (s.channels.records.get c) → t.channels.records.get c = s.channels.records.get c

theorem Follows.refl (s : State) : Follows s s := ⟨id, fun _ _ => rfl⟩

theorem Follows.trans {s t u : State} (h : Follows s t) (h' : Follows t u) : Follows s u where
  derived := h'.derived ∘ h.derived
  record c hc := (h'.record c (h.record c hc ▸ hc)).trans (h.record c hc)

theorem follows_of_tables {s t : State} (h : tables t = tables s) : Follows s t where
  derived hs := by
    rw [deriveChannels_congr h, ← hs]
    exact congrArg (fun x : Channels × Signals × Working => x.1.derived) h
  record c _ := congrArg (fun x : Channels × Signals × Working => x.1.records.get c) h

/-- R54: the derived values worked afresh are those of the records. -/
theorem derived_rework (s : State) : s.rework.channels.derived = s.rework.deriveChannels := rfl

section
variable {s t : State}

/-- What changes nothing that the derived values are worked from. -/
theorem Follows.congr (h : Follows s t) {u : State} (he : tables u = tables t) : Follows s u := h.trans (follows_of_tables he)

theorem follows_rework (s : State) : Follows s s.rework := ⟨fun _ => derived_rework s, fun _ _ => rfl⟩

/-- R52: entry to STANDBY leaves a waiting channel. -/
theorem follows_channelsStandby (s : State) : Follows s s.channelsStandby where
  derived _ := rfl
  record c hc := by
    have hs : (s.channels.records.get c).standby = s.channels.records.get c := by
      rcases hc with hc | hc <;> simp [ChannelRecord.standby, hc]
    show (PerChan.build fun c => (s.channels.records.get c).standby).get c = _
    rw [PerChan.get_build, hs]

/-- R57: a check state written for a channel that does not wait. -/
theorem follows_writeCheck {c : Chan} (hc : ¬Waits (s.channels.records.get c)) (x : CheckState) :
    Follows s (s.writeCheck c x) := by
  have hchecked : Follows s (checked s c x) := by
    refine ⟨fun _ => rfl, fun d hd => ?_⟩
    have hne : d ≠ c := fun he => hc (he ▸ hd)
    exact PerChan.get_set_of_ne _ _ hne
  rcases writeCheck_eq_or s c x with e | e <;> rw [e]
  · exact hchecked
  · exact hchecked.congr rfl

end

/-! ### The merger and the supervisor's moves leave the channel block alone -/

section
variable (s : State)

theorem tables_restartRefresh : tables s.restartRefresh = tables s := by
  unfold State.restartRefresh; split <;> rfl

theorem tables_makeDemand : tables s.makeDemand = tables s := by
  unfold State.makeDemand
  split <;> exact tables_restartRefresh _

theorem tables_makeForComponent : tables s.makeForComponent = tables s := by
  unfold State.makeForComponent
  split
  · rfl
  · rfl
  all_goals exact tables_makeDemand s

theorem tables_noticeComponent : tables s.noticeComponent = tables s := by
  unfold State.noticeComponent
  split
  · rfl
  · exact tables_makeForComponent s

theorem tables_makeCab : tables s.makeCab = tables s := by
  unfold State.makeCab; dsimp only; split <;> rfl

theorem tables_move (st : SupState) (r : Reason) : tables (s.move st r) = tables s := by
  have hrefresh (u : State) : tables u.enterRefresh = tables u := by
    unfold State.enterRefresh
    split
    · exact tables_restartRefresh u
    · rfl
  have hsleep (u : State) : tables u.tendSleep = tables u := by
    unfold State.tendSleep; split <;> rfl
  rw [State.move, tables_makeCab, hsleep, hrefresh]
  rfl

theorem tables_changeReason (r : Reason) : tables (s.changeReason r) = tables s := by
  unfold State.changeReason
  split
  · rfl
  · rw [tables_makeCab]; rfl

theorem tables_setMode (m : HoldMode) : tables (s.setMode m) = tables s := by cases m <;> rfl

theorem tables_enterUnavailable (r : Reason) : tables (s.enterUnavailable r) = tables s := by
  have hm (u : State) : tables ((u.move .unavailable r).setMode .none) = tables u := by
    rw [tables_setMode, tables_move]
  unfold State.enterUnavailable
  dsimp only
  split <;> exact hm _

theorem tables_buildConfirmed : tables s.buildConfirmed = tables s := by
  unfold State.buildConfirmed
  split
  · split
    · rw [tables_enterUnavailable]; rfl
    · rw [tables_move]; rfl
  · rfl

theorem tables_judge : tables s.judge = tables s := by
  unfold State.judge
  split
  · split
    · rw [tables_buildConfirmed]; rfl
    · rfl
  · split
    · rw [tables_buildConfirmed]; rfl
    · rfl
  · rfl

theorem tables_noticeConfirm (a : Bool) : tables (s.noticeConfirm a) = tables s := by
  unfold State.noticeConfirm
  split
  · rfl
  · split
    · rw [State.arm, tables_judge]; rfl
    · rfl

theorem tables_mergerRecord : tables s.mergerRecord = tables s := by
  rw [State.mergerRecord, tables_noticeConfirm, tables_noticeComponent]

theorem tables_mergerSet : tables s.mergerSet = tables s := by
  rw [State.mergerSet, tables_noticeConfirm, tables_noticeComponent]

theorem tables_handMode (m : HoldMode) (a : Bool) : tables (s.handMode m a) = tables s := by
  rw [State.handMode, tables_noticeConfirm, tables_noticeComponent, tables_setMode]

theorem tables_moved (st : SupState) (r : Reason) (m : HoldMode) (a : Bool) :
    tables ((s.move st r).handMode m a) = tables s := by rw [tables_handMode, tables_move]

theorem tables_enterSecuring (r : Reason) : tables (s.enterSecuring r) = tables s := tables_moved _ _ _ _ _

theorem tables_securingNotice (r : Reason) : tables (s.securingNotice r) = tables s := by
  unfold State.securingNotice State.dropHandover
  split
  · exact tables_enterSecuring s r
  · exact tables_enterSecuring s r
  · split
    · exact tables_handMode _ _ _
    · rfl
  all_goals rfl

theorem tables_recordInHold : tables s.recordInHold = tables s := by
  unfold State.recordInHold
  split
  · exact tables_securingNotice s _
  · rfl

theorem tables_enterHolding : tables s.enterHolding = tables s := by
  rw [State.enterHolding, tables_recordInHold, tables_moved]
  rfl

theorem tables_driveOutcome (o : DriveOutcome) : tables (s.driveOutcome o) = tables s := by
  unfold State.driveOutcome
  split
  · exact tables_moved _ _ _ _ _
  · exact tables_moved _ _ _ _ _
  · exact tables_moved _ _ _ _ _
  all_goals rfl

theorem tables_testHold : tables s.testHold = tables s := by
  unfold State.testHold
  dsimp only
  split
  · split
    · exact tables_enterHolding _
    · rfl
  · rfl

theorem tables_supSet : tables s.supSet = tables s := by
  have hn : tables (if s.channels.derived.b = 0 then s.securingNotice .noChannel else s) = tables s := by
    split
    · exact tables_securingNotice s _
    · rfl
  unfold State.supSet
  split
  · exact hn
  · exact hn
  · exact hn
  all_goals rfl

theorem tables_startLevel (c : Chan) (l : Level) : tables (s.startLevel c l) = tables s := tables_makeForComponent _

theorem tables_driveNotice : tables s.driveNotice = tables s := by
  unfold State.driveNotice
  split
  · exact tables_driveOutcome _ _
  · exact tables_driveOutcome _ _
  all_goals rfl

end

/-! ### STANDBY and the path check -/

section
variable {s t : State}

theorem follows_enterStandbyCore (s : State) (r : Reason) : Follows s (s.enterStandbyCore r) := by
  have hs : Follows s (((State.move { s with sup := { s.sup with ctx := none, handover := false } } .standby r).setMode
      .none).channelsStandby) := by
    refine (follows_of_tables ?_).trans (follows_channelsStandby _)
    rw [tables_setMode, tables_move]
    rfl
  unfold State.enterStandbyCore
  dsimp only
  split
  · exact hs.congr rfl
  · exact hs

theorem Follows.checkReport (h : Follows s t) : Follows s t.checkReport := by
  unfold State.checkReport
  split
  · split
    · exact (h.trans (follows_enterStandbyCore t _)).congr (tables_testHold _)
    · exact h.congr (tables_enterUnavailable _ _)
  · exact h

theorem Follows.chooseChannel (h : Follows s t) (a : Option Chan) : Follows s (t.chooseChannel a) := by
  unfold State.chooseChannel
  split
  · exact h.congr (tables_startLevel _ _ _)
  · exact Follows.checkReport (h.congr rfl)

/-- R148: a channel that a look finds failing does not wait. -/
theorem not_waits_of_look {c : Chan} (h : s.look c = .fails) : ¬Waits (s.channels.records.get c) := by
  rintro (hw | hw) <;> simp [State.look, hw] at h

theorem tables_writeResults (l : List Level) (s : State) (c : Chan) :
    tables (l.foldl (fun t k => t.writeResult c k .notRun 0) s) = tables s := by
  induction l generalizing s with
  | nil => rfl
  | cons k l ih => exact (ih _).trans rfl

theorem Follows.failLevel (h : Follows s t) {c : Chan} (hc : t.look c = .fails) (l : Level) :
    Follows s (t.failLevel c l) := by
  let u := (t.writeResult c l .fail (t.channels.records.get c).pressure).stopLevel
  have hu : Follows s (u.writeCheck c .failed) :=
    (h.congr (u := u) rfl).trans (follows_writeCheck (s := u) (not_waits_of_look hc) _)
  exact Follows.chooseChannel (hu.congr (tables_writeResults _ _ _)) _

theorem Follows.pathSet (h : Follows s t) : Follows s t.pathSet := by
  unfold State.pathSet
  split
  · split
    · exact h
    next hl => exact h.failLevel hl _
    · exact Follows.chooseChannel (h.congr rfl) _
  · exact h

theorem Follows.abortCheck (h : Follows s t) (c : AbortCause) : Follows s (t.abortCheck c) := by
  unfold State.abortCheck
  split
  · exact Follows.checkReport (h.congr rfl)
  · exact h

theorem Follows.testCheck (h : Follows s t) : Follows s t.testCheck := by
  unfold State.testCheck
  split
  · refine Follows.chooseChannel (h.congr ?_) _
    exact (tables_moved { t with sup := { t.sup with autoPending := false } } .checking .none .check false).trans rfl
  · exact h

theorem Follows.testEntry (h : Follows s t) : Follows s t.testEntry := by
  unfold State.testEntry
  split
  · exact Follows.testCheck (h.congr (tables_testHold t))
  · exact h.testCheck
  all_goals exact h

/-! ### Notices -/

theorem Follows.noticeConditions (h : Follows s t) : Follows s t.noticeConditions := by
  unfold State.noticeConditions
  split
  · split
    · exact Follows.testEntry (h.trans (follows_enterStandbyCore t _))
    · split
      · exact h
      · exact Follows.testCheck (h.congr (tables_changeReason _ _))
  · split
    · exact h
    · exact Follows.testCheck (h.congr (tables_enterUnavailable _ _))
  all_goals exact h

theorem Follows.noticeSuspended (h : Follows s t) : Follows s t.noticeSuspended := by
  unfold State.noticeSuspended
  split
  · exact h.noticeConditions
  · exact h

theorem Follows.noticeRecord (h : Follows s t) : Follows s t.noticeRecord :=
  (Follows.testEntry (h.congr (tables_recordInHold t))).congr (tables_mergerRecord _)

theorem Follows.evaluate (h : Follows s t) : Follows s t.evaluate := Follows.noticeRecord (h.congr rfl)

theorem Follows.tellSet (h : Follows s t) : Follows s t.tellSet := by
  have hm : Follows s t.mergerSet.evaluateCore := (h.congr (tables_mergerSet t)).congr rfl
  exact Follows.pathSet (hm.noticeConditions.noticeRecord.congr (tables_supSet _))

theorem Follows.noticeSet (h : Follows s t) (d : Derived) : Follows s (t.noticeSet d) := by
  unfold State.noticeSet
  split
  · exact h
  · exact h.tellSet

theorem Follows.tellWheels (h : Follows s t) (before : Creep) : Follows s (t.tellWheels before) := by
  have hs : Follows s (if t.creep.watchedCount ≠ before.watchedCount ∧ t.creep.watchedCount < 2
      then t.securingNotice .wheelLost else t) := by
    split
    · exact h.congr (tables_securingNotice t _)
    · exact h
  unfold State.tellWheels
  dsimp only
  split
  · exact hs.testEntry
  · exact hs

theorem Follows.watchWheels (h : Follows s t) : Follows s t.watchWheels := Follows.tellWheels (t := t.trackWheels) (h.congr rfl) _

theorem Follows.securingNotice (h : Follows s t) (r : Reason) : Follows s (t.securingNotice r) :=
  h.congr (tables_securingNotice t r)

/-- R32, R159: the notice of a record that has been reset, to whatever role. A LOST record asks for no release. -/
theorem Follows.notifyReset (h : Follows s t) (role : Role) (before : SampleRecord) :
    Follows s (t.notify role .ageing before SampleRecord.reset) := by
  unfold State.notify
  dsimp only
  cases role <;> dsimp only
  case none => exact h
  case grade => exact h.evaluate.testEntry
  case payload => exact Follows.evaluate (h.congr rfl)
  case drumSpeed => exact h.evaluate
  case engineTorque => exact h.congr (tables_driveNotice t)
  case gearRatio => exact h.congr (tables_driveNotice t)
  case reservoir =>
    split
    · exact h.evaluate.testEntry.securingNotice _
    · exact h.evaluate.testEntry
  case parkStatus => exact h.testEntry.abortCheck _
  case parkReleaseReq => exact h
  case driverPresent =>
    split
    · exact h.testEntry.securingNotice _
    · exact h.testEntry
  case pendantActive => exact h.testEntry
  case holdInhibit => exact h.testEntry
  case liftAxle => exact Follows.noticeSet (h.trans (follows_rework t)) _
  case wheel w => exact h.watchWheels

end

end Sys2Proof.Machine.TableWrites

namespace Sys2Proof.Machine.TableWrites

open SignalRecords AxleChannels HoldSupervisor FramePath

/-! While a table is SUSPENDED no notice of a write takes the supervisor out of UNAVAILABLE (R59, R82, R83, R99, R100). -/

/-- The supervisor is in UNAVAILABLE and a table is SUSPENDED. -/
structure Barred (s : State) : Prop where
  state : s.sup.state = .unavailable
  bad : s.configBad = true

section
variable {s t : State}

theorem configBad_of_quiet (h : t.quiet = s.quiet) : t.configBad = s.configBad := by
  unfold State.configBad
  rw [State.route_of_quiet h, State.signals_of_quiet h, StartAndSleep.channels_state_of_quiet h,
    StartAndSleep.calculator_state_of_quiet h]

/-- What moves neither the supervisor nor a table state. -/
theorem Barred.of_sup (h : Barred s) (hs : t.sup.state = s.sup.state) (hq : t.quiet = s.quiet) : Barred t :=
  ⟨hs.trans h.state, (configBad_of_quiet hq).trans h.bad⟩

theorem Barred.of_calm (h : Barred s) (hs : t.sup.state = s.sup.state) (hc : t.calm = s.calm) : Barred t :=
  h.of_sup hs (State.quiet_of_calm hc)

/-- R82: CONFIG stands among the conditions. -/
theorem config_mem_reasons (h : s.configBad = true) : .config ∈ s.unavailableReasons := by
  simp [State.unavailableReasons, h]

theorem reasons_of_configBad (h : s.configBad = true) : ∃ r rest, s.unavailableReasons = r :: rest :=
  List.exists_cons_of_ne_nil (List.ne_nil_of_mem (config_mem_reasons h))

/-! ### The tests of entry -/

/-- R99: with a table SUSPENDED no check starts out of UNAVAILABLE. -/
theorem Barred.testCheck_eq (h : Barred s) : s.testCheck = s := by
  refine testCheck_of_unmet (.inr ?_)
  have hne : s.unavailableReasons ≠ [.noChannel] := by
    intro he
    have hmem := config_mem_reasons h.bad
    rw [he] at hmem
    simp at hmem
  simp [State.checkPreconditions, h.state, hne]

theorem Barred.testEntry_eq (h : Barred s) : s.testEntry = s := by
  unfold State.testEntry
  rw [h.state]
  exact h.testCheck_eq

theorem Barred.securingNotice_eq (h : Barred s) (r : Reason) : s.securingNotice r = s := securingNotice_unheeded (.inl h.state) r

theorem Barred.recordInHold_eq (h : Barred s) : s.recordInHold = s := by
  rw [State.recordInHold, h.securingNotice_eq, ite_self]

theorem Barred.supSet_eq (h : Barred s) : s.supSet = s := by
  unfold State.supSet
  rw [h.state]

theorem Barred.checkReport_eq (h : Barred s) : s.checkReport = s := if_neg (by simp [h.state])

/-! ### The conditions taken -/

/-- R82, R83: the reason is the first condition. -/
structure Held (s : State) : Prop where
  state : s.sup.state = .unavailable
  reason : s.unavailableReasons.head? = some s.sup.reason

theorem reasons_of_tables (hc : t.calm = s.calm) (ht : tables t = tables s) : t.unavailableReasons = s.unavailableReasons :=
  unavailableReasons_of_sameTables (sameTables_of_calm hc) (congrArg (fun x : Channels × Signals × Working => x.1.derived.b) ht)

/-- R83: in UNAVAILABLE and STANDBY the conditions are taken where a table is SUSPENDED. -/
theorem held_noticeConditions (hs : s.sup.state = .unavailable ∨ s.sup.state = .standby) (hb : s.configBad = true) :
    Held s.noticeConditions := by
  obtain ⟨r, rest, hr⟩ := reasons_of_configBad hb
  have hheld {u : State} (hu : u.sup.state = .unavailable) (hreason : u.sup.reason = r) (hc : u.calm = s.calm)
      (ht : tables u = tables s) : Held u.testCheck := by
    rw [Barred.testCheck_eq ⟨hu, (configBad_of_quiet (State.quiet_of_calm hc)).trans hb⟩]
    exact ⟨hu, by rw [reasons_of_tables hc ht, hr, hreason]; rfl⟩
  unfold State.noticeConditions
  rcases hs with hs | hs <;> rw [hs, hr] <;> dsimp only
  · split
    next he => exact ⟨hs, by rw [hr, he]; rfl⟩
    · exact hheld (by rw [sup_changeReason]; exact hs) (by rw [sup_changeReason]) (State.calm_changeReason s r)
        (tables_changeReason s r)
  · have he := enterUnavailable_enters s r
    exact hheld (by rw [he.sup]) (by rw [he.sup]) he.calm (tables_enterUnavailable s r)

theorem barred_noticeConditions (hs : s.sup.state = .unavailable ∨ s.sup.state = .standby) (hb : s.configBad = true) :
    Barred s.noticeConditions :=
  ⟨(held_noticeConditions hs hb).state,
    (configBad_of_quiet (State.quiet_of_calm (State.calm_noticeConditions s))).trans hb⟩

theorem Barred.noticeConditions (h : Barred s) : Barred s.noticeConditions := barred_noticeConditions (.inl h.state) h.bad

/-! ### The merger, the record, the path check -/

theorem Barred.merger (h : Barred s) (ht : MergerOnly s t) : Barred t := h.of_calm (by rw [ht.sup]) ht.calm

theorem Barred.no_handover (h : Barred s) : ¬(s.sup.state = .secured ∧ s.sup.handover = true) := by simp [h.state]

theorem Barred.mergerRecord (h : Barred s) : Barred s.mergerRecord := h.merger (mergerOnly_mergerRecord h.no_handover)

theorem Barred.mergerSet (h : Barred s) : Barred s.mergerSet := h.merger (mergerOnly_mergerSet h.no_handover)

theorem Barred.evaluateCore (h : Barred s) : Barred s.evaluateCore := h.of_calm rfl rfl

theorem Barred.noticeRecord (h : Barred s) : Barred s.noticeRecord := by
  rw [State.noticeRecord, h.recordInHold_eq, h.testEntry_eq]
  exact h.mergerRecord

theorem Barred.evaluate (h : Barred s) : Barred s.evaluate := h.evaluateCore.noticeRecord

theorem Barred.chooseChannel (h : Barred s) (a : Option Chan) : Barred (s.chooseChannel a) := by
  unfold State.chooseChannel
  split
  · exact h.of_calm (by rw [State.startLevel, State.sup_makeForComponent]) (State.calm_startLevel _ _ _)
  · have hs : Barred (s.stopRun .ended) := h.of_calm rfl rfl
    rw [hs.checkReport_eq]
    exact hs

theorem Barred.writeCheck (h : Barred s) (c : Chan) (x : CheckState) : Barred (s.writeCheck c x) := by
  refine h.of_calm ?_ (State.calm_writeCheck s c x)
  rcases writeCheck_eq_or s c x with e | e <;> rw [e] <;> rfl

theorem Barred.writeResults (h : Barred s) (l : List Level) (c : Chan) :
    Barred (l.foldl (fun t k => t.writeResult c k .notRun 0) s) := by
  induction l generalizing s with
  | nil => exact h
  | cons k l ih => exact ih (h.of_calm rfl rfl)

theorem Barred.failLevel (h : Barred s) (c : Chan) (l : Level) : Barred (s.failLevel c l) := by
  have hs : Barred (s.writeResult c l .fail (s.channels.records.get c).pressure).stopLevel := h.of_calm rfl rfl
  exact ((hs.writeCheck c .failed).writeResults _ c).chooseChannel _

theorem Barred.pathSet (h : Barred s) : Barred s.pathSet := by
  unfold State.pathSet
  split
  · split
    · exact h
    · exact h.failLevel _ _
    · exact Barred.chooseChannel (h.of_calm rfl rfl) _
  · exact h

theorem Barred.abortCheck (h : Barred s) (c : AbortCause) : Barred (s.abortCheck c) := by
  unfold State.abortCheck
  split
  · have hs : Barred (s.stopRun (.aborted c)) := h.of_calm rfl rfl
    rw [hs.checkReport_eq]
    exact hs
  · exact h

/-! ### Notices -/

theorem Barred.tellSet (h : Barred s) : Barred s.tellSet := by
  have hr := h.mergerSet.evaluateCore.noticeConditions.noticeRecord
  rw [State.tellSet, hr.supSet_eq]
  exact hr.pathSet

theorem Barred.noticeSet (h : Barred s) (d : Derived) : Barred (s.noticeSet d) := by
  unfold State.noticeSet
  split
  · exact h
  · exact h.tellSet

theorem Barred.tellWheels_eq (h : Barred s) (before : Creep) : s.tellWheels before = s := by
  unfold State.tellWheels
  dsimp only
  rw [h.securingNotice_eq, ite_self, h.testEntry_eq, ite_self]

theorem Barred.driveNotice_eq (h : Barred s) : s.driveNotice = s := by
  unfold State.driveNotice
  rw [h.state]

theorem Barred.notifyReset (h : Barred s) (role : Role) (before : SampleRecord) :
    Barred (s.notify role .ageing before SampleRecord.reset) := by
  unfold State.notify
  dsimp only
  cases role <;> dsimp only
  case none => exact h
  case grade =>
    rw [h.evaluate.testEntry_eq]
    exact h.evaluate
  case payload => exact Barred.evaluate (h.of_sup rfl rfl)
  case drumSpeed => exact h.evaluate
  case engineTorque =>
    rw [h.driveNotice_eq]
    exact h
  case gearRatio =>
    rw [h.driveNotice_eq]
    exact h
  case reservoir =>
    rw [h.evaluate.testEntry_eq, h.evaluate.securingNotice_eq, ite_self]
    exact h.evaluate
  case parkStatus =>
    show Barred (s.testEntry.abortCheck .park)
    rw [h.testEntry_eq]
    exact h.abortCheck _
  case parkReleaseReq => exact h
  case driverPresent =>
    rw [h.testEntry_eq, h.securingNotice_eq, ite_self]
    exact h
  case pendantActive =>
    rw [h.testEntry_eq]
    exact h
  case holdInhibit =>
    rw [h.testEntry_eq]
    exact h
  case liftAxle => exact Barred.noticeSet (s := s.rework) (h.of_calm rfl (State.calm_rework s)) _
  case wheel w =>
    have ht : Barred s.trackWheels := h.of_sup rfl (State.quiet_trackWheels s)
    rw [State.watchWheels, ht.tellWheels_eq]
    exact ht

end

end Sys2Proof.Machine.TableWrites

namespace Sys2Proof.Machine.TableWrites

open SignalRecords AxleChannels HoldSupervisor ManagementResponder StartAndSleep

/-! What follows a taken write at once, table by table (R13, R24, R25, R40, R41, R54, R62, R64, R83, R159). -/

section
variable {s t : State}

/-! ### What a write's checks leave -/

theorem steady_setWork (s : State) (w : Working) : (s.setWork w).steady = s.steady := rfl

theorem steady_checkRoutes (s : State) : s.checkRoutes.steady = s.steady := by rw [checkRoutes_eq]; rfl

/-- The supervisor takes no part in a WRITE's change of state before its notices: it is out of the hold states and out of
CHECKING (R157). -/
theorem resting_of_not_busy (h : s.busy = false) : s.sup.state = .unavailable ∨ s.sup.state = .standby := by
  cases hs : s.sup.state <;> simp [State.busy, hs] at h ⊢

theorem noticeSuspended_of_bad (h : s.configBad = true) : s.noticeSuspended = s.noticeConditions := if_pos h

/-- R83: a table SUSPENDED reaches the supervisor first. -/
theorem barred_noticeSuspended (hs : s.sup.state = .unavailable ∨ s.sup.state = .standby) (hb : s.configBad = true) :
    Barred s.noticeSuspended := by
  rw [noticeSuspended_of_bad hb]
  exact barred_noticeConditions hs hb

/-- R83: the conditions taken last. -/
theorem Barred.held (h : Barred s) : Held s.noticeConditions := held_noticeConditions (.inl h.state) h.bad

/-! ### ROUTE -/

theorem calm_wroteRoute (s : State) : s.wroteRoute.calm = s.checkRoutes.calm := State.calm_noticeConditions _

theorem work_wroteRoute (s : State) : s.wroteRoute.work = s.work := by
  rw [State.work_of_calm (calm_wroteRoute s), checkRoutes_eq]

theorem steady_wroteRoute (s : State) : s.wroteRoute.steady = s.steady :=
  (State.steady_of_quiet (State.quiet_of_calm (calm_wroteRoute s))).trans (steady_checkRoutes s)

theorem held_wroteRoute (hs : s.sup.state = .unavailable ∨ s.sup.state = .standby) (hb : s.wroteRoute.configBad = true) :
    Held s.wroteRoute := by
  refine held_noticeConditions (s := s.checkRoutes) ?_ ?_
  · rw [checkRoutes_eq]
    exact hs
  · rw [← configBad_of_quiet (State.quiet_of_calm (calm_wroteRoute s))]
    exact hb

/-! ### The curves -/

theorem calm_wroteCurve (s : State) : s.wroteCurve.calm = s.checkCurves.calm := by
  unfold State.wroteCurve
  simp

theorem work_wroteCurve (s : State) : s.wroteCurve.work = s.work :=
  (State.work_of_calm (calm_wroteCurve s)).trans rfl

theorem steady_wroteCurve (s : State) : s.wroteCurve.steady = s.steady :=
  (State.steady_of_quiet (State.quiet_of_calm (calm_wroteCurve s))).trans rfl

theorem held_wroteCurve (hs : s.sup.state = .unavailable ∨ s.sup.state = .standby) (hb : s.wroteCurve.configBad = true) :
    Held s.wroteCurve := by
  have hbad : s.checkCurves.configBad = true :=
    (configBad_of_quiet (State.quiet_of_calm (calm_wroteCurve s))).symm.trans hb
  exact (barred_noticeSuspended (s := s.checkCurves) hs hbad).evaluate.held

/-! ### CHANNEL -/

/-- R40, R41, R54: a CHANNEL write as made, its notices not yet taken. -/
def channelWritten (s : State) (c : Chan) (field : Nat) : State :=
  (if field ≤ 2 then s.restartChannel c else s).checkChannels.rework

theorem wroteChannel_eq (s : State) (c : Chan) (field : Nat) : s.wroteChannel c field =
    ((channelWritten s c field).noticeSuspended.noticeSet s.channels.derived).noticeConditions := rfl

theorem calm_wroteChannel (s : State) (c : Chan) (field : Nat) :
    (s.wroteChannel c field).calm = (channelWritten s c field).calm := by
  rw [wroteChannel_eq]
  simp

/-- R40, R41: the write changes the channel block. -/
theorem channelWritten_eq (s : State) (c : Chan) (field : Nat) :
    channelWritten s c field = { s with channels := (channelWritten s c field).channels } := by
  unfold channelWritten
  rw [checkChannels_eq]
  split <;> rfl

theorem work_wroteChannel (s : State) (c : Chan) (field : Nat) : (s.wroteChannel c field).work = s.work := by
  rw [State.work_of_calm (calm_wroteChannel s c field), channelWritten_eq]

theorem steady_wroteChannel (s : State) (c : Chan) (field : Nat) : (s.wroteChannel c field).steady = s.steady := by
  rw [State.steady_of_quiet (State.quiet_of_calm (calm_wroteChannel s c field)), channelWritten_eq]
  rfl

theorem held_wroteChannel {c : Chan} {field : Nat} (hs : s.sup.state = .unavailable ∨ s.sup.state = .standby)
    (hb : (s.wroteChannel c field).configBad = true) : Held (s.wroteChannel c field) := by
  have hbad : (channelWritten s c field).configBad = true :=
    (configBad_of_quiet (State.quiet_of_calm (calm_wroteChannel s c field))).symm.trans hb
  have hstate : (channelWritten s c field).sup.state = .unavailable ∨ (channelWritten s c field).sup.state = .standby := by
    rw [channelWritten_eq]
    exact hs
  rw [wroteChannel_eq]
  exact ((barred_noticeSuspended hstate hbad).noticeSet _).held

theorem follows_wroteChannel (s : State) (c : Chan) (field : Nat) :
    Follows (channelWritten s c field) (s.wroteChannel c field) := by
  rw [wroteChannel_eq]
  exact ((Follows.refl _).noticeSuspended.noticeSet _).noticeConditions

/-- R54, R55: the derived values are those of the records. -/
theorem derived_wroteChannel (s : State) (c : Chan) (field : Nat) :
    (s.wroteChannel c field).channels.derived = (s.wroteChannel c field).deriveChannels :=
  (follows_wroteChannel s c field).derived (derived_rework _)

theorem channels_state_wroteChannel (s : State) (c : Chan) (field : Nat) :
    (s.wroteChannel c field).channels.state = .inForce ↔ channelsValid s.work.channels = true := by
  have hw : (if field ≤ 2 then s.restartChannel c else s).work = s.work := by split <;> rfl
  rw [State.channels_state_of_calm (calm_wroteChannel s c field), ← hw]
  exact channels_state_checkChannels _

/-- R41, R58: a check of the table restarts every handshake or none. -/
theorem record_checkChannels (s : State) (c : Chan) :
    s.checkChannels.channels.records.get c = s.channels.records.get c ∨ s.checkChannels.channels.records.get c =
      (s.channels.records.get c).restart (s.work.channels.get c).expected := by
  unfold State.checkChannels
  dsimp only
  split
  · split
    · exact .inr (PerChan.get_build _ _)
    · exact .inl rfl
  · exact .inl rfl

/-- R40: the channel written has its handshake restarted, and the notices leave it. -/
theorem record_wroteChannel {c : Chan} {field : Nat} (h : field ≤ 2) : (s.wroteChannel c field).channels.records.get c =
    (s.channels.records.get c).restart (s.work.channels.get c).expected := by
  let r := (s.channels.records.get c).restart (s.work.channels.get c).expected
  have hrestart : (s.restartChannel c).channels.records.get c = r := PerChan.get_set_self _ _ _
  have hwritten : (channelWritten s c field).channels.records.get c = r := by
    unfold channelWritten
    rw [if_pos h]
    show (s.restartChannel c).checkChannels.channels.records.get c = r
    rcases record_checkChannels (s.restartChannel c) c with e | e <;> rw [e, hrestart]
    rfl
  have hwaits : Waits r := by
    show r.handshake = .listening ∨ r.handshake = .absent
    cases he : (s.work.channels.get c).expected <;> simp [r, ChannelRecord.restart, he]
  rw [(follows_wroteChannel s c field).record c (hwritten ▸ hwaits), hwritten]

/-! ### SIGNAL -/

/-- R24, R25, R54, R104: a SIGNAL write as made, its notices not yet taken. -/
def signalWritten (s : State) (k : Fin 20) (grade drum : Bool) : State :=
  (s.resetEntry k grade drum).checkSignals.rework.trackWheels

/-- R159: the notices of a SIGNAL write on the state it has made, but for the last one, of the conditions. -/
def signalTold (x : State) (before : Derived) (role : Role) (r : SampleRecord) (grade drumRan : Bool) (creep : Creep) :
    State :=
  let s1 := x.noticeSuspended.noticeSet before
  let s2 := if r.age = .lost then s1 else s1.notify role .ageing r SampleRecord.reset
  let s3 := if grade then s2.evaluate.testEntry else s2
  let s4 := if drumRan then s3.evaluate else s3
  s4.tellWheels creep

theorem wroteSignal_eq (s : State) (k : Fin 20) (old new : Role) : s.wroteSignal k old new =
    (signalTold (signalWritten s k (decide (old = .grade ∨ new = .grade)) (decide (old = .drumSpeed ∨ new = .drumSpeed)))
      s.channels.derived (s.signals.bindings.get k) (s.signals.records.get k) (decide (old = .grade ∨ new = .grade))
      (decide (old = .drumSpeed ∨ new = .drumSpeed) && s.signals.reversal.isSome) s.creep).noticeConditions := rfl

section
variable (x : State) (before : Derived) (role : Role) (r : SampleRecord) (grade drumRan : Bool) (creep : Creep)

theorem quiet_signalTold : (signalTold x before role r grade drumRan creep).quiet = x.quiet := by
  have h1 : (x.noticeSuspended.noticeSet before).quiet = x.quiet := State.quiet_of_calm (by simp)
  unfold signalTold
  dsimp only
  generalize x.noticeSuspended.noticeSet before = s1 at h1
  have h2 : (if r.age = .lost then s1 else s1.notify role .ageing r SampleRecord.reset).quiet = x.quiet := by
    split
    · exact h1
    · exact (State.quiet_notify_ageing _ _ _ _).trans h1
  generalize (if r.age = .lost then s1 else s1.notify role .ageing r SampleRecord.reset) = s2 at h2
  have h3 : (if grade then s2.evaluate.testEntry else s2).quiet = x.quiet := by
    split
    · rw [State.quiet_testEntry, State.quiet_evaluate, h2]
    · exact h2
  generalize (if grade then s2.evaluate.testEntry else s2) = s3 at h3
  rw [State.quiet_of_calm (State.calm_tellWheels _ _)]
  split
  · rw [State.quiet_evaluate, h3]
  · exact h3

theorem follows_signalTold : Follows x (signalTold x before role r grade drumRan creep) := by
  have h1 : Follows x (x.noticeSuspended.noticeSet before) := (Follows.refl x).noticeSuspended.noticeSet _
  unfold signalTold
  dsimp only
  generalize x.noticeSuspended.noticeSet before = s1 at h1
  have h2 : Follows x (if r.age = .lost then s1 else s1.notify role .ageing r SampleRecord.reset) := by
    split
    · exact h1
    · exact h1.notifyReset _ _
  generalize (if r.age = .lost then s1 else s1.notify role .ageing r SampleRecord.reset) = s2 at h2
  have h3 : Follows x (if grade then s2.evaluate.testEntry else s2) := by
    split
    · exact h2.evaluate.testEntry
    · exact h2
  refine Follows.tellWheels ?_ _
  split
  · exact h3.evaluate
  · exact h3

variable {x} in
theorem barred_signalTold (hs : x.sup.state = .unavailable ∨ x.sup.state = .standby) (hb : x.configBad = true) :
    Barred (signalTold x before role r grade drumRan creep) := by
  have h1 : Barred (x.noticeSuspended.noticeSet before) := (barred_noticeSuspended hs hb).noticeSet _
  unfold signalTold
  dsimp only
  generalize x.noticeSuspended.noticeSet before = s1 at h1
  have h2 : Barred (if r.age = .lost then s1 else s1.notify role .ageing r SampleRecord.reset) := by
    split
    · exact h1
    · exact h1.notifyReset _ _
  generalize (if r.age = .lost then s1 else s1.notify role .ageing r SampleRecord.reset) = s2 at h2
  have h3 : Barred (if grade then s2.evaluate.testEntry else s2) := by
    split
    · rw [h2.evaluate.testEntry_eq]
      exact h2.evaluate
    · exact h2
  generalize (if grade then s2.evaluate.testEntry else s2) = s3 at h3
  have h4 : Barred (if drumRan then s3.evaluate else s3) := by
    split
    · exact h3.evaluate
    · exact h3
  rw [h4.tellWheels_eq]
  exact h4

end

/-- R25, R54, R104: the write changes the signal block, the derived values, the watched wheels and the context. -/
theorem signalWritten_eq (s : State) (k : Fin 20) (grade drum : Bool) : signalWritten s k grade drum = { s with
    signals := (s.resetEntry k grade drum).checkSignals.signals, channels := (signalWritten s k grade drum).channels
    creep := (signalWritten s k grade drum).creep, sup := (signalWritten s k grade drum).sup } := by
  unfold signalWritten
  rw [checkSignals_eq]
  rfl

theorem state_signalWritten (s : State) (k : Fin 20) (grade drum : Bool) :
    (signalWritten s k grade drum).sup.state = s.sup.state := by
  unfold signalWritten
  rw [checkSignals_eq]
  rfl

/-- R25, R35, R37: the signal block as the write makes it. -/
theorem signals_signalWritten (s : State) (k : Fin 20) (grade drum : Bool) :
    (signalWritten s k grade drum).signals.records = s.signals.records.set k SampleRecord.reset ∧
    (signalWritten s k grade drum).signals.window = (if grade then [] else s.signals.window) ∧
    (signalWritten s k grade drum).signals.keptSign = (if drum then .none else s.signals.keptSign) ∧
    (signalWritten s k grade drum).signals.reversal = (if drum then none else s.signals.reversal) := by
  have hc (u : State) : u.checkSignals.signals.records = u.signals.records ∧
      u.checkSignals.signals.window = u.signals.window ∧ u.checkSignals.signals.keptSign = u.signals.keptSign ∧
      u.checkSignals.signals.reversal = u.signals.reversal := by
    unfold State.checkSignals
    split <;> exact ⟨rfl, rfl, rfl, rfl⟩
  exact hc (s.resetEntry k grade drum)

section
variable {k : Fin 20} {old new : Role}

theorem quiet_wroteSignal (s : State) (k : Fin 20) (old new : Role) : (s.wroteSignal k old new).quiet =
    (signalWritten s k (decide (old = .grade ∨ new = .grade)) (decide (old = .drumSpeed ∨ new = .drumSpeed))).quiet := by
  rw [wroteSignal_eq, State.quiet_of_calm (State.calm_noticeConditions _), quiet_signalTold]

theorem work_wroteSignal (s : State) (k : Fin 20) (old new : Role) : (s.wroteSignal k old new).work = s.work := by
  rw [State.work_of_quiet (quiet_wroteSignal s k old new), signalWritten_eq]

theorem steady_wroteSignal (s : State) (k : Fin 20) (old new : Role) : (s.wroteSignal k old new).steady = s.steady := by
  rw [State.steady_of_quiet (quiet_wroteSignal s k old new), signalWritten_eq]
  rfl

theorem held_wroteSignal (hs : s.sup.state = .unavailable ∨ s.sup.state = .standby)
    (hb : (s.wroteSignal k old new).configBad = true) : Held (s.wroteSignal k old new) := by
  rw [configBad_of_quiet (quiet_wroteSignal s k old new)] at hb
  rw [wroteSignal_eq]
  exact (barred_signalTold _ _ _ _ _ _ (by rw [state_signalWritten]; exact hs) hb).held

/-- R54, R55: the derived values are those of the records. -/
theorem derived_wroteSignal (s : State) (k : Fin 20) (old new : Role) :
    (s.wroteSignal k old new).channels.derived = (s.wroteSignal k old new).deriveChannels := by
  rw [wroteSignal_eq]
  exact (follows_signalTold ..).noticeConditions.derived rfl

theorem signals_state_wroteSignal (s : State) (k : Fin 20) (old new : Role) :
    (s.wroteSignal k old new).signals.state = .inForce ↔ signalsValid s.work.signals = true := by
  rw [State.signals_of_quiet (quiet_wroteSignal s k old new)]
  exact signals_state_checkSignals (s.resetEntry k _ _)

end

/-! ### SETTINGS -/

/-- R76: every setting but the maximum payload acts through notices alone. -/
theorem calm_wroteSetting {field : Nat} (h : field ≠ 9) : (s.wroteSetting field).calm = s.calm := by
  unfold State.wroteSetting
  split
  · exact State.calm_reworkNotice s
  · exact absurd rfl h
  all_goals simp

/-- R64: the maximum payload becomes payload used. -/
theorem calm_wroteSetting_maxPayload (s : State) : (s.wroteSetting 9).calm = s.payloadMax.calm := State.calm_evaluate _

theorem quiet_wroteSetting (s : State) (field : Nat) : (s.wroteSetting field).quiet = s.quiet := by
  by_cases h : field = 9
  · subst h
    exact (State.quiet_of_calm (calm_wroteSetting_maxPayload s)).trans (State.quiet_setPayload s _)
  · exact State.quiet_of_calm (calm_wroteSetting h)

theorem payloadUsed_wroteSetting (s : State) (field : Nat) : (s.wroteSetting field).calculator.payloadUsed =
    if field = 9 then s.work.settings.maxPayload else s.calculator.payloadUsed := by
  split
  next h =>
    subst h
    exact (State.calculator_payloadUsed_of_calm (calm_wroteSetting_maxPayload s)).trans rfl
  next h => exact State.calculator_payloadUsed_of_calm (calm_wroteSetting h)

end

end Sys2Proof.Machine.TableWrites

namespace Sys2Proof.Machine.TableWrites

open SignalRecords AxleChannels HoldSupervisor ManagementResponder StartAndSleep ItemFields

/-! A WRITE that is taken: the row, its reply, and the state it leaves (R157, R158, R159). -/

section
variable {s t : State} {g : Group} {index field : Byte} {v : Word32} {c : Instr}

/-! ### Fields that take values are there -/

/-- A group's write takes values at its first fields alone. -/
theorem lt_of_written {α : Type} (write : Nat → Option α) {n k : Nat} {x : α} (beyond : ∀ j, write (j + n) = none)
    (h : write k = some x) : k < n := by
  by_contra hk
  rw [← Nat.sub_add_cancel (Nat.le_of_not_lt hk), beyond] at h
  cases h

/-- R157: a field that takes a value is a field of its group. -/
theorem isSome_readField_of_takes {α : Type} {item x : α} {written : Option α} {g : Group}
    (h : s.Takes g index field v item x written)
    (hw : written = some x → (s.readField g index.toNat field.toNat).isSome = true) :
    (s.readField g index.toNat field.toNat).isSome = true := by
  rcases h with h | ⟨-, h, -⟩
  · exact hw h
  · rw [h]
    rfl

theorem indexOf_of_eq {n i : Nat} {k : Fin n} (h : i = k.val) : indexOf n i = some k := by
  subst h
  exact dif_pos k.isLt

theorem chanOf_of_eq {i : Nat} {d : Chan} (h : i = d.number) : chanOf i = some d := h ▸ chanOf_number d

theorem isSome_readField_settings (s : State) (hf : field.toNat < 45) :
    (s.readField .settings 0 field.toNat).isSome = true :=
  (isSome_read_settings s.work.settings field.toNat).2 hf

theorem isSome_readField_route {k : Fin 96} (hi : index.toNat = k.val) (hf : field.toNat < 8) :
    (s.readField .route index.toNat field.toNat).isSome = true := by
  rw [State.readField, indexOf_of_eq hi]
  exact (isSome_read_route _ _).2 hf

theorem isSome_readField_signal {k : Fin 20} (hi : index.toNat = k.val) (hf : field.toNat < 11) :
    (s.readField .signal index.toNat field.toNat).isSome = true := by
  rw [State.readField, indexOf_of_eq hi]
  exact (isSome_read_signal _ _).2 hf

theorem isSome_readField_channel {d : Chan} (hi : index.toNat = d.number) (hf : field.toNat < 5) :
    (s.readField .channel index.toNat field.toNat).isSome = true := by
  rw [hi, readField_channel, isSome_readChannel]
  omega

theorem isSome_readField_gradeCurve {k : Fin 8} (hi : index.toNat = k.val) (hf : field.toNat < 2) :
    (s.readField .gradeCurve index.toNat field.toNat).isSome = true := by
  rw [State.readField, indexOf_of_eq hi]
  exact (isSome_read_breakpoint _ _).2 hf

theorem isSome_readField_drumCurve {k : Fin 5} (hi : index.toNat = k.val) (hf : field.toNat < 2) :
    (s.readField .drumCurve index.toNat field.toNat).isSome = true := by
  rw [State.readField, indexOf_of_eq hi]
  exact (isSome_read_breakpoint _ _).2 hf

/-! ### The write made -/

theorem takenOrHeld_of_takes {α : Type} {item x : α} {written : Option α}
    (h : s.Takes g index field v item x written) :
    takenOrHeld (s.readField g index.toNat field.toNat) v item written = some x := (takenOrHeld_eq_some _ _ _ _ _).2 h

/-- R157: a write that meets no test. -/
theorem judgeWrite_taken (hr : (s.readField g index.toNat field.toNat).isSome = true) (hg : g.readOnly = false)
    (hb : s.busy = false) (hw : s.writeField g index.toNat field.toNat v = some t) :
    s.judgeWrite g index.toNat field.toNat v = t.answer v := by
  obtain ⟨old, hold⟩ := Option.isSome_iff_exists.1 hr
  rw [State.judgeWrite, hold, hg, hb, hw]
  rfl

/-- R156, R158: the state that the write has made, its reply in the queue. -/
def replied (s t : State) (g : Group) (index field : Byte) (v : Word32) : State :=
  withQueues t [] (s.resp.replies ++ [okReply t.work.settings.replyId codeWrite g.byte index field v v])

theorem exec_write (hc : requestOf c = some ⟨true, 2#8, g.byte, index, field, v⟩) (hs : s.Serves)
    (hr : (s.readField g index.toNat field.toNat).isSome = true) (hg : g.readOnly = false) (hb : s.busy = false)
    (hw : s.writeField g index.toNat field.toNat v = some t) : exec c s = .next (replied s t g index field v) :=
  exec_row_answer hc hs ((judgeRequest_write rfl rfl (ofByte_byte g)).trans (judgeWrite_taken hr hg hb hw))

/-- R13: the reply changes nothing of the route table. -/
theorem mergeIdAfterCheck_replied {before : Option CanId} (h : State.MergeIdAfterCheck before t) :
    State.MergeIdAfterCheck before (replied s t g index field v) := ⟨h.invalid, h.entry, h.absent⟩

/-- R158, R159: the state `t` that a write of `s` has left: what no write touches, and the reply. -/
def AnsweredWrite (s t : State) (group index field : Byte) (v : Word32) : Prop :=
  t.steady = s.steady ∧ t.resp.replies = s.resp.replies ++
    [okReply t.work.settings.replyId codeWrite group index field v v]

/-- R82, R83: UNAVAILABLE with the first condition while a table is SUSPENDED. -/
def HeldWhileBad (t : State) : Prop :=
  t.configBad = true → t.sup.state = .unavailable ∧ t.unavailableReasons.head? = some t.sup.reason

theorem answeredWrite_replied (hs : s.Serves) (h : t.steady = s.steady) :
    AnsweredWrite s (replied s t g index field v) g.byte index field v := by
  have hq : t.resp.requests = s.resp.requests := by
    have e := congrArg (fun x : State => x.resp.requests) h
    exact e
  refine ⟨?_, rfl⟩
  rw [← h, replied, withQueues, ← hs.requests, ← hq]
  rfl

/-- R82, R83: the reply changes nothing of the supervisor. -/
theorem heldWhileBad_replied (h : t.configBad = true → Held t) : HeldWhileBad (replied s t g index field v) := by
  intro hb
  obtain ⟨hstate, hreason⟩ := h hb
  exact ⟨hstate, hreason⟩

end

theorem calculator_state_wroteCurve (s : State) : s.wroteCurve.calculator.state = .inForce ↔
    curvesValid s.work.gradeCurve s.work.drumCurve = true := by
  rw [State.calculator_state_of_calm (calm_wroteCurve s)]
  exact calculator_state_checkCurves s

theorem route_wroteRoute (s : State) : s.wroteRoute.route = s.checkRoutes.route := State.route_of_calm (calm_wroteRoute s)

theorem route_state_wroteRoute (s : State) : s.wroteRoute.route.state = .inForce ↔ routesValid s.work.routes = true := by
  rw [route_wroteRoute]
  exact route_state_checkRoutes s

theorem mergeIdAfterCheck_wroteRoute (s : State) : State.MergeIdAfterCheck s.route.mergeId s.wroteRoute :=
  mergeIdAfterCheck_of_checkRoutes (congrArg Working.routes (work_wroteRoute s)) (route_wroteRoute s)

/-! ### The rows, group by group -/

section
variable {s : State} {index field : Byte} {v : Word32}

theorem exec_writeSetting {x : Settings} (hs : s.Serves) (hb : s.busy = false)
    (h : s.Takes .settings 0#8 field v s.work.settings x (s.work.settings.write field.toNat v)) :
    exec (.writeSetting field v) s = .next (replied s ((s.setWork { s.work with settings := x }).wroteSetting field.toNat)
      .settings 0#8 field v) := by
  refine exec_write (g := .settings) rfl hs (isSome_readField_of_takes h fun hw =>
    isSome_readField_settings s (lt_of_write hw)) rfl hb ?_
  rw [State.writeField, takenOrHeld_of_takes h]
  rfl

theorem exec_writeRouteEntry {k : Fin 96} {x : RouteEntry} (hs : s.Serves) (hb : s.busy = false)
    (hi : index.toNat = k.val)
    (h : s.Takes .route index field v (s.work.routes.get k) x ((s.work.routes.get k).write field.toNat v)) :
    exec (.writeRouteEntry index field v) s = .next (replied s
      ((s.setWork { s.work with routes := s.work.routes.set k x }).wroteRoute) .route index field v) := by
  refine exec_write (g := .route) rfl hs (isSome_readField_of_takes h fun hw =>
    isSome_readField_route hi (lt_of_written (fun j => (s.work.routes.get k).write j v) (fun _ => rfl) hw)) rfl hb ?_
  simp only [State.writeField, indexOf_of_eq hi, Option.bind_some, takenOrHeld_of_takes h, Option.map_some]

theorem exec_writeSignalEntry {k : Fin 20} {x : SigEntry} (hs : s.Serves) (hb : s.busy = false)
    (hi : index.toNat = k.val)
    (h : s.Takes .signal index field v (s.work.signals.get k) x ((s.work.signals.get k).write field.toNat v)) :
    exec (.writeSignalEntry index field v) s = .next (replied s
      ((s.setWork { s.work with signals := s.work.signals.set k x }).wroteSignal k (s.work.signals.get k).role x.role) .signal index field v) := by
  refine exec_write (g := .signal) rfl hs (isSome_readField_of_takes h fun hw =>
    isSome_readField_signal hi (lt_of_written (fun j => (s.work.signals.get k).write j v) (fun _ => rfl) hw)) rfl hb ?_
  simp only [State.writeField, indexOf_of_eq hi, Option.bind_some, takenOrHeld_of_takes h, Option.map_some]

theorem exec_writeChannelEntry {c : Chan} {x : ChanEntry} (hs : s.Serves) (hb : s.busy = false)
    (hi : index.toNat = c.number)
    (h : s.Takes .channel index field v (s.work.channels.get c) x ((s.work.channels.get c).write field.toNat v)) :
    exec (.writeChannelEntry index field v) s = .next (replied s
      ((s.setWork { s.work with channels := s.work.channels.set c x }).wroteChannel c field.toNat) .channel index field v) := by
  refine exec_write (g := .channel) rfl hs (isSome_readField_of_takes h fun hw =>
    isSome_readField_channel hi (lt_of_written (fun j => (s.work.channels.get c).write j v) (fun _ => rfl) hw)) rfl hb ?_
  simp only [State.writeField, chanOf_of_eq hi, Option.bind_some, takenOrHeld_of_takes h, Option.map_some]

theorem exec_writeGradeCurve {k : Fin 8} {x : Breakpoint} (hs : s.Serves) (hb : s.busy = false)
    (hi : index.toNat = k.val)
    (h : s.Takes .gradeCurve index field v (s.work.gradeCurve.get k) x ((s.work.gradeCurve.get k).write 450 6000 field.toNat v)) :
    exec (.writeCurveBreakpoint .grade index field v) s = .next (replied s
      ((s.setWork { s.work with gradeCurve := s.work.gradeCurve.set k x }).wroteCurve) .gradeCurve index field v) := by
  refine exec_write (g := .gradeCurve) rfl hs (isSome_readField_of_takes h fun hw =>
    isSome_readField_gradeCurve hi (lt_of_written (fun j => (s.work.gradeCurve.get k).write 450 6000 j v) (fun _ => rfl) hw)) rfl hb ?_
  simp only [State.writeField, indexOf_of_eq hi, Option.bind_some, takenOrHeld_of_takes h, Option.map_some]

theorem exec_writeDrumCurve {k : Fin 5} {x : Breakpoint} (hs : s.Serves) (hb : s.busy = false)
    (hi : index.toNat = k.val)
    (h : s.Takes .drumCurve index field v (s.work.drumCurve.get k) x ((s.work.drumCurve.get k).write 200 400 field.toNat v)) :
    exec (.writeCurveBreakpoint .drum index field v) s = .next (replied s
      ((s.setWork { s.work with drumCurve := s.work.drumCurve.set k x }).wroteCurve) .drumCurve index field v) := by
  refine exec_write (g := .drumCurve) rfl hs (isSome_readField_of_takes h fun hw =>
    isSome_readField_drumCurve hi (lt_of_written (fun j => (s.work.drumCurve.get k).write 200 400 j v) (fun _ => rfl) hw)) rfl hb ?_
  simp only [State.writeField, indexOf_of_eq hi, Option.bind_some, takenOrHeld_of_takes h, Option.map_some]

/-! ### What each row leaves -/

theorem writes_settings {x : Settings} (hs : s.Serves) (hb : s.busy = false)
    (h : s.Takes .settings 0#8 field v s.work.settings x (s.work.settings.write field.toNat v)) :
    ∃ t, exec (.writeSetting field v) s = .next t ∧ t.work = { s.work with settings := x } ∧
      AnsweredWrite s t 0#8 0#8 field v ∧
      t.calculator.payloadUsed = if field = 9#8 then x.maxPayload else s.calculator.payloadUsed := by
  let u := s.setWork { s.work with settings := x }
  have hq := quiet_wroteSetting u field.toNat
  have hnine : field.toNat = 9 ↔ field = 9#8 := BitVec.toNat_inj (y := 9#8)
  refine ⟨_, exec_writeSetting hs hb h, State.work_of_quiet hq,
    answeredWrite_replied hs ((State.steady_of_quiet hq).trans (steady_setWork s _)), ?_⟩
  refine (payloadUsed_wroteSetting u _).trans ?_
  simp only [hnine]
  rfl

theorem writes_route {k : Fin 96} {x : RouteEntry} (hs : s.Serves) (hb : s.busy = false) (hi : index.toNat = k.val)
    (h : s.Takes .route index field v (s.work.routes.get k) x ((s.work.routes.get k).write field.toNat v)) :
    ∃ t, exec (.writeRouteEntry index field v) s = .next t ∧
      t.work = { s.work with routes := s.work.routes.set k x } ∧ AnsweredWrite s t 1#8 index field v ∧ HeldWhileBad t ∧
      (t.route.state = .inForce ↔ routesValid (s.work.routes.set k x) = true) ∧
      State.MergeIdAfterCheck s.route.mergeId t := by
  let u := s.setWork { s.work with routes := s.work.routes.set k x }
  have hexec := exec_writeRouteEntry hs hb hi h
  have hwork : u.wroteRoute.work = { s.work with routes := s.work.routes.set k x } := work_wroteRoute u
  have hsteady : u.wroteRoute.steady = s.steady := steady_wroteRoute u
  have hheld := held_wroteRoute (s := u) (resting_of_not_busy hb)
  have hstate : u.wroteRoute.route.state = .inForce ↔ routesValid (s.work.routes.set k x) = true := route_state_wroteRoute u
  have hmerge : State.MergeIdAfterCheck s.route.mergeId u.wroteRoute := mergeIdAfterCheck_wroteRoute u
  generalize u.wroteRoute = t at *
  exact ⟨_, hexec, hwork, answeredWrite_replied hs hsteady, heldWhileBad_replied hheld, hstate,
    mergeIdAfterCheck_replied hmerge⟩

theorem writes_signal {k : Fin 20} {x : SigEntry} (hs : s.Serves) (hb : s.busy = false) (hi : index.toNat = k.val)
    (h : s.Takes .signal index field v (s.work.signals.get k) x ((s.work.signals.get k).write field.toNat v)) :
    ∃ t, exec (.writeSignalEntry index field v) s = .next t ∧
      t.work = { s.work with signals := s.work.signals.set k x } ∧ AnsweredWrite s t 2#8 index field v ∧
      HeldWhileBad t ∧ t.channels.derived = t.deriveChannels ∧
      (t.signals.state = .inForce ↔ signalsValid (s.work.signals.set k x) = true) ∧
      t.signals.records = s.signals.records.set k ⟨0, .lost, false, none, none, .unknown⟩ ∧
      let touches (r : Role) : Prop := (s.work.signals.get k).role = r ∨ x.role = r
      (touches .grade → t.signals.window = []) ∧ (¬touches .grade → t.signals.window = s.signals.window) ∧
      (touches .drumSpeed → t.signals.keptSign = .none ∧ t.signals.reversal = none) ∧
      (¬touches .drumSpeed → t.signals.keptSign = s.signals.keptSign ∧ t.signals.reversal = s.signals.reversal) := by
  let u := s.setWork { s.work with signals := s.work.signals.set k x }
  have hsig := State.signals_of_quiet (quiet_wroteSignal u k (s.work.signals.get k).role x.role)
  obtain ⟨hrecords, hwindow, hsign, hrev⟩ := signals_signalWritten u k
    (decide ((s.work.signals.get k).role = .grade ∨ x.role = .grade))
    (decide ((s.work.signals.get k).role = .drumSpeed ∨ x.role = .drumSpeed))
  rw [← hsig] at hrecords hwindow hsign hrev
  refine ⟨_, exec_writeSignalEntry hs hb hi h, work_wroteSignal u k _ _,
    answeredWrite_replied hs (steady_wroteSignal u k _ _),
    heldWhileBad_replied (held_wroteSignal (s := u) (resting_of_not_busy hb)),
    derived_wroteSignal u k _ _, signals_state_wroteSignal u k _ _, hrecords, fun hg => ?_, fun hg => ?_, fun hd => ?_,
    fun hd => ?_⟩
  · exact hwindow.trans (if_pos (decide_eq_true hg))
  · exact hwindow.trans (if_neg (by simpa using hg))
  · exact ⟨hsign.trans (if_pos (decide_eq_true hd)), hrev.trans (if_pos (decide_eq_true hd))⟩
  · exact ⟨hsign.trans (if_neg (by simpa using hd)), hrev.trans (if_neg (by simpa using hd))⟩

theorem writes_channel {c : Chan} {x : ChanEntry} (hs : s.Serves) (hb : s.busy = false) (hi : index.toNat = c.number)
    (h : s.Takes .channel index field v (s.work.channels.get c) x ((s.work.channels.get c).write field.toNat v)) :
    ∃ t, exec (.writeChannelEntry index field v) s = .next t ∧
      t.work = { s.work with channels := s.work.channels.set c x } ∧ AnsweredWrite s t 5#8 index field v ∧
      HeldWhileBad t ∧ t.channels.derived = t.deriveChannels ∧
      (t.channels.state = .inForce ↔ channelsValid (s.work.channels.set c x) = true) ∧
      (field.toNat ≤ 2 → t.channels.records.get c = { s.channels.records.get c with
        handshake := if x.expected then .listening else .absent
        count := 0, pressure := 0, fault := false, age := .lost, stale := none, loss := none }) := by
  let u := s.setWork { s.work with channels := s.work.channels.set c x }
  have hexec := exec_writeChannelEntry hs hb hi h
  have hwork : (u.wroteChannel c field.toNat).work = { s.work with channels := s.work.channels.set c x } :=
    work_wroteChannel u c _
  have hsteady : (u.wroteChannel c field.toNat).steady = s.steady := steady_wroteChannel u c _
  have hheld := held_wroteChannel (s := u) (c := c) (field := field.toNat) (resting_of_not_busy hb)
  have hderived := derived_wroteChannel u c field.toNat
  have hstate : (u.wroteChannel c field.toNat).channels.state = .inForce ↔
      channelsValid (s.work.channels.set c x) = true := channels_state_wroteChannel u c _
  have hx : u.work.channels.get c = x := PerChan.get_set_self _ _ _
  have hrecord (hf : field.toNat ≤ 2) : (u.wroteChannel c field.toNat).channels.records.get c =
      (s.channels.records.get c).restart x.expected := (record_wroteChannel hf).trans (by rw [hx]; rfl)
  generalize u.wroteChannel c field.toNat = t at *
  exact ⟨_, hexec, hwork, answeredWrite_replied hs hsteady, heldWhileBad_replied hheld, hderived, hstate, hrecord⟩

theorem writes_gradeCurve {k : Fin 8} {x : Breakpoint} (hs : s.Serves) (hb : s.busy = false) (hi : index.toNat = k.val)
    (h : s.Takes .gradeCurve index field v (s.work.gradeCurve.get k) x
      ((s.work.gradeCurve.get k).write 450 6000 field.toNat v)) :
    ∃ t, exec (.writeCurveBreakpoint .grade index field v) s = .next t ∧
      t.work = { s.work with gradeCurve := s.work.gradeCurve.set k x } ∧ AnsweredWrite s t 3#8 index field v ∧
      HeldWhileBad t ∧
      (t.calculator.state = .inForce ↔ curvesValid (s.work.gradeCurve.set k x) s.work.drumCurve = true) := by
  let u := s.setWork { s.work with gradeCurve := s.work.gradeCurve.set k x }
  exact ⟨_, exec_writeGradeCurve hs hb hi h, work_wroteCurve u, answeredWrite_replied hs (steady_wroteCurve u),
    heldWhileBad_replied (held_wroteCurve (s := u) (resting_of_not_busy hb)), calculator_state_wroteCurve u⟩

theorem writes_drumCurve {k : Fin 5} {x : Breakpoint} (hs : s.Serves) (hb : s.busy = false) (hi : index.toNat = k.val)
    (h : s.Takes .drumCurve index field v (s.work.drumCurve.get k) x
      ((s.work.drumCurve.get k).write 200 400 field.toNat v)) :
    ∃ t, exec (.writeCurveBreakpoint .drum index field v) s = .next t ∧
      t.work = { s.work with drumCurve := s.work.drumCurve.set k x } ∧ AnsweredWrite s t 4#8 index field v ∧
      HeldWhileBad t ∧
      (t.calculator.state = .inForce ↔ curvesValid s.work.gradeCurve (s.work.drumCurve.set k x) = true) := by
  let u := s.setWork { s.work with drumCurve := s.work.drumCurve.set k x }
  exact ⟨_, exec_writeDrumCurve hs hb hi h, work_wroteCurve u, answeredWrite_replied hs (steady_wroteCurve u),
    heldWhileBad_replied (held_wroteCurve (s := u) (resting_of_not_busy hb)), calculator_state_wroteCurve u⟩

end

/-- Settles O51: each table's write, seen through its notices and its reply. -/
theorem writesChangeTheWorkingCopy : Obligations.WritesChangeTheWorkingCopy :=
  fun _ _ _ hs hb => ⟨fun _ => writes_settings hs hb, fun _ _ _ hi => writes_route hs hb hi,
    fun _ _ _ hi => writes_signal hs hb hi, fun _ _ _ hi => writes_channel hs hb hi,
    fun _ _ _ hi => writes_gradeCurve hs hb hi, fun _ _ _ hi => writes_drumCurve hs hb hi⟩

end Sys2Proof.Machine.TableWrites
